-- ==== Sys2Proof/Word.lean ====
section
/-! DEFINITION. The words and index types of the RI-816 (spec/00_scope.md, Terms and Units). -/

namespace Sys2Proof

/-- A byte of a frame, a cartridge-bus message or a reply. -/
abbrev Byte := BitVec 8

/-- A 16-bit word: the CRC-16 of R6, the summary word of R188. -/
abbrev Word16 := BitVec 16

/-- A 32-bit word: the condition vector of R189, the fault mask of R192, a word of SHA-256. -/
abbrev Word32 := BitVec 32

/-- A cartridge slot, 0 to 7. -/
abbrev Slot := Fin 8

/-- A head lane, 0 to 15. -/
abbrev Lane := Fin 16

/-- A thermal input TH0 to TH7. -/
abbrev ThermalInput := Fin 8

/-- A temperature band, 0 to 7. -/
abbrev Band := Fin 8

/-- A converter code, 0 to 4095 (chapter 4). -/
abbrev Code := Fin 4096

/-- A cartridge's 64-bit serial number. -/
abbrev Serial := BitVec 64

/-- The 32-byte root key (R122). -/
abbrev RootKey := BitVec 256

/-- A 16-byte nonce (R130). -/
abbrev Nonce := BitVec 128

/-- A retired record position, 0 to 47 (chapter 10). -/
abbrev RetiredPosition := Fin 48

/-- The eight slots in order. -/
def allSlots : List Slot := [0, 1, 2, 3, 4, 5, 6, 7]

/-- The sixteen lanes in order. -/
def allLanes : List Lane := [0, 1, 2, 3, 4, 5, 6, 7, 8, 9, 10, 11, 12, 13, 14, 15]

/-- The eight thermal inputs in order. -/
def allInputs : List ThermalInput := [0, 1, 2, 3, 4, 5, 6, 7]

end Sys2Proof
end

