-- ==== Sys2Proof/Syntax.lean ====
section
/-! DEFINITION. The commands of the RI-816: one constructor for each row of spec/opcode_table.json. -/

namespace Sys2Proof

/-- A record position of the Record Store (R173), named by its kind and its number. -/
inductive RecordPos where
  | key
  | checkpoint (slot : Slot)
  | retired (position : RetiredPosition)
deriving DecidableEq, Repr

/-- The steps of the part, each whole and indivisible (spec/95_what_each_step_holds.md). The table gives a row no
operands; an operand here is what comes from outside the part with the event. The rows from `unknownKindFrame` to
`streamReset` and from `unknownRequest` on take their frame from the input buffer (R3). -/
inductive Instr where
  /-- POWER_ON; `decayed` names the stored positions that no longer pass the check of R174 (DESIGN CHOICE, log 8). -/
  | powerOn (decayed : List RecordPos)
  | endOfRestoring
  | lossOfPower
  | pinResetAsserted
  | pinResetReleased
  /-- FRAME_ARRIVAL_BEGINS with the first byte, the kind code (R1). -/
  | frameArrivalBegins (kind : Byte)
  /-- FRAME_ARRIVAL_ENDS with the bytes after the first (DEDUCED, log 9). -/
  | frameArrivalEnds (rest : List Byte)
  | unknownKindFrame
  | fire
  | spit
  | swathStart
  | swathEnd
  | streamReset
  | heldSwathStartForwarded
  /-- HEAD_TRANSFER_BEGINS with the level of the head ready input (R18, DESIGN CHOICE, log 24). -/
  | headTransferBegins (ready : Bool)
  | headTransferCompletes
  | returnTransmissionBegins
  | returnTransmissionCompletes
  /-- SEAT_CHANGE with the slot and its new raw level (R76). -/
  | seatChange (slot : Slot) (level : Bool)
  | debounceExpiry (slot : Slot)
  | settleTimerExpiry (slot : Slot)
  | idleTimerExpiry (slot : Slot)
  /-- CARTRIDGE_RESPONSE with the slot and the bytes that arrived (R83). -/
  | cartridgeResponse (slot : Slot) (response : List Byte)
  /-- ATTEMPT_TIMEOUT with the slot and the count of response bytes that had arrived (R83). -/
  | attemptTimeout (slot : Slot) (received : Nat)
  /-- CONVERSION_COMPLETE with the code the converter measured (R62). -/
  | conversionComplete (code : Code)
  /-- PROGRAM_VERIFY with whether the verify passes (R176). -/
  | programVerify (passes : Bool)
  | unknownRequest
  | readSummary
  | readSlot
  | collectStatus
  | startOperation
  | haltSlot
  | writeSlotConfig
  | readSlotConfig
  | writeLane
  | readLane
  | readLaneCounters
  | writePolicy
  | readPolicy
  | lockPolicy
  | writeSequence
  | setSampleMode
  | sampleNext
  | sampleInput
  | readSamples
  | writeLimits
  | readRetired
  | forgetRetired
  | provisionKey
  | resumeStream
  | clearConditions
  | writeFaultMask
deriving DecidableEq, Repr

end Sys2Proof
end

