-- ==== Sys2Proof/Machine/Bytes.lean ====
section
/-! DEFINITION. Byte order: every multi-byte number of the part is sent most significant byte first (R128, R195 to R197). -/

namespace Sys2Proof.Machine

/-- The number that bytes spell, most significant first. -/
def beNat (bs : List Byte) : Nat := bs.foldl (fun acc b => acc * 256 + b.toNat) 0

/-- The low `k` bytes of a number, most significant first. -/
def beBytes : Nat → Nat → List Byte
  | 0, _ => []
  | k + 1, n => BitVec.ofNat 8 (n / 256 ^ k) :: beBytes k n

/-- A signed number in two's complement over `k` bytes (R196). -/
def beSigned (k : Nat) (i : Int) : List Byte := beBytes k (i % (256 ^ k : Nat)).toNat

/-- A number's low byte. -/
def byteOf (n : Nat) : Byte := BitVec.ofNat 8 n

/-- A flag at a bit of a field. -/
def flagAt (i : Nat) (b : Bool) : Nat := if b then 2 ^ i else 0

/-- The byte at a place of a message; 00h beyond its end. -/
def byteAt (bs : List Byte) (i : Nat) : Byte := bs.getD i 0

/-- The number in `k` bytes from a place of a message. -/
def fieldAt (bs : List Byte) (i k : Nat) : Nat := beNat ((bs.drop i).take k)

/-- A list cut or filled with 00h to `k` bytes. -/
def padTo (k : Nat) (bs : List Byte) : List Byte := (bs ++ List.replicate k 0).take k

end Sys2Proof.Machine
end

