-- ==== Sys2Proof/Machine/Crc.lean ====
section
/-! DEFINITION. The two cyclic redundancy checks: CRC-16 of frames and records (R6), CRC-8 of cartridge-bus messages (R82). -/

namespace Sys2Proof.Machine

/-- One shift of the CRC-16 register with the polynomial 1021h (R6). -/
def crc16Shift (crc : Word16) : Word16 := if crc.msb then (crc <<< 1) ^^^ 0x1021#16 else crc <<< 1

/-- One byte into the CRC-16 register, no reflection (R6). -/
def crc16Byte (crc : Word16) (b : Byte) : Word16 :=
  let c := crc ^^^ (b.setWidth 16 <<< 8)
  crc16Shift (crc16Shift (crc16Shift (crc16Shift (crc16Shift (crc16Shift (crc16Shift (crc16Shift c)))))))

/-- CRC-16 with the initial value 0FFFFh and no final inversion (R6). -/
def crc16 (bs : List Byte) : Word16 := bs.foldl crc16Byte 0xFFFF#16

/-- A message followed by its CRC-16, high byte first (R6). -/
def withCrc16 (bs : List Byte) : List Byte := bs ++ beBytes 2 (crc16 bs).toNat

/-- One shift of the CRC-8 register with the polynomial 07h (R82). -/
def crc8Shift (crc : Byte) : Byte := if crc.msb then (crc <<< 1) ^^^ 0x07#8 else crc <<< 1

/-- One byte into the CRC-8 register (R82). -/
def crc8Byte (crc : Byte) (b : Byte) : Byte :=
  let c := crc ^^^ b
  crc8Shift (crc8Shift (crc8Shift (crc8Shift (crc8Shift (crc8Shift (crc8Shift (crc8Shift c)))))))

/-- CRC-8 with the initial value 00h and no final inversion (R82). -/
def crc8 (bs : List Byte) : Byte := bs.foldl crc8Byte 0

/-- A message followed by its CRC-8 (R82). -/
def withCrc8 (bs : List Byte) : List Byte := bs ++ [crc8 bs]

end Sys2Proof.Machine
end

