-- ==== Sys2Proof/Machine/Digest.lean ====
section
/-! DEFINITION. The keyed digest (R128): HMAC built on SHA-256, cut to 16 bytes. R128 gives the HMAC steps; the inside of
SHA-256 is PRESUMED from the published hash standard, which the spec names and does not repeat (log 11, unsafe). -/

namespace Sys2Proof.Machine

/-- The eight working variables of SHA-256. -/
structure ShaState where
  a : Word32
  b : Word32
  c : Word32
  d : Word32
  e : Word32
  f : Word32
  g : Word32
  h : Word32
deriving DecidableEq, Repr

/-- PRESUMED (log 11): the initial hash value. -/
def shaInit : ShaState :=
  { a := 0x6a09e667, b := 0xbb67ae85, c := 0x3c6ef372, d := 0xa54ff53a, e := 0x510e527f, f := 0x9b05688c,
    g := 0x1f83d9ab, h := 0x5be0cd19 }

/-- PRESUMED (log 11): the round constants. -/
def shaRoundConstants : List Word32 :=
  [0x428a2f98, 0x71374491, 0xb5c0fbcf, 0xe9b5dba5, 0x3956c25b, 0x59f111f1, 0x923f82a4, 0xab1c5ed5] ++
  [0xd807aa98, 0x12835b01, 0x243185be, 0x550c7dc3, 0x72be5d74, 0x80deb1fe, 0x9bdc06a7, 0xc19bf174] ++
  [0xe49b69c1, 0xefbe4786, 0x0fc19dc6, 0x240ca1cc, 0x2de92c6f, 0x4a7484aa, 0x5cb0a9dc, 0x76f988da] ++
  [0x983e5152, 0xa831c66d, 0xb00327c8, 0xbf597fc7, 0xc6e00bf3, 0xd5a79147, 0x06ca6351, 0x14292967] ++
  [0x27b70a85, 0x2e1b2138, 0x4d2c6dfc, 0x53380d13, 0x650a7354, 0x766a0abb, 0x81c2c92e, 0x92722c85] ++
  [0xa2bfe8a1, 0xa81a664b, 0xc24b8b70, 0xc76c51a3, 0xd192e819, 0xd6990624, 0xf40e3585, 0x106aa070] ++
  [0x19a4c116, 0x1e376c08, 0x2748774c, 0x34b0bcb5, 0x391c0cb3, 0x4ed8aa4a, 0x5b9cca4f, 0x682e6ff3] ++
  [0x748f82ee, 0x78a5636f, 0x84c87814, 0x8cc70208, 0x90befffa, 0xa4506ceb, 0xbef9a3f7, 0xc67178f2]

/-- One word appended to the message schedule, which stands newest first. -/
def shaExtend (w : List Word32) : List Word32 :=
  let w2 := w.getD 1 0
  let w15 := w.getD 14 0
  let s0 := w15.rotateRight 7 ^^^ w15.rotateRight 18 ^^^ (w15 >>> 3)
  let s1 := w2.rotateRight 17 ^^^ w2.rotateRight 19 ^^^ (w2 >>> 10)
  (w.getD 15 0 + s0 + w.getD 6 0 + s1) :: w

/-- The message schedule after `k` appended words. -/
def shaExtendBy : Nat → List Word32 → List Word32
  | 0, w => w
  | k + 1, w => shaExtendBy k (shaExtend w)

/-- The 64 words of a block's message schedule, in order. -/
def shaSchedule (block : List Word32) : List Word32 := (shaExtendBy 48 block.reverse).reverse

/-- One round, with its round constant and schedule word. -/
def shaRound (s : ShaState) (kw : Word32 × Word32) : ShaState :=
  let s1 := s.e.rotateRight 6 ^^^ s.e.rotateRight 11 ^^^ s.e.rotateRight 25
  let ch := (s.e &&& s.f) ^^^ (~~~s.e &&& s.g)
  let t1 := s.h + s1 + ch + kw.1 + kw.2
  let s0 := s.a.rotateRight 2 ^^^ s.a.rotateRight 13 ^^^ s.a.rotateRight 22
  let maj := (s.a &&& s.b) ^^^ (s.a &&& s.c) ^^^ (s.b &&& s.c)
  { a := t1 + (s0 + maj), b := s.a, c := s.b, d := s.c, e := s.d + t1, f := s.e, g := s.f, h := s.g }

/-- One block of sixteen words into the hash value. -/
def shaBlock (s : ShaState) (block : List Word32) : ShaState :=
  let t := (shaRoundConstants.zip (shaSchedule block)).foldl shaRound s
  { a := s.a + t.a, b := s.b + t.b, c := s.c + t.c, d := s.d + t.d, e := s.e + t.e, f := s.f + t.f, g := s.g + t.g,
    h := s.h + t.h }

/-- Bytes in fours as words, most significant byte first. -/
def shaWords : List Byte → List Word32
  | a :: b :: c :: d :: rest => BitVec.ofNat 32 (beNat [a, b, c, d]) :: shaWords rest
  | _ => []

/-- `k` blocks of sixteen words each into the hash value. -/
def shaBlocks : Nat → ShaState → List Word32 → ShaState
  | 0, s, _ => s
  | k + 1, s, ws => shaBlocks k (shaBlock s (ws.take 16)) (ws.drop 16)

/-- The message with its padding: 80h, bytes of 00h, and the bit length in 8 bytes. -/
def shaPad (m : List Byte) : List Byte :=
  m ++ [0x80#8] ++ List.replicate ((119 - m.length % 64) % 64) 0 ++ beBytes 8 (m.length * 8)

/-- SHA-256: it maps any byte string to a 32-byte hash (R128). -/
def sha256 (m : List Byte) : List Byte :=
  let p := shaPad m
  let s := shaBlocks (p.length / 64) shaInit (shaWords p)
  [s.a, s.b, s.c, s.d, s.e, s.f, s.g, s.h].flatMap fun w => beBytes 4 w.toNat

/-- The keyed digest of a message under a key of 16 or 32 bytes, step by step as R128 gives it. -/
def keyedDigest (key message : List Byte) : List Byte :=
  let k := padTo 64 key
  let inner := k.map (· ^^^ 0x36#8)
  let outer := k.map (· ^^^ 0x5C#8)
  (sha256 (outer ++ sha256 (inner ++ message))).take 16

/-- The cartridge key of a serial under the root key (R129). -/
def cartridgeKey (root : RootKey) (serial : Serial) : List Byte :=
  keyedDigest (beBytes 32 root.toNat) (beBytes 8 serial.toNat)

/-- The expected tag: the keyed digest of the 29-byte message of R131 under the cartridge key. -/
def expectedTag (root : RootKey) (nonce : Nonce) (serial : Serial) (used generation : Nat) : List Byte :=
  keyedDigest (cartridgeKey root serial)
    (beBytes 16 nonce.toNat ++ beBytes 8 serial.toNat ++ beBytes 4 used ++ beBytes 1 generation)

end Sys2Proof.Machine
end

