-- ==== Sys2Proof/Config.lean ====
section
/-! DEFINITION. What the manual fixes for the part and what it leaves to the part's random source. -/

namespace Sys2Proof

/-- Q_IU, the fine units in one ink unit (spec/00_scope.md, Units). -/
def Config.qIU : Nat := 10240000000

/-- The largest value of the 32-bit saturating counts (R43, R68, R83). -/
def Config.max32 : Nat := 4294967295

/-- The largest value of the 48-bit lane counters (R34). -/
def Config.max48 : Nat := 281474976710655

/-- The debounce timer, in ms (R76). -/
def Config.debounceMs : Nat := 50

/-- DESIGN CHOICE (log 4, safe): the k-th nonce the part's random source yields (R130). It has no body, so no proof can
see a value of it; the step applies it to the counter `State.nonceCount` and advances the counter. -/
opaque Config.nonce : Nat → Nonce

end Sys2Proof
end

