-- ==== Sys2Proof/Machine/State.lean ====
section
/-! DEFINITION. The state of the RI-816 as plain data, block by block (spec/00_scope.md, Block overview), the reasons a
step can stop, and the state after reset. -/

namespace Sys2Proof.Machine

/-! ### Swath Port (chapter 1) -/

/-- The swath state of the Swath Port (section 1.4). -/
inductive StreamState where
  | idle
  | opened
  | held
  | resumePending
deriving DecidableEq, Repr

/-- How far a frame in the input buffer has come: its bytes still arrive, it is ready for taking (R1), or it is the held
SWATH_START, already checked (R14), which after resumption waits to be forwarded (R16). -/
inductive FramePhase where
  | arriving
  | ready
  | checked
deriving DecidableEq, Repr

/-- One place of the input buffer (R3). -/
structure BufferedFrame where
  bytes : List Byte
  phase : FramePhase
deriving DecidableEq, Repr

/-- The Swath Port's state (section 1.1). `expected = none` is the value "any" (R7). -/
structure SwathPort where
  buffer : List BufferedFrame
  expected : Option Byte
  stream : StreamState
  outQueue : List (List Byte)
  headReady : Bool
  headTransfer : Option (List Byte)
  returnTransmission : Option (List Byte)
deriving DecidableEq, Repr

/-! ### Lane Filter (chapter 2) -/

/-- A lane table entry (R22). `slot = none` is NONE: the lane is unmapped. -/
structure LaneEntry where
  slot : Option Slot
  nozzles : Nat
  v1 : Nat
  v2 : Nat
  v3 : Nat
  thermal : ThermalInput
  defaultBand : Band
  k : Vector Nat 8
deriving DecidableEq, Repr

/-- A lane's seven counters, in the order of R34. -/
structure LaneCounters where
  forwarded : Nat
  blanked : Nat
  marked : Nat
  drops1 : Nat
  drops2 : Nat
  drops3 : Nat
  unattributed : Nat
deriving DecidableEq, Repr

/-- The Lane Filter's state (section 2.1). -/
structure LaneFilter where
  table : Vector LaneEntry 16
  counters : Vector LaneCounters 16
deriving DecidableEq, Repr

/-! ### Condition Monitor (chapter 4) -/

/-- The sample mode (R65). -/
inductive SampleMode where
  | off
  | swathPaced
  | requestPaced
deriving DecidableEq, Repr

/-- The origin of a conversion; a SEQUENCE conversion carries the advancing flag (R62). -/
inductive ConversionOrigin where
  | sequence (advancing : Bool)
  | direct
deriving DecidableEq, Repr

/-- The record of the conversion in flight (R62). -/
structure Conversion where
  input : ThermalInput
  origin : ConversionOrigin
deriving DecidableEq, Repr

/-- The Condition Monitor's state (section 4.1); the depth is the length of the sequence. -/
structure Monitor where
  mode : SampleMode
  sequence : List ThermalInput
  position : Nat
  conversion : Option Conversion
  samples : Vector (Option Code) 8
  thresholds : Vector Nat 7
  limits : Vector Nat 8
  skipped : Nat
deriving DecidableEq, Repr

/-! ### Slot Controller (chapters 3, 5, 6 and 8) -/

/-- The debounced seat state (section 5.1). -/
inductive Seat where
  | empty
  | seated
deriving DecidableEq, Repr

/-- The contact supply (section 5.2). -/
inductive ContactSupply where
  | off
  | settling
  | poweredOn
deriving DecidableEq, Repr

/-- The binding states (section 5.4). -/
inductive BindingState where
  | noCartridge
  | pendingId
  | pendingAuth
  | unverified
  | verified
  | failed
  | linkLost
  | released
deriving DecidableEq, Repr

/-- The failure reasons (R89). -/
inductive FailureReason where
  | badIdentity
  | wrongInk
  | duplicate
  | auth
deriving DecidableEq, Repr

/-- The identity fields, set together from one good IDENT response (R91). -/
structure Identity where
  serial : Serial
  inkType : Nat
  capacity : Nat
  generation : Nat
deriving DecidableEq, Repr

/-- An evidence attribute (section 8.1); its threshold is `EvidenceKind.threshold`. -/
structure EvidenceAttr where
  raw : Nat
  worst : Nat
  tripped : Bool
deriving DecidableEq, Repr

/-- The four evidence attributes of a binding (section 8.1). -/
structure Evidence where
  regression : EvidenceAttr
  retiredMatch : EvidenceAttr
  overdraw : EvidenceAttr
  advanceRefused : EvidenceAttr
deriving DecidableEq, Repr

/-- The binding record (R91). `lowAtEnd` is whether LOW held when the binding ended; the kept record of a RELEASED binding
shows it, since its values no longer change (R48). -/
structure BindingRecord where
  identity : Option Identity
  uBind : Option Nat
  metered : Nat
  residue : Nat
  lastWritten : Option Nat
  sinceVerify : Nat
  unverifiedUnits : Nat
  flaggedUnits : Nat
  lowMark : Bool
  emptyMark : Bool
  overdrawMark : Bool
  evidence : Evidence
  verifiedOnce : Bool
  failure : Option FailureReason
  lowAtEnd : Bool
deriving DecidableEq, Repr

/-- The slot configuration (R92). -/
structure SlotConfig where
  inkType : Nat
  lowMark : Nat
  tolerance : Nat
  writeBack : Nat
  verify : Nat
  settle : Nat
  idle : Nat
  timeout : Nat
deriving DecidableEq, Repr

/-- The kinds of operation (chapter 6). -/
inductive OpKind where
  | bind
  | verify
  | writeBack
  | release
deriving DecidableEq, Repr

/-- The origin of an operation (chapter 6). -/
inductive Origin where
  | requested
  | auto
deriving DecidableEq, Repr

/-- The cartridge-bus transactions (R85). -/
inductive Transaction where
  | ident
  | challenge
  | advance
deriving DecidableEq, Repr

/-- The results of an operation (R104). -/
inductive OpResult where
  | verified
  | unverified
  | failed
  | written
  | short
  | released
  | link
  | halted
  | stale
deriving DecidableEq, Repr

/-- An entry of the operation queue (section 6.1). -/
structure QueueEntry where
  kind : OpKind
  origin : Origin
deriving DecidableEq, Repr

/-- The current operation (section 6.1). `step` is the transaction it waits for the supply to start, or has in flight;
`target` is the ADVANCE target once captured (R109). -/
structure CurrentOp where
  kind : OpKind
  origin : Origin
  step : Transaction
  target : Option Nat
  haltPending : Bool
deriving DecidableEq, Repr

/-- The attempt in flight of the current operation's transaction (R83): its number 1 to 3, the nonce of a CHALLENGE (R130),
the request sent, and the bus timeout its timer was started with. -/
structure Attempt where
  number : Nat
  nonce : Option Nonce
  request : List Byte
  timer : Nat
deriving DecidableEq, Repr

/-- The lane conditions in the order of R156. -/
inductive LaneCondition where
  | unmapped
  | overtemp
  | noCartridge
  | linkLost
  | failed
  | unverifiedOver
  | unverified
  | refillConfirmed
  | refillSuspect
  | empty
  | low
  | genuine
deriving DecidableEq, Repr

/-- A primary status (R116). `kind = none` with `nothingActive` is the primary of R112, step 2. -/
structure Primary where
  kind : Option OpKind
  result : OpResult
  reason : Option FailureReason
  nothingActive : Bool
deriving DecidableEq, Repr

/-- The snapshot of a status record (R119). -/
structure Snapshot where
  state : BindingState
  condition : LaneCondition
  uEst : Option Nat
deriving DecidableEq, Repr

/-- The pending status record (R116). The two sets are held in the bits of R196. -/
structure StatusRecord where
  primary : Option Primary
  overwritten : Bool
  events : Byte
  alerts : Word16
  snapshot : Snapshot
deriving DecidableEq, Repr

/-- A slot context (chapter 5, first table). A timer that runs holds the length in ms it was started with (DESIGN CHOICE,
log 2). -/
structure SlotContext where
  rawSeat : Seat
  seat : Seat
  debounce : Option Nat
  supply : ContactSupply
  settleTimer : Option Nat
  idleTimer : Option Nat
  attempt : Option Attempt
  failedAttempts : Nat
  bindingState : BindingState
  record : BindingRecord
  config : SlotConfig
  queue : List QueueEntry
  current : Option CurrentOp
  status : Option StatusRecord
  orphanResidue : Nat
  orphanCount : Nat
  swathCredited : Nat
  swathOrphaned : Nat
deriving DecidableEq, Repr

/-! ### Authentication Unit and Refill Monitor (chapters 7 and 8) -/

/-- The key state, with the root key while it is PRESENT (R122). -/
inductive KeyState where
  | absent
  | provisioning
  | present (rootKey : RootKey)
deriving DecidableEq, Repr

/-- A checkpoint record with content (section 8.5). -/
structure Checkpoint where
  serial : Serial
  generation : Nat
  acknowledged : Nat
  estimate : Nat
deriving DecidableEq, Repr

/-- The reasons of a retired entry (section 8.6). -/
inductive RetiredReason where
  | emptied
  | refill
deriving DecidableEq, Repr

/-- The stored content of a retired record (section 10.1). -/
structure RetiredContent where
  serial : Serial
  generation : Nat
  finalCount : Nat
  reason : RetiredReason
  sequence : Nat
deriving DecidableEq, Repr

/-- A retired entry of the working copy: its content and its record position (section 8.6). -/
structure RetiredEntry where
  content : RetiredContent
  position : RetiredPosition
deriving DecidableEq, Repr

/-- The Refill Monitor's working copies; the retired list stands oldest first (R147). -/
structure RefillMonitor where
  checkpoints : Vector (Option Checkpoint) 8
  retired : List RetiredEntry
  nextSeq : Nat
deriving DecidableEq, Repr

/-! ### Policy Unit (chapter 9) -/

/-- The actions (section 9.2). -/
inductive Action where
  | pass
  | mark
  | blank
  | hold
deriving DecidableEq, Repr

/-- An entry of the hold-cause list (R166). -/
structure HoldCause where
  lane : Lane
  condition : LaneCondition
deriving DecidableEq, Repr

/-- The Policy Unit's state (chapter 9); `actions` stands in the order of R156. -/
structure PolicyUnit where
  actions : Vector Action 12
  allowance : Nat
  locked : Bool
  holdCauses : List HoldCause
deriving DecidableEq, Repr

/-! ### Record Store (chapter 10) -/

/-- The form of a record position (R173). -/
inductive Stored (α : Type) where
  | blank
  | valid (content : α)
  | invalid
deriving DecidableEq, Repr

/-- A write: a record position with the full content to be programmed there (R175). `none` is an empty record. -/
inductive Write where
  | key (content : RootKey)
  | checkpoint (slot : Slot) (content : Option Checkpoint)
  | retired (position : RetiredPosition) (content : Option RetiredContent)
deriving DecidableEq, Repr

/-- The program in flight and its attempt number, 1 or 2 (R176). -/
structure Program where
  write : Write
  attempt : Nat
deriving DecidableEq, Repr

/-- The Record Store's state (chapter 10). -/
structure RecordStore where
  keyForm : Stored RootKey
  checkpointForms : Vector (Stored (Option Checkpoint)) 8
  retiredForms : Vector (Stored (Option RetiredContent)) 48
  commitQueue : List Write
  program : Option Program
  invalidCount : Nat
  heldFailure : Bool
deriving DecidableEq, Repr

/-! ### Management Agent (chapter 11) -/

/-- The device conditions (R189). -/
inductive Condition where
  | frameGuard
  | frameCrc
  | frameLength
  | sequenceGap
  | outOfSwath
  | inputOverrun
  | replyOverrun
  | reportOverrun
  | storeOverflow
  | storeWriteFail
  | restoreInvalid
  | keyAbsent
  | streamHeld
  | slotAlert
  | overtemp (input : ThermalInput)
deriving DecidableEq, Repr

/-- The result codes of a reply (R196). -/
inductive ResultCode where
  | ok
  | pending
  | busy
  | badArgument
  | badState
  | locked
  | notPresent
  | notHeld
  | unknownRequest
deriving DecidableEq, Repr

/-- One slot's figures in a swath report (R59). -/
structure SlotReport where
  credited : Nat
  orphaned : Nat
  remaining : Option Int
deriving DecidableEq, Repr

/-- A frame that waits for the return lane (R184, R187). -/
inductive ReturnFrame where
  | reply (tag code : Byte) (result : ResultCode) (data : List Byte) (summary : Word16)
  | report (unterminated : Bool) (closing : Byte) (slots : List SlotReport) (summary : Word16)
deriving DecidableEq, Repr

/-- The Management Agent's state (chapter 11). `returnQueue` holds the reply queue and the report queue in the one order in
which their frames were queued (R20). `sticky` holds the sticky conditions and those sticky while present. -/
structure Agent where
  returnQueue : List ReturnFrame
  sticky : Word32
  faultMask : Word32
deriving DecidableEq, Repr

/-! ### The whole part -/

/-- The state of the part and the commands that wait. `nonceCount` is the model's own: how many nonces the random source has
yielded (DESIGN CHOICE, log 4). `spentNonces` are the nonces of the CHALLENGE attempts that have failed since the last reset,
none of which is used again (R84, R130). `restoreEndedInReset` and `keyCommitHeld` are what R180 and R181 hold for the release
of RESET_N. -/
structure State where
  powered : Bool
  restoring : Bool
  resetAsserted : Bool
  restoreEndedInReset : Bool
  keyCommitHeld : Bool
  port : SwathPort
  lanes : LaneFilter
  monitor : Monitor
  slots : Vector SlotContext 8
  key : KeyState
  nonceCount : Nat
  spentNonces : List Nonce
  refill : RefillMonitor
  policy : PolicyUnit
  store : RecordStore
  agent : Agent
  pending : List Instr
deriving DecidableEq, Repr

/-- The spec gives the part no fault that stops it (INVENTORY.md, Faults), so there is no reason to stop with. -/
inductive Fault where
deriving DecidableEq, Repr

/-- Why a command has no meaning. -/
inductive Refusal where
  /-- Raised only by an arm of `exec` whose command has no meaning yet; safe. No arm does. -/
  | notModelled (mnemonic : String)
deriving DecidableEq, Repr

/-! ### Values after reset -/

/-- R21, power-on column. The head ready level is DESIGN CHOICE (log 24). -/
def SwathPort.initial : SwathPort :=
  { buffer := [], expected := none, stream := .idle, outQueue := [], headReady := false, headTransfer := none,
    returnTransmission := none }

/-- R22, reset values. -/
def LaneEntry.initial (lane : Lane) : LaneEntry :=
  { slot := none, nozzles := 64, v1 := 0, v2 := 0, v3 := 0, thermal := ⟨lane.val / 2, by omega⟩, defaultBand := 3,
    k := Vector.replicate 8 1024 }

/-- R37: every counter 0. -/
def LaneCounters.zero : LaneCounters :=
  { forwarded := 0, blanked := 0, marked := 0, drops1 := 0, drops2 := 0, drops3 := 0, unattributed := 0 }

/-- R37, power-on and pin reset columns. -/
def LaneFilter.initial : LaneFilter :=
  { table := Vector.ofFn LaneEntry.initial, counters := Vector.replicate 16 LaneCounters.zero }

/-- R75, power-on and pin reset columns. -/
def Monitor.initial : Monitor :=
  { mode := .off, sequence := [0], position := 0, conversion := none, samples := Vector.replicate 8 none,
    thresholds := #v[512, 1024, 1536, 2048, 2560, 3072, 3584], limits := Vector.replicate 8 4096, skipped := 0 }

/-- An attribute at the beginning of a binding (R135). -/
def EvidenceAttr.zero : EvidenceAttr := { raw := 0, worst := 0, tripped := false }

/-- The record at the beginning of a binding (R91, R56). -/
def BindingRecord.starting : BindingRecord :=
  { identity := none, uBind := none, metered := 0, residue := 0, lastWritten := none, sinceVerify := 0,
    unverifiedUnits := 0, flaggedUnits := 0, lowMark := false, emptyMark := false, overdrawMark := false,
    evidence := { regression := .zero, retiredMatch := .zero, overdraw := .zero, advanceRefused := .zero },
    verifiedOnce := false, failure := none, lowAtEnd := false }

/-- R92, reset values. -/
def SlotConfig.initial : SlotConfig :=
  { inkType := 0, lowMark := 100, tolerance := 50, writeBack := 1000, verify := 10000, settle := 5, idle := 20,
    timeout := 25 }

/-- R95, R61 and R121: a slot context at power-on, with the debounced seat state read from the raw level. -/
def SlotContext.initial (raw : Seat) : SlotContext :=
  { rawSeat := raw, seat := raw, debounce := none, supply := .off, settleTimer := none, idleTimer := none, attempt := none,
    failedAttempts := 0, bindingState := .noCartridge, record := .starting, config := .initial, queue := [],
    current := none, status := none, orphanResidue := 0, orphanCount := 0, swathCredited := 0, swathOrphaned := 0 }

/-- The working copies while RESTORING lasts, before the restore hands them over (R154, R178). DESIGN CHOICE (log 32, safe): the
spec gives them no value until then; empty tables and next number 1. -/
def RefillMonitor.initial : RefillMonitor :=
  { checkpoints := Vector.replicate 8 none, retired := [], nextSeq := 1 }

/-- R161 and R172: the reset actions in the order of R156, and the reset allowance. -/
def PolicyUnit.initial : PolicyUnit :=
  { actions := #v[.pass, .hold, .hold, .pass, .hold, .hold, .pass, .mark, .mark, .mark, .pass, .pass], allowance := 20,
    locked := false, holdCauses := [] }

/-- DESIGN CHOICE (log 5): a store never programmed since the part was made; the rest is R178 and R183. -/
def RecordStore.initial : RecordStore :=
  { keyForm := .blank, checkpointForms := Vector.replicate 8 .blank, retiredForms := Vector.replicate 48 .blank,
    commitQueue := [], program := none, invalidCount := 0, heldFailure := false }

/-- R194, power-on column. -/
def Agent.initial : Agent := { returnQueue := [], sticky := 0, faultMask := 0 }

/-- The part right after POWER_ON, RESTORING, with a store never programmed and every seat empty (DESIGN CHOICE, log 5), RESET_N
released (DESIGN CHOICE, log 6), and the key state, which R134 leaves unsettled until RESTORING ends, held as ABSENT (DESIGN
CHOICE, log 32). -/
def State.reset : State :=
  { powered := true, restoring := true, resetAsserted := false, restoreEndedInReset := false, keyCommitHeld := false,
    port := .initial, lanes := .initial, monitor := .initial, slots := Vector.replicate 8 (.initial .empty), key := .absent,
    nonceCount := 0, spentNonces := [], refill := .initial, policy := .initial, store := .initial, agent := .initial,
    pending := [] }

end Sys2Proof.Machine
end

