-- ==== Sys2Proof/Machine/Ops.lean ====
section
/-! DEFINITION. The named operations over the part's registers that every meaning shares. -/

namespace Sys2Proof.Machine

/-- A saturating count (spec/00_scope.md, Saturation and clamping). -/
def satAdd (bound a b : Nat) : Nat := min (a + b) bound

/-- A count that saturates at 2^32 - 1 (R43, R68, R83). -/
def satAdd32 (a b : Nat) : Nat := satAdd Config.max32 a b

/-- A clamped field (spec/00_scope.md, Saturation and clamping). -/
def clamp (low high v : Nat) : Nat := max low (min v high)

/-- The context of a slot. -/
def State.slot (s : State) (n : Slot) : SlotContext := s.slots[n]

/-- The state with a slot's context replaced. -/
def State.setSlot (s : State) (n : Slot) (c : SlotContext) : State := { s with slots := s.slots.set n c }

/-- The state with one slot's context changed; the eight contexts are independent (chapter 5). -/
def State.modSlot (s : State) (n : Slot) (f : SlotContext → SlotContext) : State := s.setSlot n (f (s.slot n))

/-- The state with every slot's context changed alike. -/
def State.mapSlots (s : State) (f : SlotContext → SlotContext) : State :=
  { s with slots := Vector.ofFn fun n => f s.slots[n] }

/-- One treatment made at each slot in turn, from slot 0 to slot 7. DESIGN CHOICE (log 13, unsafe): where one step treats
several slots the spec gives no order among them. -/
def overSlots (f : Slot → State → State) (s : State) : State := allSlots.foldl (fun t n => f n t) s

/-- The part works: supply applied and RESET_N released. -/
def State.alive (s : State) : Bool := s.powered && !s.resetAsserted

/-- Frames are taken and requests executed: the part works and is not RESTORING (R178). -/
def State.running (s : State) : Bool := s.alive && !s.restoring

/-- A binding begins at a slot: PENDING_ID and the starting values of R91 (R88). -/
def beginBinding (c : SlotContext) : SlotContext := { c with bindingState := .pendingId, record := .starting }

end Sys2Proof.Machine
end

