-- ==== Sys2Proof/Machine/Levels.lean ====
section
/-! DEFINITION. The values derived from a binding record: U_est, remaining ink, LOW, EMPTY, overdraw (R44, R48). They are
derived at the moment they are read and are not kept. -/

namespace Sys2Proof.Machine

/-- U_est = U_bind + metered, saturating; absent while U_bind is absent (R44). -/
def BindingRecord.uEst (r : BindingRecord) : Option Nat := r.uBind.map fun u => satAdd32 u r.metered

/-- The capacity C, once the binding is identified (R91). -/
def BindingRecord.capacity (r : BindingRecord) : Option Nat := r.identity.map fun i => i.capacity

/-- U_est with the capacity: what the values of R48 are derived from. -/
def BindingRecord.level (r : BindingRecord) : Option (Nat × Nat) :=
  match r.uEst, r.capacity with
  | some u, some c => some (u, c)
  | _, _ => none

/-- R = C - U_est, a signed number (R48). -/
def BindingRecord.remaining (r : BindingRecord) : Option Int := r.level.map fun (u, c) => (c : Int) - u

/-- LOW holds: R x 1000 ≤ low mark x C and R > 0 (R48). -/
def lowHolds (cfg : SlotConfig) (r : BindingRecord) : Bool :=
  match r.level with
  | some (u, c) => decide (((c : Int) - u) * 1000 ≤ (cfg.lowMark : Int) * c) && decide (u < c)
  | none => false

/-- EMPTY holds: R ≤ 0 (R48). -/
def emptyHolds (r : BindingRecord) : Bool :=
  match r.level with
  | some (u, c) => decide (c ≤ u)
  | none => false

/-- Overdraw in per-mille of C, saturating at 65535 (R48). -/
def BindingRecord.overdraw (r : BindingRecord) : Option Nat :=
  r.level.map fun (u, c) => if c < u then min ((u - c) * 1000 / c) 65535 else 0

/-- The OVERDRAW mark's condition: overdraw at or above the slot's tolerance (R49). -/
def overdrawReached (cfg : SlotConfig) (r : BindingRecord) : Bool :=
  match r.overdraw with
  | some o => decide (cfg.tolerance ≤ o)
  | none => false

end Sys2Proof.Machine
end

