-- ==== Sys2Proof/Machine/Conditions.lean ====
section
/-! DEFINITION. Lane conditions and actions of the Policy Unit (R155 to R161). -/

namespace Sys2Proof.Machine

/-- The place of a condition in the order of R156, which is its code (R196) and its place in the policy table. -/
def LaneCondition.index : LaneCondition → Fin 12
  | .unmapped => 0
  | .overtemp => 1
  | .noCartridge => 2
  | .linkLost => 3
  | .failed => 4
  | .unverifiedOver => 5
  | .unverified => 6
  | .refillConfirmed => 7
  | .refillSuspect => 8
  | .empty => 9
  | .low => 10
  | .genuine => 11

/-- A binding is unproved (R156). -/
def unproved (c : SlotContext) : Bool :=
  match c.bindingState with
  | .pendingId | .pendingAuth | .unverified => true
  | .linkLost => !c.record.verifiedOnce
  | .noCartridge | .verified | .failed | .released => false

/-- The rows of R156 below UNMAPPED and OVERTEMP, which are also the slot condition of R119. -/
def slotCondition (allowance : Nat) (c : SlotContext) : LaneCondition :=
  if c.bindingState = .noCartridge ∨ c.bindingState = .released then .noCartridge
  else if c.bindingState = .linkLost ∧ c.record.verifiedOnce then .linkLost
  else if c.bindingState = .failed then .failed
  else if unproved c then (if allowance ≤ c.record.unverifiedUnits then .unverifiedOver else .unverified)
  else if c.record.evidence.regression.tripped || c.record.evidence.retiredMatch.tripped then .refillConfirmed
  else if c.record.evidence.overdraw.tripped || c.record.evidence.advanceRefused.tripped then .refillSuspect
  else if emptyHolds c.record then .empty
  else if lowHolds c.config c.record then .low
  else .genuine

/-- The input has a latest sample at or above its present limit (R71, R72). -/
def overLimit (m : Monitor) (x : ThermalInput) : Bool :=
  match m.samples[x] with
  | some code => decide (m.limits[x] ≤ code.val)
  | none => false

/-- A lane's table entry. -/
def State.laneEntry (s : State) (l : Lane) : LaneEntry := s.lanes.table[l]

/-- A lane's condition: the first row of R156 whose test holds. -/
def State.laneCondition (s : State) (l : Lane) : LaneCondition :=
  match (s.laneEntry l).slot with
  | none => .unmapped
  | some n => if overLimit s.monitor (s.laneEntry l).thermal then .overtemp else slotCondition s.policy.allowance (s.slot n)

/-- The policy table's action for a condition (R159). -/
def PolicyUnit.action (p : PolicyUnit) (c : LaneCondition) : Action := p.actions[c.index]

/-- A lane's action (R159). -/
def State.laneAction (s : State) (l : Lane) : Action := s.policy.action (s.laneCondition l)

end Sys2Proof.Machine
end

