-- ==== Sys2Proof/Machine/Status.lean ====
section
/-! DEFINITION. Slot status: events, alerts, merges and the snapshot (R116 to R119), and the change of a binding state (R90). -/

namespace Sys2Proof.Machine

/-- The intermediate events (R116). -/
inductive SlotEvent where
  | bound
  | verified
  | lowCrossed
  | emptyCrossed
  | overdrawCrossed
deriving DecidableEq, Repr

/-- The alert reasons (R116). -/
inductive Alert where
  | removed
  | authFailed
  | duplicate
  | wrongInk
  | badIdentity
  | linkLost
  | refillSuspect
  | refillConfirmed
  | keyAbsent
deriving DecidableEq, Repr

/-- The set holding one event, in the event bits of R196. -/
def SlotEvent.bits : SlotEvent → Byte
  | .bound => 0x01
  | .verified => 0x02
  | .lowCrossed => 0x04
  | .emptyCrossed => 0x08
  | .overdrawCrossed => 0x10

/-- The set holding one alert, in the alert bits of R196. -/
def Alert.bits : Alert → Word16
  | .removed => 0x0001
  | .authFailed => 0x0002
  | .duplicate => 0x0004
  | .wrongInk => 0x0008
  | .badIdentity => 0x0010
  | .linkLost => 0x0020
  | .refillSuspect => 0x0040
  | .refillConfirmed => 0x0080
  | .keyAbsent => 0x0100

/-- The three things a refresh copies (R119). -/
def snapshotOf (allowance : Nat) (c : SlotContext) : Snapshot :=
  { state := c.bindingState, condition := slotCondition allowance c, uEst := c.record.uEst }

/-- Refresh of the snapshot of a pending record; no record is created (R119). -/
def refreshSnapshot (allowance : Nat) (c : SlotContext) : SlotContext :=
  { c with status := c.status.map fun r => { r with snapshot := snapshotOf allowance c } }

/-- A merge into the slot's pending record, or into a new one (R118). A merge that carries nothing is none: a record that
exists has a primary, an event or an alert (R116, DEDUCED, log 21). -/
def mergeStatus (allowance : Nat) (primary : Option Primary) (events : Byte) (alerts : Word16) (c : SlotContext) :
    SlotContext :=
  if primary = none ∧ events = 0 ∧ alerts = 0 then c
  else
    let snap := snapshotOf allowance c
    let old : StatusRecord := c.status.getD
      { primary := none, overwritten := false, events := 0, alerts := 0, snapshot := snap }
    let merged : StatusRecord :=
      { primary := primary.or old.primary, overwritten := old.overwritten || (primary.isSome && old.primary.isSome),
        events := old.events ||| events, alerts := old.alerts ||| alerts, snapshot := snap }
    { c with status := some merged }

/-- The states whose entry refreshes the snapshot (R90). -/
def refreshes : BindingState → Bool
  | .verified | .failed | .linkLost | .released | .noCartridge => true
  | .pendingId | .pendingAuth | .unverified => false

/-- A change of the binding state (R90). The failure reason is set on entering FAILED and absent in every other state (R89);
the verified-once flag is set on becoming VERIFIED; NO_CARTRIDGE has no binding record (R95, DEDUCED, log 16). -/
def enterState (allowance : Nat) (b : BindingState) (reason : Option FailureReason) (c : SlotContext) : SlotContext :=
  let record : BindingRecord :=
    match b with
    | .noCartridge => .starting
    | .verified => { c.record with failure := none, verifiedOnce := true }
    | .failed => { c.record with failure := reason }
    | .pendingId | .pendingAuth | .unverified | .linkLost | .released => { c.record with failure := none }
  let c' := { c with bindingState := b, record := record }
  if refreshes b then refreshSnapshot allowance c' else c'

end Sys2Proof.Machine
end

