-- ==== Sys2Proof/Machine/Flags.lean ====
section
/-! DEFINITION. The flags of the part: device conditions and FAULT_N (R189 to R193), the summary word (R188), and the ready
levels RDY and CRDY (R2). -/

namespace Sys2Proof.Machine

/-- The bit of a condition in the condition vector (R189). -/
def Condition.bit : Condition → Nat
  | .frameGuard => 0
  | .frameCrc => 1
  | .frameLength => 2
  | .sequenceGap => 3
  | .outOfSwath => 4
  | .inputOverrun => 5
  | .replyOverrun => 6
  | .reportOverrun => 7
  | .storeOverflow => 8
  | .storeWriteFail => 9
  | .restoreInvalid => 10
  | .keyAbsent => 11
  | .streamHeld => 12
  | .slotAlert => 13
  | .overtemp x => 16 + x.val

/-- The word with the one bit of a condition. -/
def Condition.mask (c : Condition) : Word32 := 1#32 <<< c.bit

/-- An event raises a sticky condition (R190). While RESET_N is asserted the Agent is held in reset and raises none. -/
def State.raise (s : State) (c : Condition) : State :=
  if s.resetAsserted then s else { s with agent := { s.agent with sticky := s.agent.sticky ||| c.mask } }

/-- KEY_ABSENT follows the key state (R126), except while RESET_N is asserted and during RESTORING (R193). -/
def State.keyAbsentHolds (s : State) : Bool :=
  s.running && match s.key with
    | .present _ => false
    | .absent | .provisioning => true

/-- STREAM_HELD follows the stream state (R167). -/
def State.streamHeldHolds (s : State) : Bool :=
  match s.port.stream with
  | .held | .resumePending => true
  | .idle | .opened => false

/-- A pending record holds at least one alert reason. -/
def hasAlert (c : SlotContext) : Bool :=
  match c.status with
  | some r => r.alerts != 0
  | none => false

/-- SLOT_ALERT is set while any slot's pending record holds an alert reason (R120). -/
def State.slotAlertHolds (s : State) : Bool := allSlots.any fun n => hasAlert (s.slot n)

/-- A condition's bit where it holds. -/
def conditionIf (b : Bool) (c : Condition) : Word32 := if b then c.mask else 0

/-- The device condition vector, with every condition as it stands (R186, R189). -/
def State.conditionVector (s : State) : Word32 :=
  s.agent.sticky ||| conditionIf s.keyAbsentHolds .keyAbsent ||| conditionIf s.streamHeldHolds .streamHeld |||
    conditionIf s.slotAlertHolds .slotAlert

/-- A condition is set. -/
def State.holds (s : State) (c : Condition) : Bool := s.conditionVector.getLsbD c.bit

/-- FAULT_N is asserted while a condition is set whose mask bit is clear, and released while RESET_N is asserted (R193). -/
def State.faultAsserted (s : State) : Bool :=
  !s.resetAsserted && (s.conditionVector &&& ~~~s.agent.faultMask) != 0

/-- The bits that a fault mask may hold: those of the maskable conditions (R189, R192). -/
def maskableBits : Word32 := 0x00FF37F8#32

/-- The bits of the sticky conditions, 0 to 10 (R189). -/
def stickyBits : Word32 := 0x000007FF#32

/-- CRDY (R2): a place is free, the part is not RESTORING and RESET_N is released. -/
def State.crdy (s : State) : Bool := s.running && decide (s.port.buffer.length < 4)

/-- RDY (R2): as CRDY, and the stream state is IDLE or OPEN. -/
def State.rdy (s : State) : Bool := s.crdy && !s.streamHeldHolds

/-- The code of the stream state (R196). -/
def StreamState.code : StreamState → Nat
  | .idle => 0
  | .opened => 1
  | .held => 2
  | .resumePending => 3

/-- The key state is PRESENT (R122). -/
def State.keyPresent (s : State) : Bool :=
  match s.key with
  | .present _ => true
  | .absent | .provisioning => false

/-- The status-pending flags of the summary word, bit 8 + n for slot n (section 11.6). -/
def State.statusPendingBits (s : State) : Nat :=
  allSlots.foldl (fun acc n => acc + flagAt (8 + n.val) (s.slot n).status.isSome) 0

/-- The summary word as it is formed at this moment (R188; layout in section 11.6). -/
def State.summaryWord (s : State) : Word16 :=
  BitVec.ofNat 16 (s.statusPendingBits + flagAt 6 (s.conditionVector != 0) + flagAt 5 s.keyPresent + flagAt 4 s.policy.locked +
    flagAt 3 s.monitor.conversion.isSome + 2 * s.port.stream.code + flagAt 0 s.faultAsserted)

end Sys2Proof.Machine
end

