-- ==== Sys2Proof/Machine/Store.lean ====
section
/-! DEFINITION. The Record Store's commit queue and its programs (R173 to R177). -/

namespace Sys2Proof.Machine

/-- The record position a write names (R175). -/
def Write.pos : Write → RecordPos
  | .key _ => .key
  | .checkpoint k _ => .checkpoint k
  | .retired p _ => .retired p

/-- The capacity of the commit queue (R175). -/
def commitCapacity : Nat := 16

/-- A write joins the queue, takes the place of a queued write to the same position, or is dropped (R175). -/
def enqueueWrite (w : Write) (q : List Write) : Option (List Write) :=
  if q.any (fun x => decide (x.pos = w.pos)) then some (q.map fun x => if x.pos = w.pos then w else x)
  else if q.length < commitCapacity then some (q ++ [w])
  else none

/-- A program begins when none is in flight and the queue holds a write: the oldest leaves the queue (R176). -/
def beginProgram (st : RecordStore) : RecordStore :=
  match st.program, st.commitQueue with
  | none, w :: rest => { st with program := some { write := w, attempt := 1 }, commitQueue := rest }
  | _, _ => st

/-- A write asked for by its owner, who learns whether it was taken (R175). -/
def requestWrite (w : Write) (s : State) : Bool × State :=
  match enqueueWrite w s.store.commitQueue with
  | some q => (true, { s with store := beginProgram { s.store with commitQueue := q } })
  | none => (false, s.raise .storeOverflow)

/-- As `requestWrite`, by an owner that does not act on the answer (R152, R175). -/
def commit (w : Write) (s : State) : State := (requestWrite w s).2

/-- A committed write makes its position VALID with the written content (R173). -/
def storeValid (w : Write) (st : RecordStore) : RecordStore :=
  match w with
  | .key k => { st with keyForm := .valid k }
  | .checkpoint i c => { st with checkpointForms := st.checkpointForms.set i (.valid c) }
  | .retired p c => { st with retiredForms := st.retiredForms.set p (.valid c) }

/-- A position becomes INVALID (R173). -/
def storeInvalid (p : RecordPos) (st : RecordStore) : RecordStore :=
  match p with
  | .key => { st with keyForm := .invalid }
  | .checkpoint i => { st with checkpointForms := st.checkpointForms.set i .invalid }
  | .retired i => { st with retiredForms := st.retiredForms.set i .invalid }

/-- A stored position whose content no longer passes its check (R173). A position that is not VALID keeps its form. -/
def decay (st : RecordStore) (p : RecordPos) : RecordStore :=
  match p with
  | .key => match st.keyForm with
    | .valid _ => storeInvalid p st
    | .blank | .invalid => st
  | .checkpoint i => match st.checkpointForms[i] with
    | .valid _ => storeInvalid p st
    | .blank | .invalid => st
  | .retired i => match st.retiredForms[i] with
    | .valid _ => storeInvalid p st
    | .blank | .invalid => st

/-- The field ranges of a key record (R174). -/
def keyPasses (k : RootKey) : Bool := k != 0

/-- The field ranges of a checkpoint record; one marked empty passes (R174). -/
def checkpointPasses : Option Checkpoint → Bool
  | none => true
  | some c => decide (c.generation ≤ 255) && decide (c.estimate ≤ Config.max32) && decide (c.acknowledged ≤ c.estimate)

/-- The field ranges of a retired record; one marked empty passes (R174). -/
def retiredPasses : Option RetiredContent → Bool
  | none => true
  | some r => decide (r.generation ≤ 255) && decide (1 ≤ r.sequence) && decide (r.sequence ≤ Config.max32)

/-- What a position is read as at a restore: its content when VALID and passing the check (R173, R178). -/
def readForm {α : Type} (passes : α → Bool) : Stored α → Option α
  | .valid a => if passes a then some a else none
  | .blank | .invalid => none

/-- A position is counted in the invalid count (R173, R178). -/
def countsInvalid {α : Type} (passes : α → Bool) : Stored α → Bool
  | .valid a => !passes a
  | .blank => false
  | .invalid => true

end Sys2Proof.Machine
end

