-- ==== Sys2Proof/Machine/Refill.lean ====
section
/-! DEFINITION. The Refill Monitor: evidence attributes, the evaluations, checkpoints and the retired list (chapter 8), with
the Metering Unit's judgment of marks that hands it the overdraw (R49 to R51). -/

namespace Sys2Proof.Machine

/-- The four evidence attributes (section 8.1). -/
inductive EvidenceKind where
  | regression
  | retiredMatch
  | overdraw
  | advanceRefused
deriving DecidableEq, Repr

/-- The raw value at which an attribute trips; OVERDRAW's is read from the slot configuration (R135). -/
def EvidenceKind.threshold (cfg : SlotConfig) : EvidenceKind → Nat
  | .regression => 1
  | .retiredMatch => 1
  | .overdraw => cfg.tolerance
  | .advanceRefused => 3

/-- The alert an attribute places at its first trip (R135). -/
def EvidenceKind.alert : EvidenceKind → Alert
  | .regression | .retiredMatch => .refillConfirmed
  | .overdraw | .advanceRefused => .refillSuspect

/-- An attribute of the record. -/
def Evidence.get (e : Evidence) : EvidenceKind → EvidenceAttr
  | .regression => e.regression
  | .retiredMatch => e.retiredMatch
  | .overdraw => e.overdraw
  | .advanceRefused => e.advanceRefused

/-- The record with an attribute replaced. -/
def Evidence.put (e : Evidence) (k : EvidenceKind) (a : EvidenceAttr) : Evidence :=
  match k with
  | .regression => { e with regression := a }
  | .retiredMatch => { e with retiredMatch := a }
  | .overdraw => { e with overdraw := a }
  | .advanceRefused => { e with advanceRefused := a }

/-- The bound of a raw value (R135). -/
def evidenceMax : Nat := 65535

/-- An attribute takes a raw value, followed at once by the two judgments of R135; the alert set it places stands beside
the record. -/
def setRaw (cfg : SlotConfig) (k : EvidenceKind) (v : Nat) (r : BindingRecord) : BindingRecord × Word16 :=
  let a := r.evidence.get k
  let reached := decide (k.threshold cfg ≤ v)
  let a' : EvidenceAttr := { raw := v, worst := max a.worst v, tripped := a.tripped || reached }
  ({ r with evidence := r.evidence.put k a' }, if reached && !a.tripped then k.alert.bits else 0)

/-- An attribute's raw value increases by 1, saturating (R135). -/
def countRaw (cfg : SlotConfig) (k : EvidenceKind) (r : BindingRecord) : BindingRecord × Word16 :=
  setRaw cfg k (satAdd evidenceMax (r.evidence.get k).raw 1) r

/-- An evidence step made only where a test holds. -/
def evidenceIf (b : Bool) (f : BindingRecord → BindingRecord × Word16) (p : BindingRecord × Word16) :
    BindingRecord × Word16 :=
  if b then ((f p.1).1, p.2 ||| (f p.1).2) else p

/-- The three mark flags after a judgment: each that is clear and whose condition holds is set (R49, R50). -/
def judgeMarks (cfg : SlotConfig) (r : BindingRecord) : BindingRecord :=
  { r with lowMark := r.lowMark || lowHolds cfg r, emptyMark := r.emptyMark || emptyHolds r,
           overdrawMark := r.overdrawMark || overdrawReached cfg r }

/-- The events of the marks that a judgment sets (R49). -/
def markEvents (cfg : SlotConfig) (r : BindingRecord) : Byte :=
  (if lowHolds cfg r && !r.lowMark then SlotEvent.lowCrossed.bits else 0) |||
  (if emptyHolds r && !r.emptyMark then SlotEvent.emptyCrossed.bits else 0) |||
  (if overdrawReached cfg r && !r.overdrawMark then SlotEvent.overdrawCrossed.bits else 0)

/-- The overdraw hand-over: the raw value of OVERDRAW (R51, R137). A binding without U_est receives none. -/
def handOverdraw (cfg : SlotConfig) (r : BindingRecord) : BindingRecord × Word16 :=
  match r.overdraw with
  | some o => setRaw cfg .overdraw o r
  | none => (r, 0)

/-- The silent judgment of R50 with the hand-over of R51 that follows it. -/
def judgeSilently (cfg : SlotConfig) (r : BindingRecord) : BindingRecord × Word16 := handOverdraw cfg (judgeMarks cfg r)

/-! ### The retired list (section 8.6) -/

/-- The capacity of the retired list (R147). -/
def retiredCapacity : Nat := 48

/-- The lowest-numbered free position (R148). DESIGN CHOICE (log 30): position 0 where all 48 are taken, where no rule asks
for one. -/
def lowestFree (l : List RetiredEntry) : RetiredPosition :=
  ((List.finRange 48).find? fun p => !l.any fun e => decide (e.position = p)).getD 0

/-- The entry that holds a serial. -/
def findRetired (serial : Serial) (l : List RetiredEntry) : Option RetiredEntry :=
  l.find? fun e => decide (e.content.serial = serial)

/-- The list without the entry of a serial. -/
def dropSerial (serial : Serial) (l : List RetiredEntry) : List RetiredEntry :=
  l.filter fun e => decide (e.content.serial ≠ serial)

/-- The next sequence number after one is taken (R147). -/
def nextSequence (n : Nat) : Nat := min (n + 1) Config.max32

/-- The list after an addition or update, and the position written (R148). -/
def placeRetired (content : RetiredContent) (l : List RetiredEntry) : List RetiredEntry × RetiredPosition :=
  match findRetired content.serial l with
  | some e => (dropSerial content.serial l ++ [{ content := content, position := e.position }], e.position)
  | none =>
    match l with
    | [] => ([{ content := content, position := lowestFree l }], lowestFree l)
    | oldest :: rest =>
      if l.length < retiredCapacity then (l ++ [{ content := content, position := lowestFree l }], lowestFree l)
      else (rest ++ [{ content := content, position := oldest.position }], oldest.position)

/-- An addition to the retired list, with the commit of its record (R148, R152). -/
def addRetired (serial : Serial) (generation finalCount : Nat) (reason : RetiredReason) (s : State) : State :=
  let content : RetiredContent :=
    { serial := serial, generation := generation, finalCount := finalCount, reason := reason, sequence := s.refill.nextSeq }
  let placed := placeRetired content s.refill.retired
  commit (.retired placed.2 (some content))
    { s with refill := { s.refill with retired := placed.1, nextSeq := nextSequence s.refill.nextSeq } }

/-- A removal from the retired list, with the commit of an empty record at its position (R149). -/
def removeRetired (e : RetiredEntry) (s : State) : State :=
  commit (.retired e.position none)
    { s with refill := { s.refill with retired := dropSerial e.content.serial s.refill.retired } }

/-! ### Checkpoints and the end of a binding (section 8.5) -/

/-- The checkpoint of a binding record: its serial, proved generation, A = last_written and E = U_est (R145). -/
def checkpointOf (r : BindingRecord) : Option Checkpoint :=
  match r.identity, r.lastWritten, r.uEst with
  | some i, some a, some e => some { serial := i.serial, generation := i.generation, acknowledged := a, estimate := e }
  | _, _, _ => none

/-- Checkpoint record n is written from slot n's binding, and its commit asked for (R145, R152). -/
def writeCheckpoint (n : Slot) (s : State) : State :=
  match checkpointOf (s.slot n).record with
  | some c =>
    commit (.checkpoint n (some c)) { s with refill := { s.refill with checkpoints := s.refill.checkpoints.set n (some c) } }
  | none => s

/-- The reason with which an ended binding joins the retired list, if it does (R146, step 2). -/
def retirement (r : BindingRecord) : Option RetiredReason :=
  if r.evidence.regression.tripped || r.evidence.retiredMatch.tripped then some .refill
  else if emptyHolds r then some .emptied
  else none

/-- The retired list is judged for slot n's ended binding (R146, step 2). -/
def judgeRetirement (n : Slot) (s : State) : State :=
  let r := (s.slot n).record
  match r.identity, r.uEst, retirement r with
  | some i, some u, some reason => addRetired i.serial i.generation u reason s
  | _, _, _ => s

/-- The end of slot n's binding at the Refill Monitor (R56, R146). A binding without U_bind, or FAILED, leaves no trace. -/
def endBinding (n : Slot) (s : State) : State :=
  if (s.slot n).record.uBind.isSome ∧ (s.slot n).bindingState ≠ .failed then judgeRetirement n (writeCheckpoint n s) else s

/-! ### The evaluations (sections 8.3 and 8.4) -/

/-- The checkpoint records that hold a serial, whichever slot wrote them (R140). -/
def checkpointsOf (serial : Serial) (s : State) : List Checkpoint :=
  allSlots.filterMap fun k =>
    match s.refill.checkpoints[k] with
    | some c => if c.serial = serial then some c else none
    | none => none

/-- The greatest of a list of counts, 0 for none. -/
def greatest (l : List Nat) : Nat := l.foldl max 0

/-- The first and third steps of the evaluation at BIND, on what the checkpoint lookup found: U_bind, last_written, and
whether REGRESSION counts (R140, R142). -/
def bindFromCheckpoints (found : List Checkpoint) (used generation : Nat) : Nat × Nat × Bool :=
  let matching := found.filter fun c => decide (c.generation = generation)
  let ahead := found.any fun c => decide (generation < c.generation)
  let a := greatest (matching.map (·.acknowledged))
  let e := greatest (matching.map (·.estimate))
  if matching.isEmpty then (used, used, ahead) else (max used e, max used a, decide (used < a) || ahead)

/-- What the second step of the evaluation at BIND finds (R141). -/
inductive RetiredFinding where
  | notListed
  | authorisedRefill (e : RetiredEntry)
  | refilled
  | emptyCartridge
deriving DecidableEq, Repr

/-- The retired lookup of R141. -/
def retiredFinding (l : List RetiredEntry) (serial : Serial) (used generation : Nat) : RetiredFinding :=
  match findRetired serial l with
  | none => .notListed
  | some e =>
    if e.content.generation < generation then .authorisedRefill e
    else if generation = e.content.generation ∧ e.content.finalCount ≤ used then .emptyCartridge
    else .refilled

/-- The evaluation at BIND on the reported used count and generation (R139 to R142), with the alerts of its trips. -/
def evaluateBind (n : Slot) (used generation : Nat) (s : State) : State × Word16 :=
  match (s.slot n).record.identity with
  | none => (s, 0)
  | some i =>
    let b := bindFromCheckpoints (checkpointsOf i.serial s) used generation
    let finding := retiredFinding s.refill.retired i.serial used generation
    let cfg := (s.slot n).config
    let r : BindingRecord :=
      { (s.slot n).record with
          identity := some { i with generation := generation }, uBind := some b.1, lastWritten := some b.2.1 }
    let p := evidenceIf (decide (finding = .refilled)) (setRaw cfg .retiredMatch 1)
      (evidenceIf b.2.2 (countRaw cfg .regression) (r, 0))
    let s := s.modSlot n fun c => { c with record := p.1 }
    match finding with
    | .authorisedRefill e => (removeRetired e s, p.2)
    | .notListed | .refilled | .emptyCartridge => (s, p.2)

/-- The evaluation at VERIFY (R143) on a record: the record, the alerts, and whether U_bind was raised. -/
def evaluateVerify (cfg : SlotConfig) (used generation : Nat) (r : BindingRecord) : (BindingRecord × Word16) × Bool :=
  match r.identity, r.uBind, r.uEst, r.lastWritten with
  | some i, some u, some est, some lw =>
    if generation ≠ i.generation ∨ used < lw then (countRaw cfg .regression r, false)
    else if used ≤ est then (({ r with lastWritten := some used }, 0), false)
    else (({ r with uBind := some (u + (used - est)), lastWritten := some used }, 0), true)
  | _, _, _, _ => ((r, 0), false)

/-- What the evaluation at ADVANCE gives: the record, the alerts of its trips, whether U_bind was raised, and whether the
answer was at or above the target. -/
structure AdvanceOutcome where
  record : BindingRecord
  alerts : Word16
  raised : Bool
  taken : Bool
deriving DecidableEq, Repr

/-- The evaluation at ADVANCE of the answer `v` against the captured target (R144, R138). -/
def evaluateAdvance (cfg : SlotConfig) (v target : Nat) (r : BindingRecord) : AdvanceOutcome :=
  if target ≤ v then
    let p := setRaw cfg .advanceRefused 0 { r with lastWritten := some v }
    match r.uBind, r.uEst with
    | some u, some est =>
      if est < v then { record := { p.1 with uBind := some (u + (v - est)) }, alerts := p.2, raised := true, taken := true }
      else { record := p.1, alerts := p.2, raised := false, taken := true }
    | _, _ => { record := p.1, alerts := p.2, raised := false, taken := true }
  else
    let p := evidenceIf (decide (v < r.lastWritten.getD 0)) (countRaw cfg .regression)
      (evidenceIf true (countRaw cfg .advanceRefused) (r, 0))
    { record := p.1, alerts := p.2, raised := false, taken := false }

end Sys2Proof.Machine
end

