-- ==== Sys2Proof/Machine/Bus.lean ====
section
/-! DEFINITION. The contact supply and the cartridge bus of a slot: requests, responses and attempts (R80 to R86, R197), and
the tag comparison (R130, R131). -/

namespace Sys2Proof.Machine

/-- The transaction code, the first byte of request and response (section 11.6). -/
def Transaction.code : Transaction → Byte
  | .ident => 0x5A
  | .challenge => 0x6B
  | .advance => 0x7C

/-- The byte count of a transaction's response (R197). -/
def Transaction.responseLength : Transaction → Nat
  | .ident => 17
  | .challenge => 23
  | .advance => 6

/-- The request message of an attempt (R82, R85, R197). -/
def requestMessage (t : Transaction) (nonce : Nonce) (target : Nat) : List Byte :=
  match t with
  | .ident => withCrc8 [t.code]
  | .challenge => withCrc8 (t.code :: beBytes 16 nonce.toNat)
  | .advance => withCrc8 (t.code :: beBytes 4 target)

/-- A response of the transaction's length is good: its CRC-8 and its transaction code are right (R83, R197). -/
def goodMessage (t : Transaction) (msg : List Byte) : Bool :=
  byteAt msg 0 == t.code && crc8 (msg.take (t.responseLength - 1)) == byteAt msg (t.responseLength - 1)

/-- The idle timer as it starts: the idle delay in steps of 100 ms, or stopped for a delay of 0 (R81). -/
def idleStart (cfg : SlotConfig) : Option Nat := if cfg.idle = 0 then none else some (cfg.idle * 100)

/-- An attempt ends: its nonce is discarded with it (R130) and the idle timer starts (R81). -/
def endAttempt (c : SlotContext) : SlotContext := { c with attempt := none, idleTimer := idleStart c.config }

/-- The target an ADVANCE carries: captured as U_est at the first attempt and kept through the retries (R84, R109). DESIGN
CHOICE (log 30): 0 in a retry that no attempt captured one for, which no run reaches. -/
def advanceTarget (number : Nat) (op : CurrentOp) (r : BindingRecord) : Nat :=
  if number = 1 then r.uEst.getD 0 else op.target.getD 0

/-- The nonces of the CHALLENGE attempts in flight (R130). -/
def State.noncesInFlight (s : State) : List Nonce := allSlots.filterMap fun k => (s.slot k).attempt.bind (·.nonce)

/-- The first of v, v + 1, v + 2, … that a list does not hold, within `k` steps. -/
def stepPast : Nat → List Nonce → Nonce → Nonce
  | 0, _, v => v
  | k + 1, used, v => if used.contains v then stepPast k used (v + 1) else v

/-- The nonce drawn now: a free value (log 4), other than the nonce of any attempt in flight (R130) and of any that failed
(R84). DESIGN CHOICE (log 4, safe): a free value that is one of those is stepped past. -/
def State.freshNonce (s : State) : Nonce :=
  let used := s.spentNonces ++ s.noncesInFlight
  stepPast used.length used (Config.nonce s.nonceCount)

/-- An attempt of the current operation's transaction starts: the request is sent with a fresh nonce for a CHALLENGE, the
attempt timer starts and the idle timer stops (R81, R83, R84, R130). -/
def startAttempt (n : Slot) (number : Nat) (s : State) : State :=
  let c := s.slot n
  match c.current with
  | none => s
  | some op =>
    let nonce := s.freshNonce
    let target := advanceTarget number op c.record
    let attempt : Attempt :=
      { number := number, nonce := if op.step = .challenge then some nonce else none,
        request := requestMessage op.step nonce target, timer := c.config.timeout }
    let op' : CurrentOp := { op with target := if op.step = .advance then some target else op.target }
    let s' := s.setSlot n { c with attempt := some attempt, current := some op', idleTimer := none }
    if op.step = .challenge then { s' with nonceCount := s.nonceCount + 1 } else s'

/-- A step that needs the bus: the attempt starts at once when the supply is ON, else the operation waits for the settling,
which starts when the supply is OFF (R80). -/
def requestBus (n : Slot) (s : State) : State :=
  match (s.slot n).supply with
  | .poweredOn => startAttempt n 1 s
  | .settling => s
  | .off => s.modSlot n fun c => { c with supply := .settling, settleTimer := some c.config.settle }

/-- The contact supply goes OFF with its settle and idle timers stopped (R78, R97, R110). -/
def supplyOff (c : SlotContext) : SlotContext := { c with supply := .off, settleTimer := none, idleTimer := none }

/-- The tag comparison of a good CHALLENGE response (R131): all 16 bytes equal the expected tag. -/
def tagMatches (key : KeyState) (r : BindingRecord) (attempt : Attempt) (msg : List Byte) : Bool :=
  match key, r.identity, attempt.nonce with
  | .present root, some i, some nonce =>
    (msg.drop 6).take 16 == expectedTag root nonce i.serial (fieldAt msg 1 4) (fieldAt msg 5 1)
  | _, _, _ => false

/-- The identity record of an IDENT response; bit 31 of the capacity is ignored (R85, R197). -/
def parseIdentity (msg : List Byte) : Identity :=
  { serial := BitVec.ofNat 64 (fieldAt msg 1 8), inkType := fieldAt msg 9 1, capacity := fieldAt msg 10 4 % 2 ^ 31,
    generation := fieldAt msg 14 1 }

/-- The format byte of an IDENT response (R85). -/
def identityFormat (msg : List Byte) : Nat := fieldAt msg 15 1

end Sys2Proof.Machine
end

