-- ==== Sys2Proof/Machine/SlotOps.lean ====
section
/-! DEFINITION. The operations of a slot: queue, current operation, BIND, VERIFY, WRITE_BACK, RELEASE and HALT (chapter 6). -/

namespace Sys2Proof.Machine

/-- The state condition of a kind on the slot's binding (R99). -/
def stateCondition (kind : OpKind) (c : SlotContext) : Bool :=
  match kind with
  | .bind =>
    match c.bindingState with
    | .pendingId | .released | .failed => true
    | .linkLost => c.record.identity.isNone
    | .noCartridge | .pendingAuth | .unverified | .verified => false
  | .verify =>
    c.record.identity.isSome && match c.bindingState with
      | .pendingAuth | .unverified | .verified | .linkLost => true
      | .noCartridge | .pendingId | .failed | .released => false
  | .writeBack => decide (c.bindingState = .verified)
  | .release => decide (c.bindingState ≠ .noCartridge ∧ c.bindingState ≠ .released)

/-- An operation of a kind is queued. -/
def isQueued (kind : OpKind) (q : List QueueEntry) : Bool := q.any fun e => decide (e.kind = kind)

/-- An operation of a kind is current. -/
def isCurrent (kind : OpKind) (c : SlotContext) : Bool :=
  match c.current with
  | some op => decide (op.kind = kind)
  | none => false

/-- The release bar on a kind that is about to join the queue (R99). -/
def releaseBar (kind : OpKind) (c : SlotContext) : Bool :=
  match kind with
  | .verify | .writeBack => isQueued .release c.queue || isCurrent .release c
  | .release => isCurrent .release c
  | .bind => false

/-- An operation of a kind may join the queue (R99). -/
def mayJoin (kind : OpKind) (c : SlotContext) : Bool := stateCondition kind c && !releaseBar kind c

/-- The queue after an operation joins or merges with a queued entry of its kind (R100). -/
def joinQueue (kind : OpKind) (origin : Origin) (q : List QueueEntry) : List QueueEntry :=
  if isQueued kind q then
    q.map fun e => if e.kind = kind ∧ origin = .requested then { e with origin := .requested } else e
  else q ++ [{ kind := kind, origin := origin }]

/-- The current operation ends with a result: its status is placed in one merge, a primary only for origin REQUESTED
(R104, R118). The next entry is taken by `pump`. -/
def finishOp (n : Slot) (result : OpResult) (reason : Option FailureReason) (events : Byte) (alerts : Word16) (s : State) :
    State :=
  s.modSlot n fun c =>
    let primary : Option Primary :=
      match c.current with
      | some op =>
        if op.origin = .requested then
          some { kind := some op.kind, result := result, reason := reason, nothingActive := false }
        else none
      | none => none
    mergeStatus s.policy.allowance primary events alerts { c with current := none }

/-- Slot n's binding takes a state (R90). -/
def setBinding (n : Slot) (b : BindingState) (reason : Option FailureReason) (s : State) : State :=
  s.modSlot n (enterState s.policy.allowance b reason)

/-- The record of an ended binding as it is kept for READ SLOT (R88, R111): the residue is discarded (R56), and LOW stays what it
is now (R48). DEDUCED (log 15): the rest is kept, the evidence attributes of R146, step 3, included. -/
def closeRecord (c : SlotContext) : SlotContext :=
  { c with record := { c.record with residue := 0, lowAtEnd := lowHolds c.config c.record } }

/-- A RELEASE finishes: the binding ends, the supply goes OFF, the binding state becomes RELEASED and the operation ends
(R110). DEDUCED (log 31): a binding not yet identified is released without an identity. -/
def finishRelease (n : Slot) (alerts : Word16) (s : State) : State :=
  finishOp n .released none 0 alerts
    (setBinding n .released none ((endBinding n s).modSlot n fun c => supplyOff (closeRecord c)))

/-- The transaction an operation begins with (chapter 6, first table). -/
def firstStep : OpKind → Transaction
  | .bind => .ident
  | .verify => .challenge
  | .writeBack | .release => .advance

/-- The replacement of a RELEASED or FAILED binding by a BIND (R105). -/
def replaceBinding (c : SlotContext) : SlotContext :=
  match c.bindingState with
  | .released | .failed => beginBinding c
  | .noCartridge | .pendingId | .pendingAuth | .unverified | .verified | .linkLost => c

/-- An entry becomes current: the state condition is tested again, and the operation begins its first step or ends at once
(R103, R105, R108 to R110). DEDUCED (log 26): a VERIFY that finds no key has become current first. -/
def beginOp (n : Slot) (e : QueueEntry) (s : State) : State :=
  let op : CurrentOp :=
    { kind := e.kind, origin := e.origin, step := firstStep e.kind, target := none, haltPending := false }
  let s1 := s.modSlot n fun c => { c with current := some op }
  if stateCondition e.kind (s1.slot n) then
    match e.kind with
    | .bind => requestBus n (s1.modSlot n replaceBinding)
    | .verify =>
      let s2 := s1.modSlot n fun c => { c with record := { c.record with sinceVerify := 0 } }
      if s2.keyPresent then requestBus n s2 else finishOp n .unverified none 0 Alert.keyAbsent.bits s2
    | .writeBack => requestBus n s1
    | .release => if (s1.slot n).bindingState = .verified then requestBus n s1 else finishRelease n 0 s1
  else finishOp n .stale none 0 0 s1

/-- Up to `k` entries become current in turn, until one stays current or the queue is empty (R103, R104). -/
def runQueue : Nat → Slot → State → State
  | 0, _, s => s
  | k + 1, n, s =>
    match (s.slot n).current, (s.slot n).queue with
    | none, e :: rest => runQueue k n (beginOp n e (s.modSlot n fun c => { c with queue := rest }))
    | _, _ => s

/-- The oldest queued entry becomes current when the slot has no current operation (R103). -/
def pump (n : Slot) (s : State) : State := runQueue (s.slot n).queue.length n s

/-- An operation that may join the queue joins or merges, and becomes current at an idle slot (R100, R103). -/
def joinOp (n : Slot) (kind : OpKind) (origin : Origin) (s : State) : State :=
  pump n (s.modSlot n fun c => { c with queue := joinQueue kind origin c.queue })

/-- An AUTO operation is asked for; it is dropped when it fails the tests of R99 (R101). -/
def askAuto (n : Slot) (kind : OpKind) (s : State) : State :=
  if mayJoin kind (s.slot n) then joinOp n kind .auto s else s

/-- The current operation ends and the next entry becomes current (R104). -/
def endOp (n : Slot) (result : OpResult) (reason : Option FailureReason) (events : Byte) (alerts : Word16) (s : State) :
    State :=
  pump n (finishOp n result reason events alerts s)

/-- A binding begins at slot n, with a BIND of origin AUTO (R77, R88). -/
def bindAuto (n : Slot) (s : State) : State := askAuto n .bind (s.modSlot n beginBinding)

/-! ### What a good response does -/

/-- The binding FAILS: the operation ends FAILED with the reason and places the alert (R106, R107, R108). -/
def failBinding (n : Slot) (reason : FailureReason) (alert : Alert) (s : State) : State :=
  endOp n .failed (some reason) 0 alert.bits (setBinding n .failed (some reason) s)

/-- Another slot's binding that is identified and neither FAILED nor RELEASED holds the serial (R106). -/
def serialHeldElsewhere (n : Slot) (serial : Serial) (s : State) : Bool :=
  allSlots.any fun k =>
    decide (k ≠ n) && decide ((s.slot k).bindingState ≠ .failed) && decide ((s.slot k).bindingState ≠ .released) &&
      match (s.slot k).record.identity with
      | some i => decide (i.serial = serial)
      | none => false

/-- The current operation's halt-pending flag (R112). -/
def haltPending (c : SlotContext) : Bool :=
  match c.current with
  | some op => op.haltPending
  | none => false

/-- A BIND goes on to its CHALLENGE (R107), unless a halt stops it there (R113). -/
def goOnToChallenge (n : Slot) (s : State) : State :=
  if haltPending (s.slot n) then endOp n .halted none 0 0 s
  else requestBus n (s.modSlot n fun c => { c with current := c.current.map fun op => { op with step := .challenge } })

/-- The identity judgment of a good IDENT response (R106). -/
def judgeIdentity (n : Slot) (msg : List Byte) (s : State) : State :=
  let i := parseIdentity msg
  if identityFormat msg ≠ 1 ∨ i.capacity = 0 ∨ i.inkType = 0 then failBinding n .badIdentity .badIdentity s
  else
    let s1 := s.modSlot n fun c => { c with record := { c.record with identity := some i } }
    if (s.slot n).config.inkType ≠ 0 ∧ (s.slot n).config.inkType ≠ i.inkType then failBinding n .wrongInk .wrongInk s1
    else if serialHeldElsewhere n i.serial s then failBinding n .duplicate .duplicate s1
    else if s.keyPresent then goOnToChallenge n (setBinding n .pendingAuth none s1)
    else endOp n .unverified none 0 Alert.keyAbsent.bits (setBinding n .unverified none s1)

/-- The binding becomes VERIFIED; its marks are judged silently where U_bind was set or raised; the operation ends VERIFIED
with its event and the alerts of the evaluation (R107, R108, R132). -/
def becomeVerified (n : Slot) (event : SlotEvent) (judged : Bool) (alerts : Word16) (s : State) : State :=
  let s1 := setBinding n .verified none s
  let p := evidenceIf judged (judgeSilently (s1.slot n).config) ((s1.slot n).record, alerts)
  endOp n .verified none event.bits p.2 (s1.modSlot n fun c => { c with record := p.1 })

/-- The event a matching tag places: BOUND for a BIND, VERIFIED for a VERIFY (R132). -/
def verifiedEvent (c : SlotContext) : SlotEvent := if isCurrent .bind c then .bound else .verified

/-- A good CHALLENGE response: the tag comparison and its outcome (R107, R108, R131 to R133). -/
def judgeChallenge (n : Slot) (attempt : Attempt) (msg : List Byte) (s : State) : State :=
  let c := s.slot n
  let used := fieldAt msg 1 4
  let generation := fieldAt msg 5 1
  if tagMatches s.key c.record attempt msg then
    if isCurrent .bind c || c.record.uBind.isNone then
      let e := evaluateBind n used generation s
      becomeVerified n (verifiedEvent c) true e.2 e.1
    else
      let e := evaluateVerify c.config used generation c.record
      becomeVerified n (verifiedEvent c) e.2 e.1.2 (s.modSlot n fun c => { c with record := e.1.1 })
  else failBinding n .auth .authFailed s

/-- A good ADVANCE response: the evaluation at ADVANCE with its checkpoint, and the end of the WRITE_BACK or RELEASE
(R109, R110, R113, R144). -/
def judgeAdvance (n : Slot) (msg : List Byte) (s : State) : State :=
  let c := s.slot n
  match c.current with
  | none => s
  | some op =>
    let e := evaluateAdvance c.config (fieldAt msg 1 4) (op.target.getD 0) c.record
    let s1 := s.modSlot n fun c => { c with record := e.record }
    let s2 := if e.taken then writeCheckpoint n s1 else s1
    let p := evidenceIf e.raised (judgeSilently c.config) ((s2.slot n).record, e.alerts)
    let s3 := s2.modSlot n fun c => { c with record := p.1 }
    if op.kind = .release then
      if op.haltPending then endOp n .halted none 0 p.2 s3 else pump n (finishRelease n p.2 s3)
    else endOp n (if e.taken then .written else .short) none 0 p.2 s3

/-- A good response is handed to the current operation (R83). -/
def handResponse (n : Slot) (op : CurrentOp) (attempt : Attempt) (msg : List Byte) (s : State) : State :=
  match op.step with
  | .ident => judgeIdentity n msg s
  | .challenge => judgeChallenge n attempt msg s
  | .advance => judgeAdvance n msg s

/-- The LINK outcome of a transaction's third failed attempt (R86). -/
def linkOutcome (n : Slot) (s : State) : State :=
  finishOp n .link none 0 Alert.linkLost.bits
    (setBinding n .linkLost none (s.modSlot n fun c => { c with queue := [] }))

/-- The nonce of a failed attempt, where it carried one, is not used again (R84). -/
def spendNonce (attempt : Attempt) (s : State) : State :=
  { s with spentNonces := attempt.nonce.toList ++ s.spentNonces }

/-- A failed attempt: it is counted, and retried at once or, the third time, has the LINK outcome (R83, R84, R86). -/
def failAttempt (n : Slot) (attempt : Attempt) (s : State) : State :=
  let s1 := (spendNonce attempt s).modSlot n fun c =>
    endAttempt { c with failedAttempts := satAdd32 c.failedAttempts 1 }
  if attempt.number < 3 then startAttempt n (attempt.number + 1) s1 else linkOutcome n s1

/-! ### Removal (R78) -/

/-- A removal event at a slot with a binding (R78). -/
def removeCartridge (n : Slot) (s : State) : State :=
  let s1 := s.modSlot n fun c =>
    mergeStatus s.policy.allowance none 0 Alert.removed.bits
      { supplyOff c with attempt := none, current := none, queue := [] }
  let s2 := if (s.slot n).bindingState = .released then s1 else endBinding n s1
  setBinding n .noCartridge none s2

/-- Steps 5 to 7 of R78, as the release of RESET_N takes them at a seat found empty (R97). -/
def endByEmptySeat (n : Slot) (s : State) : State :=
  let s1 := s.modSlot n (mergeStatus s.policy.allowance none 0 Alert.removed.bits)
  let s2 := if (s.slot n).bindingState = .released then s1 else endBinding n s1
  setBinding n .noCartridge none s2

/-! ### The commit of the key record (R124) -/

/-- Each slot whose binding is UNVERIFIED is asked for an AUTO VERIFY (R124, step 3). -/
def askUnverified (n : Slot) (s : State) : State :=
  if (s.slot n).bindingState = .unverified then askAuto n .verify s else s

/-- The key record is committed: PRESENT, KEY_ABSENT follows, and the UNVERIFIED bindings are asked (R124). -/
def keyCommitted (root : RootKey) (s : State) : State := overSlots askUnverified { s with key := .present root }

end Sys2Proof.Machine
end

