-- ==== Sys2Proof/Machine/Metering.lean ====
section
/-! DEFINITION. The Metering Unit: band, frame volume, destinations and credits (chapter 3). -/

namespace Sys2Proof.Machine

/-- A drop report (R33). -/
structure DropReport where
  lane : Lane
  slot : Option Slot
  n1 : Nat
  n2 : Nat
  n3 : Nat
  v1 : Nat
  v2 : Nat
  v3 : Nat
  thermal : ThermalInput
  defaultBand : Band
  k : Vector Nat 8
  marked : Bool
deriving DecidableEq, Repr

/-- The number of band thresholds that a sample equals or exceeds (R38). -/
def bandOf (thresholds : Vector Nat 7) (code : Code) : Band :=
  ⟨thresholds.toList.countP fun t => decide (t ≤ code.val),
    Nat.lt_succ_of_le (Nat.le_trans List.countP_le_length (by simp))⟩

/-- The band of a drop report: from the latest sample of its thermal input, or its default band (R38). -/
def reportBand (m : Monitor) (r : DropReport) : Band :=
  match m.samples[r.thermal] with
  | some code => bandOf m.thresholds code
  | none => r.defaultBand

/-- The frame volume F in fine units (R40). -/
def frameVolume (m : Monitor) (r : DropReport) : Nat :=
  (r.n1 * r.v1 + r.n2 * r.v2 + r.n3 * r.v3) * r.k[reportBand m r]

/-- A swath sum takes the q of a credit while the swath is open (R58). -/
def swathSum (s : State) (sum q : Nat) : Nat := if s.port.stream = .opened then satAdd32 sum q else sum

/-- The record's counts after a credit of `volume` fine units (R42, R43, R45 to R47). -/
def creditRecord (unverified marked : Bool) (volume : Nat) (r : BindingRecord) : BindingRecord :=
  let q := (r.residue + volume) / Config.qIU
  { r with
      residue := (r.residue + volume) % Config.qIU, metered := satAdd32 r.metered q,
      unverifiedUnits := if unverified then satAdd32 r.unverifiedUnits q else r.unverifiedUnits,
      flaggedUnits := if marked then satAdd32 r.flaggedUnits q else r.flaggedUnits,
      sinceVerify := satAdd32 r.sinceVerify q }

/-- The slot context after steps 1 to 4 of R54: counts and swath sum, marks with their events, overdraw hand-over. Each credit
judges the marks; one with q = 0 gives no event (R49; DEDUCED, log 18: the flag it sets is set for good). -/
def creditSlot (allowance : Nat) (sum : Nat → Nat → Nat) (marked : Bool) (volume : Nat) (c : SlotContext) : SlotContext :=
  let q := (c.record.residue + volume) / Config.qIU
  let r1 := creditRecord (unproved c) marked volume c.record
  let events := if q = 0 then 0 else markEvents c.config r1
  let r2 := judgeMarks c.config r1
  let c2 := mergeStatus allowance none events 0 { c with record := r2, swathCredited := sum c.swathCredited q }
  let p := handOverdraw c.config r2
  mergeStatus allowance none 0 p.2 { c2 with record := p.1 }

/-- The test for an automatic WRITE_BACK (R52). -/
def writeBackDue (c : SlotContext) : Bool :=
  decide (c.bindingState = .verified) && !isCurrent .writeBack c &&
    match c.record.uEst, c.record.lastWritten with
    | some u, some w => decide (w + c.config.writeBack ≤ u)
    | _, _ => false

/-- The test for an automatic VERIFY (R53). -/
def verifyDue (c : SlotContext) : Bool :=
  (decide (c.bindingState = .verified) || decide (c.bindingState = .linkLost)) && decide (c.config.verify ≠ 0) &&
    decide (c.config.verify ≤ c.record.sinceVerify)

/-- An automatic operation is asked for where its test passes. -/
def askIfDue (due : SlotContext → Bool) (kind : OpKind) (n : Slot) (s : State) : State :=
  if due (s.slot n) then askAuto n kind s else s

/-- A credit to slot n's binding, with all its effects in the order of R54. -/
def creditBinding (n : Slot) (marked : Bool) (volume : Nat) (s : State) : State :=
  askIfDue verifyDue .verify n
    (askIfDue writeBackDue .writeBack n (s.modSlot n (creditSlot s.policy.allowance (swathSum s) marked volume)))

/-- A credit to slot n's orphan accumulator (R55). -/
def creditOrphan (n : Slot) (volume : Nat) (s : State) : State :=
  s.modSlot n fun c =>
    let q := (c.orphanResidue + volume) / Config.qIU
    { c with
        orphanResidue := (c.orphanResidue + volume) % Config.qIU, orphanCount := satAdd32 c.orphanCount q,
        swathOrphaned := swathSum s c.swathOrphaned q }

/-- A lane counter's increase, saturating at 2^48 - 1 (R34). -/
def satAdd48 (a b : Nat) : Nat := satAdd Config.max48 a b

/-- The state with a lane's counters changed. -/
def State.modCounters (s : State) (l : Lane) (f : LaneCounters → LaneCounters) : State :=
  { s with lanes := { s.lanes with counters := s.lanes.counters.set l (f s.lanes.counters[l]) } }

/-- The unattributed drops of a report that names slot NONE (R35). -/
def countUnattributed (r : DropReport) (s : State) : State :=
  s.modCounters r.lane fun c => { c with unattributed := satAdd48 c.unattributed (r.n1 + r.n2 + r.n3) }

/-- A report goes to one destination (R41). -/
def handleReport (r : DropReport) (s : State) : State :=
  match r.slot with
  | none => countUnattributed r s
  | some n =>
    match (s.slot n).bindingState with
    | .noCartridge | .released => creditOrphan n (frameVolume s.monitor r) s
    | .pendingId | .pendingAuth | .unverified | .verified | .failed | .linkLost =>
      creditBinding n r.marked (frameVolume s.monitor r) s

end Sys2Proof.Machine
end

