-- ==== Sys2Proof/Machine/Sampling.lean ====
section
/-! DEFINITION. The Condition Monitor: triggers, completion and the over-limit check (R62 to R71). -/

namespace Sys2Proof.Machine

/-- The converter is busy while a conversion is in flight (section 4.1). -/
def Monitor.busy (m : Monitor) : Bool := m.conversion.isSome

/-- The input of the sequence entry at the position (R66). DESIGN CHOICE (log 30): TH0 at a position beyond
the depth, which no run reaches. -/
def Monitor.dueInput (m : Monitor) : ThermalInput := m.sequence.getD m.position 0

/-- A trigger that finds the converter busy is skipped and counted (R68). -/
def Monitor.skip (m : Monitor) : Monitor := { m with skipped := satAdd32 m.skipped 1 }

/-- A paced trigger: a SEQUENCE conversion of the due input, or skipped (R62, R66, R68). -/
def Monitor.pacedTrigger (m : Monitor) : Monitor :=
  if m.busy then m.skip else { m with conversion := some { input := m.dueInput, origin := .sequence true } }

/-- The opening of a swath gives one trigger in SWATH_PACED and none in the other modes (R65, R66). -/
def Monitor.swathOpens (m : Monitor) : Monitor :=
  match m.mode with
  | .swathPaced => m.pacedTrigger
  | .off | .requestPaced => m

/-- The position after a completion of a conversion of this origin (R63, step 2). -/
def Monitor.positionAfter (m : Monitor) (o : ConversionOrigin) : Nat :=
  match o with
  | .sequence true => (m.position + 1) % m.sequence.length
  | .sequence false | .direct => m.position

/-- A completion stores the sample, moves the position and frees the converter (R63). -/
def Monitor.complete (m : Monitor) (cv : Conversion) (code : Code) : Monitor :=
  { m with samples := m.samples.set cv.input (some code), position := m.positionAfter cv.origin, conversion := none }

/-- The advancing flag of a SEQUENCE conversion in flight is cleared (R65). -/
def clearAdvancing (cv : Conversion) : Conversion :=
  match cv.origin with
  | .sequence _ => { cv with origin := .sequence false }
  | .direct => cv

/-- A mode is set (R65). -/
def Monitor.setMode (m : Monitor) (mode : SampleMode) : Monitor :=
  { m with
      mode := mode, position := if mode = .off then m.position else 0, conversion := m.conversion.map clearAdvancing }

/-- The over-limit check of an input (R71). -/
def checkLimit (x : ThermalInput) (s : State) : State := if overLimit s.monitor x then s.raise (.overtemp x) else s

end Sys2Proof.Machine
end

