-- ==== Sys2Proof/Machine/Stream.lean ====
section
/-! DEFINITION. Swaths and the held stream: opening and closing a swath, the hold check, the wait test and the re-evaluation
(R8 to R10, R14, R16, R58, R59, R165 to R169, R187). -/

namespace Sys2Proof.Machine

/-- The mapped lanes whose action is HOLD, each with its condition, in the order of lane number (R165, R166). -/
def State.holdingLanes (s : State) : List HoldCause :=
  allLanes.filterMap fun l =>
    if (s.laneEntry l).slot.isSome ∧ s.laneAction l = .hold then some { lane := l, condition := s.laneCondition l } else none

/-- The swath opens: the stream becomes OPEN, the swath sums restart, the Condition Monitor takes its signal, and the
hold-cause list is empty (R8, R16, R58, R66, R166). -/
def openSwath (s : State) : State :=
  let s1 := s.mapSlots fun c => { c with swathCredited := 0, swathOrphaned := 0 }
  { s1 with
      port := { s1.port with stream := .opened }, monitor := s1.monitor.swathOpens,
      policy := { s1.policy with holdCauses := [] } }

/-- The figures of a slot in a swath report (R59). NO_CARTRIDGE has no record and so no R. -/
def slotReport (c : SlotContext) : SlotReport :=
  { credited := c.swathCredited, orphaned := c.swathOrphaned, remaining := c.record.remaining }

/-- A waiting frame is a swath report. -/
def ReturnFrame.isReport : ReturnFrame → Bool
  | .report _ _ _ _ => true
  | .reply _ _ _ _ _ => false

/-- The report queue, oldest first (R187). -/
def State.reportQueue (s : State) : List ReturnFrame := s.agent.returnQueue.filter ReturnFrame.isReport

/-- The reply queue, oldest first (R184). -/
def State.replyQueue (s : State) : List ReturnFrame := s.agent.returnQueue.filter fun f => !f.isReport

/-- The return queues without the oldest waiting report (R187). -/
def dropOldestReport : List ReturnFrame → List ReturnFrame
  | [] => []
  | f :: fs => if f.isReport then fs else f :: dropOldestReport fs

/-- A report joins the report queue; when it holds 2, the oldest is removed and REPORT_OVERRUN raised (R187). -/
def queueReport (f : ReturnFrame) (s : State) : State :=
  if s.reportQueue.length < 2 then { s with agent := { s.agent with returnQueue := s.agent.returnQueue ++ [f] } }
  else
    State.raise { s with agent := { s.agent with returnQueue := dropOldestReport s.agent.returnQueue ++ [f] } } .reportOverrun

/-- The open swath is closed with its report, and the stream becomes IDLE (R9, R10, R187). DEDUCED (log 14, unsafe): the
report and its summary word are formed before the stream state changes. -/
def closeSwath (unterminated : Bool) (closing : Byte) (s : State) : State :=
  let f := ReturnFrame.report unterminated closing (allSlots.map fun n => slotReport (s.slot n)) s.summaryWord
  let s1 := queueReport f s
  { s1 with port := { s1.port with stream := .idle } }

/-- The re-evaluation ends RESUME_PENDING: the stream resumes or is held again (R16, R169). -/
def reevaluate (s : State) : State :=
  if s.holdingLanes.isEmpty then openSwath s
  else { s with port := { s.port with stream := .held }, policy := { s.policy with holdCauses := s.holdingLanes } }

/-- A mapped lane waits (R168). -/
def State.laneWaits (s : State) (l : Lane) : Bool :=
  match (s.laneEntry l).slot with
  | none => false
  | some n =>
    let c := s.slot n
    (decide (c.bindingState = .pendingId) || decide (c.bindingState = .pendingAuth)) &&
      (c.current.isSome || !c.queue.isEmpty) &&
      (s.policy.holdCauses.any (fun h => decide (h.lane = l)) || decide (s.laneAction l = .hold))

/-- The wait test: in RESUME_PENDING, with no lane waiting, the re-evaluation is made (R168). DEDUCED (log 29): each step
makes it once, after all its other effects. -/
def waitTest (s : State) : State :=
  if s.port.stream = .resumePending ∧ !(allLanes.any s.laneWaits) then reevaluate s else s

end Sys2Proof.Machine
end

