-- ==== Sys2Proof/Machine/Frames.lean ====
section
/-! DEFINITION. Frames: layout, admission, taking, the four checks and forwarding (R1 to R7, R18, R19, R195). -/

namespace Sys2Proof.Machine

/-- The six frame kinds (section 1.1). -/
inductive FrameKind where
  | fire
  | spit
  | swathStart
  | swathEnd
  | control
  | streamReset
deriving DecidableEq, Repr

/-- The kind of a kind code (section 11.6). -/
def frameKind (code : Byte) : Option FrameKind :=
  if code = 0x21 then some .fire
  else if code = 0x22 then some .spit
  else if code = 0x31 then some .swathStart
  else if code = 0x32 then some .swathEnd
  else if code = 0xA5 then some .control
  else if code = 0xC3 then some .streamReset
  else none

/-- Control-class frames; every other frame is print-class (R1). -/
def controlClass (code : Byte) : Bool := code == 0xA5 || code == 0xC3

/-- The kind code of a frame: its first byte. -/
def kindCode (bs : List Byte) : Byte := byteAt bs 0

/-- The lane of a frame: bits 3 to 0 of byte 1 (section 11.6). -/
def frameLane (bs : List Byte) : Lane := ⟨(byteAt bs 1).toNat % 16, Nat.mod_lt _ (by decide)⟩

/-- The SPIT drop size: bits 6 to 4 of byte 1 (R195). -/
def spitSize (bs : List Byte) : Nat := (byteAt bs 1).toNat / 16 % 8

/-- The sequence number: byte 2. -/
def frameSequence (bs : List Byte) : Byte := byteAt bs 2

/-- The FIRE columns or SPIT count: byte 3. -/
def frameCount (bs : List Byte) : Nat := (byteAt bs 3).toNat

/-- The header's payload length: bytes 4 and 5 (R195). -/
def headerLength (bs : List Byte) : Nat := fieldAt bs 4 2

/-- The payload: the bytes less the header and the CRC. -/
def framePayload (bs : List Byte) : List Byte := (bs.drop 6).take (bs.length - 8)

/-! ### The checks (section 1.3) -/

/-- The guard check (R4, R195). -/
def guardPasses (bs : List Byte) : Bool :=
  decide (8 ≤ bs.length) && (frameKind (kindCode bs)).isSome && ((byteAt bs 1).msb == !(kindCode bs).msb)

/-- The payload length and shape agree with the kind (R5, second part). -/
def shapeAgrees (s : State) (bs : List Byte) : Bool :=
  match frameKind (kindCode bs) with
  | some .fire =>
    decide (1 ≤ frameCount bs) && decide (frameCount bs ≤ 64) &&
      decide (headerLength bs = frameCount bs * (s.laneEntry (frameLane bs)).nozzles / 4)
  | some .spit =>
    decide (1 ≤ spitSize bs) && decide (spitSize bs ≤ 3) && decide (1 ≤ frameCount bs) && decide (headerLength bs = 0)
  | some .swathStart | some .swathEnd | some .streamReset => decide (headerLength bs = 0)
  | some .control => decide (2 ≤ headerLength bs) && decide (headerLength bs ≤ 66)
  | none => false

/-- The length check, against the lane table as it stands when the frame is taken (R5). -/
def lengthPasses (s : State) (bs : List Byte) : Bool := decide (headerLength bs = bs.length - 8) && shapeAgrees s bs

/-- The CRC check: the CRC-16 over header and payload equals the one the frame carries, high byte first (R6). -/
def crcPasses (bs : List Byte) : Bool := (crc16 (bs.take (bs.length - 2))).toNat == fieldAt bs (bs.length - 2) 2

/-- The condition that the first failing check of guard, length and CRC raises (R4 to R6). -/
def failedCheck (s : State) (bs : List Byte) : Option Condition :=
  if !guardPasses bs then some .frameGuard
  else if !lengthPasses s bs then some .frameLength
  else if !crcPasses bs then some .frameCrc
  else none

/-- The sequence check of a frame other than STREAM_RESET (R7). -/
def sequenceCheck (bs : List Byte) (s : State) : State :=
  let s1 : State := { s with port := { s.port with expected := some (frameSequence bs + 1) } }
  match s.port.expected with
  | none => s1
  | some e => if e = frameSequence bs then s1 else s1.raise .sequenceGap

/-! ### Admission and taking (section 1.2) -/

/-- A frame is still arriving. -/
def isArriving (b : List BufferedFrame) : Bool := b.any fun f => decide (f.phase = .arriving)

/-- A frame begins to arrive: admitted, refused with INPUT_OVERRUN, or lost (R1). -/
def beginArrival (kind : Byte) (s : State) : State :=
  if !s.running || isArriving s.port.buffer then s
  else if (if controlClass kind then s.crdy else s.rdy) then
    { s with port := { s.port with buffer := s.port.buffer ++ [{ bytes := [kind], phase := .arriving }] } }
  else s.raise .inputOverrun

/-- The last byte of an admitted frame arrives, and the frame becomes ready (R1). -/
def endArrival (rest : List Byte) (s : State) : State :=
  let finish (f : BufferedFrame) : BufferedFrame :=
    if f.phase = .arriving then { bytes := f.bytes ++ rest, phase := .ready } else f
  if s.running then { s with port := { s.port with buffer := s.port.buffer.map finish } } else s

/-- A buffered frame is control-class (R1). -/
def isControl (f : BufferedFrame) : Bool := controlClass (kindCode f.bytes)

/-- The frame eligible for taking: the oldest, or in HELD and RESUME_PENDING the oldest control-class frame (R3). -/
def eligible (p : SwathPort) : Option BufferedFrame :=
  match p.stream with
  | .idle | .opened => p.buffer.head?
  | .held | .resumePending => p.buffer.find? isControl

/-- The buffer without the eligible frame. -/
def withoutEligible (p : SwathPort) : List BufferedFrame :=
  match p.stream with
  | .idle | .opened => p.buffer.tail
  | .held | .resumePending => p.buffer.eraseP isControl

/-- The rows of the table that take a frame from the input buffer. A CONTROL frame's row is that of its request code; one
with no request code byte, or an unknown one, is UNKNOWN_REQUEST's (DESIGN CHOICE, log 10). -/
inductive FrameRow where
  | unknownKind
  | fire
  | spit
  | swathStart
  | swathEnd
  | streamReset
  | request (code : Byte)
  | unknownRequest
deriving DecidableEq, Repr

/-- The 25 request codes, 01h to 19h (R185). -/
def knownRequest (code : Byte) : Bool := decide (1 ≤ code.toNat) && decide (code.toNat ≤ 25)

/-- The row of a frame. DESIGN CHOICE (log 10, safe): a CONTROL frame without a request code is a row of UNKNOWN_REQUEST. -/
def frameRow (bs : List Byte) : FrameRow :=
  match frameKind (kindCode bs) with
  | none => .unknownKind
  | some .fire => .fire
  | some .spit => .spit
  | some .swathStart => .swathStart
  | some .swathEnd => .swathEnd
  | some .streamReset => .streamReset
  | some .control =>
    if 9 ≤ bs.length ∧ knownRequest (byteAt bs 6) then .request (byteAt bs 6) else .unknownRequest

/-- The capacity of the head-link output queue (R18). -/
def outCapacity : Nat := 4

/-- The bytes of the frame that this row takes now: the eligible frame when it is ready and, if print-class, the output queue
has a free place (R3). -/
def takeable (row : FrameRow) (s : State) : Option (List Byte) :=
  match eligible s.port with
  | none => none
  | some f =>
    if s.running ∧ f.phase = .ready ∧ frameRow f.bytes = row ∧ (isControl f ∨ s.port.outQueue.length < outCapacity) then
      some f.bytes
    else none

/-- The taken frame's place in the input buffer becomes free (R2). -/
def freePlace (s : State) : State := { s with port := { s.port with buffer := withoutEligible s.port } }

/-- A frame is placed on the head-link output queue (R18). -/
def pushOut (bs : List Byte) (s : State) : State := { s with port := { s.port with outQueue := s.port.outQueue ++ [bs] } }

/-- The taken frame leaves its place for the output queue as `bs`. -/
def forward (bs : List Byte) (s : State) : State := pushOut bs (freePlace s)

/-- A frame of this row is taken, checked, and handled when its checks pass; where the row has no frame to take, nothing
happens (DESIGN CHOICE, log 1). A frame that fails guard, length or CRC is discarded with its condition (R4 to R6). -/
def takeFrame (row : FrameRow) (handle : List Byte → State → State) (s : State) : State :=
  match takeable row s with
  | none => s
  | some bs =>
    match failedCheck s bs with
    | some c => (freePlace s).raise c
    | none => handle bs s

/-! ### Payloads (chapter 2) -/

/-- How many of a byte's four drop levels equal a level (section 11.6). -/
def levelsInByte (level : Nat) (b : Byte) : Nat :=
  [b.toNat / 64, b.toNat / 16 % 4, b.toNat / 4 % 4, b.toNat % 4].countP fun x => x == level

/-- How many of a payload's drop levels equal a level (R30). -/
def countLevels (level : Nat) (payload : List Byte) : Nat := payload.foldl (fun acc b => acc + levelsInByte level b) 0

/-- A FIRE frame with its payload blanked: the header kept, every payload byte 00h, a fresh CRC-16 (R19, R31). -/
def blankFrame (bs : List Byte) : List Byte := withCrc16 (bs.take 6 ++ List.replicate (bs.length - 8) 0)

end Sys2Proof.Machine
end

