-- ==== Sys2Proof/Machine/Traffic.lean ====
section
/-! DEFINITION. The print-data rows: what each frame kind does when taken, and the links they travel on (chapters 1 and 2). -/

namespace Sys2Proof.Machine

/-- The drop report of a counted frame (R33). -/
def dropReport (e : LaneEntry) (l : Lane) (n1 n2 n3 : Nat) (marked : Bool) : DropReport :=
  { lane := l, slot := e.slot, n1 := n1, n2 := n2, n3 := n3, v1 := e.v1, v2 := e.v2, v3 := e.v3, thermal := e.thermal,
    defaultBand := e.defaultBand, k := e.k, marked := marked }

/-- The lane counters of a blanked frame (R31, R34). -/
def countBlanked (c : LaneCounters) : LaneCounters :=
  { c with forwarded := satAdd48 c.forwarded 1, blanked := satAdd48 c.blanked 1 }

/-- The lane counters of a counted frame (R34); the unattributed drops are the Metering Unit's to add (R35). -/
def countDrops (n1 n2 n3 : Nat) (marked : Bool) (c : LaneCounters) : LaneCounters :=
  { c with
      forwarded := satAdd48 c.forwarded 1, marked := if marked then satAdd48 c.marked 1 else c.marked,
      drops1 := satAdd48 c.drops1 n1, drops2 := satAdd48 c.drops2 n2, drops3 := satAdd48 c.drops3 n3 }

/-- A counted frame: its lane counters and its drop report, before it is forwarded (R33, R34). -/
def countFrame (l : Lane) (n1 n2 n3 : Nat) (marked : Bool) (s : State) : State :=
  handleReport (dropReport (s.laneEntry l) l n1 n2 n3 marked) (s.modCounters l (countDrops n1 n2 n3 marked))

/-- A FIRE frame handed to the Lane Filter is blanked and not counted (R31). -/
def fireBlanked (bs : List Byte) (s : State) : State := forward (blankFrame bs) (s.modCounters (frameLane bs) countBlanked)

/-- A FIRE frame handed to the Lane Filter is counted and credited (R30, R33). -/
def fireCounted (bs : List Byte) (marked : Bool) (s : State) : State :=
  let p := framePayload bs
  forward bs (countFrame (frameLane bs) (countLevels 1 p) (countLevels 2 p) (countLevels 3 p) marked s)

/-- A FIRE frame at the Lane Filter, by its lane's action; HOLD acts as MARK (R29). -/
def filterFire (bs : List Byte) (s : State) : State :=
  match s.laneAction (frameLane bs) with
  | .pass => fireCounted bs false s
  | .mark | .hold => fireCounted bs true s
  | .blank => fireBlanked bs s

/-- A frame that its stream state does not accept is discarded with OUT_OF_SWATH (R10, R11). -/
def outOfSwath (s : State) : State := (freePlace s).raise .outOfSwath

/-- A FIRE frame that has passed guard, length and CRC (R7, R11). -/
def handleFire (bs : List Byte) (s : State) : State :=
  let s1 := sequenceCheck bs s
  if s1.port.stream = .opened then filterFire bs s1 else outOfSwath s1

/-- A SPIT frame that has passed guard, length and CRC (R7, R12, R32). -/
def handleSpit (bs : List Byte) (s : State) : State :=
  let s1 := sequenceCheck bs s
  let l := frameLane bs
  let drops := frameCount bs * (s1.laneEntry l).nozzles
  let n (size : Nat) : Nat := if spitSize bs = size then drops else 0
  forward bs (countFrame l (n 1) (n 2) (n 3) false s1)

/-- The buffer once the SWATH_START at its head is held: it keeps its place, checked, and the print-class frames behind it
are discarded (R14). -/
def holdBuffer : List BufferedFrame → List BufferedFrame
  | [] => []
  | f :: rest => { f with phase := .checked } :: rest.filter isControl

/-- A print-class frame stands behind the one at the head. -/
def hasPrintBehind (b : List BufferedFrame) : Bool := b.tail.any fun f => !isControl f

/-- The stream becomes HELD (R14, R165). -/
def holdStream (s : State) : State :=
  let s1 : State :=
    { s with
        port := { s.port with stream := .held, buffer := holdBuffer s.port.buffer },
        policy := { s.policy with holdCauses := s.holdingLanes } }
  if hasPrintBehind s.port.buffer then s1.raise .inputOverrun else s1

/-- A SWATH_START put to the hold check in IDLE (R8). -/
def startSwath (bs : List Byte) (s : State) : State :=
  if s.holdingLanes.isEmpty then forward bs (openSwath s) else holdStream s

/-- A SWATH_START that has passed guard, length and CRC (R7 to R9). -/
def handleSwathStart (bs : List Byte) (s : State) : State :=
  let s1 := sequenceCheck bs s
  startSwath bs (if s1.port.stream = .opened then closeSwath true (frameSequence bs) s1 else s1)

/-- A SWATH_END that has passed guard, length and CRC (R7, R10). -/
def handleSwathEnd (bs : List Byte) (s : State) : State :=
  let s1 := sequenceCheck bs s
  if s1.port.stream = .opened then forward bs (closeSwath false (frameSequence bs) s1) else outOfSwath s1

/-- The held SWATH_START, when the stream is HELD or RESUME_PENDING, is removed from the buffer (R17, step 1). -/
def dropHeld (p : SwathPort) : List BufferedFrame := p.buffer.filter fun f => decide (f.phase ≠ .checked)

/-- The stream reset of a STREAM_RESET that has passed guard, length and CRC, with what every other block does with it: the
swath sums and the hold-cause list (R17, R61, R172, R194). -/
def handleStreamReset (bs : List Byte) (s : State) : State :=
  let s1 := freePlace s
  let s2 := s1.mapSlots fun c => { c with swathCredited := 0, swathOrphaned := 0 }
  { s2 with
      port := { s2.port with
        buffer := dropHeld s2.port, outQueue := [bs], stream := .idle, expected := none },
      agent := { s2.agent with returnQueue := [] }, policy := { s2.policy with holdCauses := [] } }

/-- After resumption the consumed SWATH_START leaves for the output queue once a place is free (R16). -/
def forwardHeld (s : State) : State :=
  match s.port.buffer with
  | f :: rest =>
    if s.running ∧ s.port.stream = .opened ∧ f.phase = .checked ∧ s.port.outQueue.length < outCapacity then
      pushOut f.bytes { s with port := { s.port with buffer := rest } }
    else s
  | [] => s

/-- A transfer to the head driver begins (R18). -/
def beginTransfer (ready : Bool) (s : State) : State :=
  let s1 : State := { s with port := { s.port with headReady := ready } }
  match s.port.headTransfer, s.port.outQueue with
  | none, f :: rest =>
    if s.alive && ready then { s1 with port := { s1.port with headTransfer := some f, outQueue := rest } } else s1
  | _, _ => s1

/-- A transfer to the head driver completes (R18). -/
def completeTransfer (s : State) : State :=
  if s.alive then { s with port := { s.port with headTransfer := none } } else s

/-! ### The rows -/

/-- UNKNOWN_KIND_FRAME (R4): its guard check fails. -/
def execUnknownKindFrame (s : State) : Host.Outcome State Fault Refusal :=
  .next (takeFrame .unknownKind (fun _ t => (freePlace t).raise .frameGuard) s)

/-- FIRE (R11). -/
def execFire (s : State) : Host.Outcome State Fault Refusal := .next (takeFrame .fire handleFire s)

/-- SPIT (R12). -/
def execSpit (s : State) : Host.Outcome State Fault Refusal := .next (takeFrame .spit handleSpit s)

/-- SWATH_START (R8). -/
def execSwathStart (s : State) : Host.Outcome State Fault Refusal := .next (takeFrame .swathStart handleSwathStart s)

/-- SWATH_END (R10). -/
def execSwathEnd (s : State) : Host.Outcome State Fault Refusal := .next (takeFrame .swathEnd handleSwathEnd s)

/-- STREAM_RESET (R17). -/
def execStreamReset (s : State) : Host.Outcome State Fault Refusal := .next (takeFrame .streamReset handleStreamReset s)

/-- FRAME_ARRIVAL_BEGINS (R1). -/
def execFrameArrivalBegins (kind : Byte) (s : State) : Host.Outcome State Fault Refusal := .next (beginArrival kind s)

/-- FRAME_ARRIVAL_ENDS (R1). -/
def execFrameArrivalEnds (rest : List Byte) (s : State) : Host.Outcome State Fault Refusal := .next (endArrival rest s)

/-- HELD_SWATH_START_FORWARDED (R16). -/
def execHeldSwathStartForwarded (s : State) : Host.Outcome State Fault Refusal := .next (forwardHeld s)

/-- HEAD_TRANSFER_BEGINS (R18). -/
def execHeadTransferBegins (ready : Bool) (s : State) : Host.Outcome State Fault Refusal := .next (beginTransfer ready s)

/-- HEAD_TRANSFER_COMPLETES (R18). -/
def execHeadTransferCompletes (s : State) : Host.Outcome State Fault Refusal := .next (completeTransfer s)

end Sys2Proof.Machine
end

