-- ==== Sys2Proof/Machine/Wire.lean ====
section
/-! DEFINITION. Wire formats: the codes of R196, return-lane frames and reply data (section 11.6). -/

namespace Sys2Proof.Machine

/-! ### Codes (R196) -/

def ResultCode.code : ResultCode → Nat
  | .ok => 0
  | .pending => 1
  | .busy => 2
  | .badArgument => 3
  | .badState => 4
  | .locked => 5
  | .notPresent => 6
  | .notHeld => 7
  | .unknownRequest => 8

def BindingState.code : BindingState → Nat
  | .noCartridge => 0
  | .pendingId => 1
  | .pendingAuth => 2
  | .unverified => 3
  | .verified => 4
  | .failed => 5
  | .linkLost => 6
  | .released => 7

def FailureReason.code : FailureReason → Nat
  | .badIdentity => 1
  | .wrongInk => 2
  | .duplicate => 3
  | .auth => 4

def Action.code : Action → Nat
  | .pass => 0
  | .mark => 1
  | .blank => 2
  | .hold => 3

/-- The action of a code, if it is one of the four (R162). -/
def Action.ofCode : Nat → Option Action
  | 0 => some .pass
  | 1 => some .mark
  | 2 => some .blank
  | 3 => some .hold
  | _ => none

def OpKind.code : OpKind → Nat
  | .bind => 1
  | .verify => 2
  | .writeBack => 3
  | .release => 4

/-- The operation kind of a code, if it is one of the four (R102). -/
def OpKind.ofCode : Nat → Option OpKind
  | 1 => some .bind
  | 2 => some .verify
  | 3 => some .writeBack
  | 4 => some .release
  | _ => none

def OpResult.code : OpResult → Nat
  | .verified => 0
  | .unverified => 1
  | .failed => 2
  | .written => 3
  | .short => 4
  | .released => 5
  | .link => 6
  | .halted => 7
  | .stale => 8

def Transaction.number : Transaction → Nat
  | .ident => 1
  | .challenge => 2
  | .advance => 3

def RetiredReason.code : RetiredReason → Nat
  | .emptied => 0
  | .refill => 1

def SampleMode.code : SampleMode → Nat
  | .off => 0
  | .swathPaced => 1
  | .requestPaced => 2

/-- The mode of a code (R65). -/
def SampleMode.ofCode : Nat → Option SampleMode
  | 0 => some .off
  | 1 => some .swathPaced
  | 2 => some .requestPaced
  | _ => none

def ContactSupply.code : ContactSupply → Nat
  | .off => 0
  | .settling => 1
  | .poweredOn => 2

/-- A code that is 0 where the value is absent (R196). -/
def codeOr0 {α : Type} (f : α → Nat) : Option α → Nat
  | some a => f a
  | none => 0

/-! ### Return-lane frames -/

/-- R in a swath report: 5 bytes, zeros where absent (section 11.6, R196). -/
def remainingBytes (r : Option Int) : List Byte := beSigned 5 (r.getD 0)

/-- The presence byte of a swath report, bit n for slot n. -/
def presenceBits (slots : List SlotReport) : Nat :=
  (slots.zipIdx.map fun p => flagAt p.2 p.1.remaining.isSome).sum

/-- The body of a return-lane frame (section 11.6). -/
def ReturnFrame.body : ReturnFrame → List Byte
  | .reply tag code result data summary =>
    [tag, code, byteOf result.code, byteOf data.length] ++ data ++ beBytes 2 summary.toNat
  | .report unterminated closing slots summary =>
    [byteOf (flagAt 0 unterminated), closing, byteOf (presenceBits slots)] ++
      (slots.flatMap fun r => beBytes 4 r.credited ++ beBytes 4 r.orphaned ++ remainingBytes r.remaining) ++
      beBytes 2 summary.toNat

/-- The kind byte of a return-lane frame. -/
def ReturnFrame.kindByte : ReturnFrame → Byte
  | .reply _ _ _ _ _ => 0xE1
  | .report _ _ _ _ => 0xE2

/-- A return-lane frame as it is sent: kind, body length, body, CRC-16 (R196). -/
def ReturnFrame.bytes (f : ReturnFrame) : List Byte := withCrc16 (f.kindByte :: (beBytes 2 f.body.length ++ f.body))

/-! ### Reply data -/

/-- The 13 bytes of READ SUMMARY (R186). -/
def summaryData (s : State) : List Byte :=
  beBytes 4 s.conditionVector.toNat ++ beBytes 4 s.agent.faultMask.toNat ++
    [byteOf s.store.commitQueue.length, byteOf (flagAt 0 s.store.program.isSome), byteOf s.store.invalidCount,
      s.port.expected.getD 0, byteOf (flagAt 0 s.port.expected.isNone)]

/-- Byte 3 of the slot data: the current operation. A transaction shows once it has started, not while the operation waits
for the supply (DEDUCED, log 17). -/
def currentByte (c : SlotContext) : Nat :=
  match c.current with
  | none => 0
  | some op =>
    op.kind.code + flagAt 3 (decide (op.origin = .requested)) + (if c.attempt.isSome then op.step.number else 0) * 16 +
      flagAt 6 op.haltPending

/-- A place of the queue in the slot data. -/
def queuePlace (e : Option QueueEntry) : Nat :=
  match e with
  | some e => e.kind.code + flagAt 3 (decide (e.origin = .requested))
  | none => 0

/-- The queue in the slot data, oldest first from bits 15 to 12. -/
def queueWord (q : List QueueEntry) : Nat :=
  queuePlace q[0]? * 4096 + queuePlace q[1]? * 256 + queuePlace q[2]? * 16 + queuePlace q[3]?

/-- The bytes of an evidence attribute: raw, worst, threshold. A slot without a binding has no attributes, and its places
are sent as zeros (R196; DEDUCED, log 16). -/
def evidenceBytes (c : SlotContext) (k : EvidenceKind) : List Byte :=
  let a := c.record.evidence.get k
  let threshold := if c.bindingState = .noCartridge then 0 else k.threshold c.config
  beBytes 2 a.raw ++ beBytes 2 a.worst ++ beBytes 2 threshold

/-- The identity fields of the slot data: serial, ink type, capacity, generation. -/
def identityBytes : Option Identity → List Byte
  | some i => beBytes 8 i.serial.toNat ++ beBytes 1 i.inkType ++ beBytes 4 i.capacity ++ beBytes 1 i.generation
  | none => List.replicate 14 0

/-- LOW as READ SLOT shows it: the kept record of a RELEASED binding shows what held at its end (R48). -/
def lowShown (c : SlotContext) : Bool :=
  if c.bindingState = .released then c.record.lowAtEnd else lowHolds c.config c.record

/-- The 101 bytes of READ SLOT (R94, R60). -/
def slotData (n : Slot) (c : SlotContext) : List Byte :=
  let r := c.record
  let e := r.evidence
  [byteOf n.val,
    byteOf (flagAt 0 (decide (c.seat = .seated)) + flagAt 1 c.debounce.isSome + c.supply.code * 4 + flagAt 4 r.verifiedOnce +
      flagAt 5 (lowShown c) + flagAt 6 (emptyHolds r)),
    byteOf (c.bindingState.code + codeOr0 FailureReason.code r.failure * 16),
    byteOf (currentByte c), byteOf (codeOr0 Attempt.number c.attempt)] ++
  beBytes 2 (queueWord c.queue) ++
  [byteOf (flagAt 0 r.identity.isSome + flagAt 1 r.uBind.isSome + flagAt 2 r.lastWritten.isSome + flagAt 3 r.uEst.isSome)] ++
  identityBytes r.identity ++ beBytes 4 (r.uBind.getD 0) ++ beBytes 4 (r.lastWritten.getD 0) ++ beBytes 5 r.residue ++
  beBytes 4 r.metered ++ beBytes 4 (r.uEst.getD 0) ++ remainingBytes r.remaining ++ beBytes 2 (r.overdraw.getD 0) ++
  [byteOf (flagAt 0 r.lowMark + flagAt 1 r.emptyMark + flagAt 2 r.overdrawMark)] ++ beBytes 4 r.unverifiedUnits ++
  beBytes 4 r.flaggedUnits ++ beBytes 4 r.sinceVerify ++ beBytes 5 c.orphanResidue ++ beBytes 4 c.orphanCount ++
  evidenceBytes c .regression ++ evidenceBytes c .retiredMatch ++ evidenceBytes c .overdraw ++
  evidenceBytes c .advanceRefused ++
  [byteOf (flagAt 0 e.regression.tripped + flagAt 1 e.retiredMatch.tripped + flagAt 2 e.overdraw.tripped +
    flagAt 3 e.advanceRefused.tripped)] ++ beBytes 4 c.failedAttempts

/-- The kind, result and reason bytes of a primary. -/
def primaryBytes : Option Primary → List Byte
  | some p =>
    [byteOf (codeOr0 OpKind.code p.kind), byteOf p.result.code,
      byteOf (codeOr0 FailureReason.code p.reason + flagAt 7 p.nothingActive)]
  | none => [0, 0, 0]

/-- The 13 bytes of COLLECT STATUS; zeros when no record is pending (R120). -/
def statusData : Option StatusRecord → List Byte
  | none => List.replicate 13 0
  | some r =>
    [byteOf (flagAt 0 true + flagAt 1 r.primary.isSome + flagAt 2 r.overwritten + flagAt 3 r.snapshot.uEst.isSome)] ++
      primaryBytes r.primary ++ [r.events] ++ beBytes 2 r.alerts.toNat ++
      [byteOf r.snapshot.state.code, byteOf r.snapshot.condition.index.val] ++ beBytes 4 (r.snapshot.uEst.getD 0)

/-- The 12 bytes of READ SLOT CONFIG: the eight fields in selection order (R93). -/
def slotConfigData (c : SlotConfig) : List Byte :=
  beBytes 1 c.inkType ++ beBytes 2 c.lowMark ++ beBytes 2 c.tolerance ++ beBytes 2 c.writeBack ++ beBytes 2 c.verify ++
    beBytes 1 c.settle ++ beBytes 1 c.idle ++ beBytes 1 c.timeout

/-- The slot byte of a lane: 0FFh for NONE. -/
def laneSlotByte : Option Slot → Byte
  | some n => byteOf n.val
  | none => 0xFF

/-- The 27 bytes of READ LANE: every field in selection order (R28). -/
def laneData (e : LaneEntry) : List Byte :=
  [laneSlotByte e.slot] ++ beBytes 2 e.nozzles ++ beBytes 2 e.v1 ++ beBytes 2 e.v2 ++ beBytes 2 e.v3 ++
    [byteOf e.thermal.val, byteOf e.defaultBand.val] ++ e.k.toList.flatMap fun k => beBytes 2 k

/-- The 42 bytes of READ LANE COUNTERS: the seven counters in the order of R34 (R36). -/
def countersData (c : LaneCounters) : List Byte :=
  [c.forwarded, c.blanked, c.marked, c.drops1, c.drops2, c.drops3, c.unattributed].flatMap fun x => beBytes 6 x

/-- The 64 bytes of READ POLICY (R164). -/
def policyData (s : State) : List Byte :=
  (s.policy.actions.toList.map fun a => byteOf a.code) ++ beBytes 2 s.policy.allowance ++
    [byteOf (flagAt 0 s.policy.locked), byteOf s.policy.holdCauses.length] ++
    padTo 32 (s.policy.holdCauses.flatMap fun h => [byteOf h.lane.val, byteOf h.condition.index.val]) ++
    allLanes.map fun l => byteOf ((s.laneCondition l).index.val + (s.laneAction l).code * 16)

/-- Byte 11 of the sample data: the conversion in flight. -/
def conversionByte : Option Conversion → Nat
  | none => 0
  | some cv => 128 + cv.input.val + flagAt 3 (decide (cv.origin = .direct))

/-- A latest sample in the sample data: 0FFFFh when absent. -/
def sampleBytes : Option Code → List Byte
  | some code => beBytes 2 code.val
  | none => [0xFF, 0xFF]

/-- The 62 bytes of READ SAMPLES (R74). -/
def samplesData (m : Monitor) : List Byte :=
  [byteOf m.mode.code, byteOf m.sequence.length] ++ padTo 8 (m.sequence.map fun x => byteOf x.val) ++
    [byteOf m.position, byteOf (conversionByte m.conversion)] ++ (m.samples.toList.flatMap sampleBytes) ++
    (m.thresholds.toList.flatMap fun t => beBytes 2 t) ++ (m.limits.toList.flatMap fun t => beBytes 2 t) ++
    beBytes 4 m.skipped

/-- The 18 bytes of a retired entry (section 11.6). -/
def retiredBytes (e : RetiredEntry) : List Byte :=
  beBytes 8 e.content.serial.toNat ++ beBytes 1 e.content.generation ++ beBytes 4 e.content.finalCount ++
    beBytes 1 e.content.reason.code ++ beBytes 4 e.content.sequence

/-- The data of READ RETIRED from place `p`: n, how many entries follow, and up to four entries (R151). -/
def retiredData (l : List RetiredEntry) (p : Nat) : List Byte :=
  let shown := (l.drop p).take 4
  [byteOf l.length, byteOf shown.length] ++ shown.flatMap retiredBytes

end Sys2Proof.Machine
end

