-- ==== Sys2Proof/Machine/Operands.lean ====
section
/-! DEFINITION. The arguments of every request, as they are read from a CONTROL frame (R185, section 11.1). Each reader answers
none for what its owning rule refuses with BAD_ARGUMENT on the arguments alone. -/

namespace Sys2Proof.Machine

/-- A slot number 0 to 7. -/
def slotOf (n : Nat) : Option Slot := if h : n < 8 then some ⟨n, h⟩ else none

/-- A lane number 0 to 15. -/
def laneOf (n : Nat) : Option Lane := if h : n < 16 then some ⟨n, h⟩ else none

/-- A thermal input number 0 to 7. -/
def inputOf (n : Nat) : Option ThermalInput := if h : n < 8 then some ⟨n, h⟩ else none

/-- The one argument byte of a request that carries one. -/
def oneByte : List Byte → Option Byte
  | [b] => some b
  | _ => none

/-- slot (1): READ SLOT, COLLECT STATUS, HALT SLOT, READ SLOT CONFIG. -/
def slotArgument (args : List Byte) : Option Slot := (oneByte args).bind fun b => slotOf b.toNat

/-- lane (1): READ LANE (R28). -/
def laneArgument (args : List Byte) : Option Lane := (oneByte args).bind fun b => laneOf b.toNat

/-- input (1): SAMPLE INPUT (R67). -/
def inputArgument (args : List Byte) : Option ThermalInput := (oneByte args).bind fun b => inputOf b.toNat

/-- mode (1): SET SAMPLE MODE (R65). -/
def modeArgument (args : List Byte) : Option SampleMode := (oneByte args).bind fun b => SampleMode.ofCode b.toNat

/-- The clear choice: bit 0 of its byte; bits 1 to 7 are ignored (R36, R74). -/
def clearChoice (b : Byte) : Bool := b.toNat % 2 == 1

/-- clear (1): READ SAMPLES (R74). -/
def clearArgument (args : List Byte) : Option Bool := (oneByte args).map clearChoice

/-- slot (1), kind (1): START OPERATION (R102). -/
def startArguments : List Byte → Option (Slot × OpKind)
  | [n, k] => (slotOf n.toNat).bind fun slot => (OpKind.ofCode k.toNat).map fun kind => (slot, kind)
  | _ => none

/-- lane (1), clear (1): READ LANE COUNTERS (R36). -/
def countersArguments : List Byte → Option (Lane × Bool)
  | [n, c] => (laneOf n.toNat).map fun lane => (lane, clearChoice c)
  | _ => none

/-! ### Selections -/

/-- The values of a selection's fields, one place for each width from bit `i` on; none where the bytes are not as many as the
selection asks for (R185). -/
def selectedValues : List Nat → Nat → Nat → List Byte → Option (List (Option Nat))
  | [], _, _, bytes => if bytes.isEmpty then some [] else none
  | w :: ws, i, selection, bytes =>
    if selection.testBit i then
      if bytes.length < w then none
      else (selectedValues ws (i + 1) selection (bytes.drop w)).map (some (beNat (bytes.take w)) :: ·)
    else (selectedValues ws (i + 1) selection bytes).map (none :: ·)

/-- The value selected for a field, if it was selected. -/
def fieldOf (v : List (Option Nat)) (i : Nat) : Option Nat := v.getD i none

/-- No field is selected. -/
def nothingSelected (v : List (Option Nat)) : Bool := v.all Option.isNone

/-- A selected value is at most a bound; a value not selected is not judged. -/
def atMost (bound : Nat) : Option Nat → Bool
  | some x => decide (x ≤ bound)
  | none => true

/-- The widths of the WRITE LANE fields, selection bits 0 to 14. -/
def laneWidths : List Nat := [1, 2, 2, 2, 2, 1, 1, 2, 2, 2, 2, 2, 2, 2, 2]

/-- The widths of the WRITE SLOT CONFIG fields, selection bits 0 to 7. -/
def slotConfigWidths : List Nat := [1, 2, 2, 2, 2, 1, 1, 1]

/-- The widths of the WRITE POLICY selection: an action for each of the twelve conditions, then the allowance in bit 12. -/
def policyWidths : List Nat := [1, 1, 1, 1, 1, 1, 1, 1, 1, 1, 1, 1, 2]

/-- A slot byte names a slot or is 0FFh for NONE (R23, step 3). -/
def slotByteLegal : Option Nat → Bool
  | some x => decide (x < 8) || decide (x = 255)
  | none => true

/-- The values of a WRITE LANE that R23, step 3, accepts. -/
def laneValuesLegal (v : List (Option Nat)) : Bool :=
  slotByteLegal (fieldOf v 0) && atMost 7 (fieldOf v 5) && atMost 7 (fieldOf v 6)

/-- lane (1), selection (2), values: WRITE LANE, steps 1 to 3 of R23. Selection bit 15 is ignored. -/
def writeLaneArguments (args : List Byte) : Option (Lane × List (Option Nat)) :=
  if args.length < 3 then none
  else
    (laneOf (fieldAt args 0 1)).bind fun lane =>
      (selectedValues laneWidths 0 (fieldAt args 1 2) (args.drop 3)).bind fun v =>
        if nothingSelected v || !laneValuesLegal v then none else some (lane, v)

/-- slot (1), selection (1), values: WRITE SLOT CONFIG, steps 1 and 2 of R93. -/
def writeConfigArguments (args : List Byte) : Option (Slot × List (Option Nat)) :=
  if args.length < 2 then none
  else
    (slotOf (fieldAt args 0 1)).bind fun slot =>
      (selectedValues slotConfigWidths 0 (fieldAt args 1 1) (args.drop 2)).bind fun v =>
        if nothingSelected v then none else some (slot, v)

/-- selection (2), actions, allowance: WRITE POLICY, steps 1 and 2 of R162. Bits 13 to 15 name no condition. -/
def writePolicyArguments (args : List Byte) : Option (List (Option Nat)) :=
  if args.length < 2 ∨ 2 ^ 13 ≤ fieldAt args 0 2 then none
  else
    (selectedValues policyWidths 0 (fieldAt args 0 2) (args.drop 2)).bind fun v =>
      if nothingSelected v || !(v.take 12).all (atMost 3) then none else some v

/-! ### Lane and slot fields as they are stored -/

/-- A written nozzles value: rounded down to a multiple of 64, then clamped to 64 to 2048 (R24). -/
def storedNozzles (x : Nat) : Nat := clamp 64 2048 (x / 64 * 64)

/-- A written drop volume (R25). -/
def storedVolume (x : Nat) : Nat := if x = 0 then 0 else clamp 100 40000 x

/-- A written k value (R26). -/
def storedFactor (x : Nat) : Nat := clamp 768 1280 x

/-- A field takes its written value as stored, or keeps its own where it is not selected. -/
def written {α : Type} (v : List (Option Nat)) (i : Nat) (store : Nat → α) (old : α) : α :=
  match fieldOf v i with
  | some x => store x
  | none => old

/-- A lane entry with the selected fields written (R23, step 5). Refused values do not come here. -/
def writeLaneEntry (v : List (Option Nat)) (e : LaneEntry) : LaneEntry :=
  { slot := written v 0 slotOf e.slot, nozzles := written v 1 storedNozzles e.nozzles, v1 := written v 2 storedVolume e.v1,
    v2 := written v 3 storedVolume e.v2, v3 := written v 4 storedVolume e.v3,
    thermal := written v 5 (fun x => (inputOf x).getD e.thermal) e.thermal,
    defaultBand := written v 6 (fun x => (inputOf x).getD e.defaultBand) e.defaultBand,
    k := Vector.ofFn fun b => written v (7 + b.val) storedFactor e.k[b] }

/-- A slot configuration with the selected fields written after clamping (R92, R93). -/
def writeSlotConfig (v : List (Option Nat)) (c : SlotConfig) : SlotConfig :=
  { inkType := written v 0 (clamp 0 255) c.inkType, lowMark := written v 1 (clamp 0 1000) c.lowMark,
    tolerance := written v 2 (clamp 1 1000) c.tolerance, writeBack := written v 3 (clamp 1 65535) c.writeBack,
    verify := written v 4 (clamp 0 65535) c.verify, settle := written v 5 (clamp 1 15) c.settle,
    idle := written v 6 (clamp 0 255) c.idle, timeout := written v 7 (clamp 5 100) c.timeout }

/-- The policy table with the selected actions and the allowance written (R162, step 4). -/
def writePolicyTable (v : List (Option Nat)) (p : PolicyUnit) : PolicyUnit :=
  { p with
      actions := Vector.ofFn fun i => written v i.val (fun x => (Action.ofCode x).getD p.actions[i]) p.actions[i],
      allowance := written v 12 id p.allowance }

/-! ### The other arguments -/

/-- depth (1), entries: WRITE SEQUENCE, steps 1 and 2 of R64. -/
def sequenceArguments : List Byte → Option (List ThermalInput)
  | [] => none
  | depth :: entries =>
    if depth = 0 ∨ 8 < depth.toNat ∨ entries.length ≠ depth.toNat then none else entries.mapM fun b => inputOf b.toNat

/-- What a WRITE LIMITS writes: each part is absent or present (R70). -/
structure LimitsWrite where
  thresholds : Option (Vector Nat 7)
  limits : Option (List (ThermalInput × Nat))
deriving DecidableEq, Repr

/-- Pairs of input (1) and limit (2), as many as the count says (R70). -/
def limitPairs : Nat → List Byte → Option (List (ThermalInput × Nat))
  | 0, [] => some []
  | k + 1, x :: hi :: lo :: rest =>
    (inputOf x.toNat).bind fun input => (limitPairs k rest).map ((input, beNat [hi, lo]) :: ·)
  | _, _ => none

/-- A limits part: a pair count of at least 1, then the pairs (R70). -/
def limitsPart : List Byte → Option (List (ThermalInput × Nat))
  | [] => none
  | count :: rest => if count = 0 then none else limitPairs count.toNat rest

/-- Numbers strictly ascending. -/
def ascending : List Nat → Bool
  | a :: b :: rest => decide (a < b) && ascending (b :: rest)
  | _ => true

/-- The seven values of a thresholds part, 2 bytes each (R70). -/
def thresholdsPart (bytes : List Byte) : Vector Nat 7 := Vector.ofFn fun i => fieldAt bytes (2 * i.val) 2

/-- Thresholds that R70, step 2, accepts: none above 4096, strictly ascending. -/
def thresholdsLegal (t : Vector Nat 7) : Bool := t.toList.all (fun x => decide (x ≤ 4096)) && ascending t.toList

/-- The thresholds part with nothing behind it, or with a limits part. -/
def withThresholds (bytes : List Byte) (limits : Option (Option (List (ThermalInput × Nat)))) : Option LimitsWrite :=
  if bytes.length < 14 ∨ !thresholdsLegal (thresholdsPart bytes) then none
  else limits.map fun l => { thresholds := some (thresholdsPart bytes), limits := l }

/-- parts (1), thresholds, limits: WRITE LIMITS, steps 1 to 3 of R70. Bits 2 to 7 of the parts byte are ignored. -/
def limitsArguments : List Byte → Option LimitsWrite
  | [] => none
  | parts :: rest =>
    match parts.getLsbD 0, parts.getLsbD 1 with
    | false, false => none
    | false, true => (limitsPart rest).map fun l => { thresholds := none, limits := some l }
    | true, false => withThresholds rest (if rest.length = 14 then some none else none)
    | true, true => withThresholds rest ((limitsPart (rest.drop 14)).map some)

/-- starting place p (1), 0 to 47: READ RETIRED (R151). -/
def placeArgument (args : List Byte) : Option Nat :=
  (oneByte args).bind fun b => if 47 < b.toNat then none else some b.toNat

/-- serial (8): FORGET RETIRED (R150). -/
def serialArgument (args : List Byte) : Option Serial :=
  if args.length = 8 then some (BitVec.ofNat 64 (beNat args)) else none

/-- key (32), not all 00h: PROVISION KEY (R123). -/
def keyArgument (args : List Byte) : Option RootKey :=
  if args.length = 32 ∧ beNat args ≠ 0 then some (BitVec.ofNat 256 (beNat args)) else none

/-- mask (4): CLEAR CONDITIONS and WRITE FAULT MASK (R191, R192). -/
def maskArgument (args : List Byte) : Option Word32 :=
  if args.length = 4 then some (BitVec.ofNat 32 (beNat args)) else none

end Sys2Proof.Machine
end

