-- ==== Sys2Proof/Machine/Requests.lean ====
section
/-! DEFINITION. The Management Agent: how a request is taken, judged, executed and answered (R13, R184, R185), and the requests
on the conditions of the part (R186, R191, R192). -/

namespace Sys2Proof.Machine

/-- What the execution of a request gives: the result, the data of the reply, and the state. -/
structure Answer where
  result : ResultCode
  data : List Byte
  state : State
deriving DecidableEq, Repr

/-- A refused request: it carries no data and changes nothing (R185). -/
def refuse (r : ResultCode) (s : State) : Answer := { result := r, data := [], state := s }

/-- A request answered OK. -/
def okWith (data : List Byte) (s : State) : Answer := { result := .ok, data := data, state := s }

/-- A request answered PENDING. -/
def pendingWith (data : List Byte) (s : State) : Answer := { result := .pending, data := data, state := s }

/-- The request code of a CONTROL frame (section 11.6). -/
def requestCode (bs : List Byte) : Byte := byteAt bs 6

/-- The tag of a CONTROL frame. -/
def requestTag (bs : List Byte) : Byte := byteAt bs 7

/-- The argument bytes of a CONTROL frame. -/
def requestArgs (bs : List Byte) : List Byte := (framePayload bs).drop 2

/-- The capacity of the reply queue (R184). -/
def replyCapacity : Nat := 8

/-- The reply of an answer, with the summary word of the state the answer left (R185, R188). -/
def replyFrame (bs : List Byte) (a : Answer) : ReturnFrame :=
  .reply (requestTag bs) (requestCode bs) a.result a.data a.state.summaryWord

/-- A reply joins the reply queue (R184). -/
def queueReply (f : ReturnFrame) (s : State) : State :=
  { s with agent := { s.agent with returnQueue := s.agent.returnQueue ++ [f] } }

/-- The Agent executes a request and queues its reply, or discards it with REPLY_OVERRUN (R184). -/
def executeRequest (handle : List Byte → State → Answer) (bs : List Byte) (s : State) : State :=
  if s.replyQueue.length < replyCapacity then
    let a := handle (requestArgs bs) s
    queueReply (replyFrame bs a) a.state
  else s.raise .replyOverrun

/-- A CONTROL frame that has passed guard, length and CRC is consumed, and its request handed to the Agent (R7, R13). -/
def handleControl (handle : List Byte → State → Answer) (bs : List Byte) (s : State) : State :=
  executeRequest handle bs (freePlace (sequenceCheck bs s))

/-- A CONTROL frame of the row is taken. -/
def takeRequest (row : FrameRow) (handle : List Byte → State → Answer) (s : State) : State :=
  takeFrame row (handleControl handle) s

/-! ### Handlers -/

/-- UNKNOWN_REQUEST (R185, step 1). -/
def handleUnknown (_ : List Byte) (s : State) : Answer := refuse .unknownRequest s

/-- READ SUMMARY (R186). -/
def handleReadSummary (args : List Byte) (s : State) : Answer :=
  if args.isEmpty then okWith (summaryData s) s else refuse .badArgument s

/-- OVERTEMP[x] may be cleared: the input's latest sample is below its present limit (R73). -/
def overtempClears (m : Monitor) (x : ThermalInput) : Bool :=
  match m.samples[x] with
  | some code => decide (code.val < m.limits[x])
  | none => false

/-- The bits that a CLEAR CONDITIONS may clear now, whatever its mask (R191). -/
def clearableBits (m : Monitor) : Word32 :=
  allInputs.foldl (fun acc x => acc ||| conditionIf (overtempClears m x) (.overtemp x)) stickyBits

/-- CLEAR CONDITIONS (R73, R191). -/
def handleClearConditions (args : List Byte) (s : State) : Answer :=
  match maskArgument args with
  | none => refuse .badArgument s
  | some mask =>
    let t := { s with agent := { s.agent with sticky := s.agent.sticky &&& ~~~(mask &&& clearableBits s.monitor) } }
    okWith (beBytes 4 t.conditionVector.toNat) t

/-- WRITE FAULT MASK (R192). -/
def handleWriteFaultMask (args : List Byte) (s : State) : Answer :=
  match maskArgument args with
  | none => refuse .badArgument s
  | some mask =>
    let stored := mask &&& maskableBits
    okWith (beBytes 4 stored.toNat) { s with agent := { s.agent with faultMask := stored } }

/-! ### The rows -/

/-- UNKNOWN_REQUEST (R185). -/
def execUnknownRequest (s : State) : Host.Outcome State Fault Refusal := .next (takeRequest .unknownRequest handleUnknown s)

/-- READ_SUMMARY (R186). -/
def execReadSummary (s : State) : Host.Outcome State Fault Refusal := .next (takeRequest (.request 0x01) handleReadSummary s)

/-- CLEAR_CONDITIONS (R191). -/
def execClearConditions (s : State) : Host.Outcome State Fault Refusal :=
  .next (takeRequest (.request 0x18) handleClearConditions s)

/-- WRITE_FAULT_MASK (R192). -/
def execWriteFaultMask (s : State) : Host.Outcome State Fault Refusal :=
  .next (takeRequest (.request 0x19) handleWriteFaultMask s)

end Sys2Proof.Machine
end

