-- ==== Sys2Proof/Machine/LaneRequests.lean ====
section
/-! DEFINITION. The requests on lanes: WRITE LANE, READ LANE and READ LANE COUNTERS (R23, R28, R36). -/

namespace Sys2Proof.Machine

/-- The state with a lane's table entry replaced. -/
def State.setLane (s : State) (l : Lane) (e : LaneEntry) : State := { s with lanes := { s.lanes with table := s.lanes.table.set l e } }

/-- Slot and nozzles are fixed in OPEN and RESUME_PENDING (R23, step 4). -/
def laneFixed (v : List (Option Nat)) (stream : StreamState) : Bool :=
  ((fieldOf v 0).isSome || (fieldOf v 1).isSome) && (decide (stream = .opened) || decide (stream = .resumePending))

/-- WRITE LANE, with the wait test it calls for (R23, R168). -/
def handleWriteLane (args : List Byte) (s : State) : Answer :=
  match writeLaneArguments args with
  | none => refuse .badArgument s
  | some (l, v) =>
    if laneFixed v s.port.stream then refuse .busy s
    else okWith [] (waitTest (s.setLane l (writeLaneEntry v (s.laneEntry l))))

/-- READ LANE (R28). -/
def handleReadLane (args : List Byte) (s : State) : Answer :=
  match laneArgument args with
  | none => refuse .badArgument s
  | some l => okWith (laneData (s.laneEntry l)) s

/-- READ LANE COUNTERS: read, then zeroed when clear is chosen (R36). -/
def handleReadLaneCounters (args : List Byte) (s : State) : Answer :=
  match countersArguments args with
  | none => refuse .badArgument s
  | some (l, clear) =>
    okWith (countersData s.lanes.counters[l]) (if clear then s.modCounters l (fun _ => LaneCounters.zero) else s)

/-! ### The rows -/

/-- WRITE_LANE (R23). -/
def execWriteLane (s : State) : Host.Outcome State Fault Refusal := .next (takeRequest (.request 0x08) handleWriteLane s)

/-- READ_LANE (R28). -/
def execReadLane (s : State) : Host.Outcome State Fault Refusal := .next (takeRequest (.request 0x09) handleReadLane s)

/-- READ_LANE_COUNTERS (R36). -/
def execReadLaneCounters (s : State) : Host.Outcome State Fault Refusal :=
  .next (takeRequest (.request 0x0A) handleReadLaneCounters s)

end Sys2Proof.Machine
end

