-- ==== Sys2Proof/Machine/MonitorRequests.lean ====
section
/-! DEFINITION. The requests on the Condition Monitor: WRITE SEQUENCE, SET SAMPLE MODE, SAMPLE NEXT, SAMPLE INPUT, READ SAMPLES
and WRITE LIMITS (R64 to R68, R70, R74). -/

namespace Sys2Proof.Machine

/-- WRITE SEQUENCE (R64). -/
def handleWriteSequence (args : List Byte) (s : State) : Answer :=
  match sequenceArguments args with
  | none => refuse .badArgument s
  | some entries =>
    if s.monitor.mode = .off then okWith [] { s with monitor := { s.monitor with sequence := entries, position := 0 } }
    else refuse .busy s

/-- SET SAMPLE MODE (R65). -/
def handleSetSampleMode (args : List Byte) (s : State) : Answer :=
  match modeArgument args with
  | none => refuse .badArgument s
  | some mode => okWith [] { s with monitor := s.monitor.setMode mode }

/-- SAMPLE NEXT (R66, R68). -/
def handleSampleNext (args : List Byte) (s : State) : Answer :=
  if args.isEmpty then
    if s.monitor.mode = .requestPaced then
      let t := { s with monitor := s.monitor.pacedTrigger }
      if s.monitor.busy then refuse .busy t
      else okWith [byteOf s.monitor.position, byteOf s.monitor.dueInput.val] t
    else refuse .badState s
  else refuse .badArgument s

/-- The mode after a DIRECT conversion starts: SWATH_PACED becomes OFF (R67). -/
def modeAfterDirect : SampleMode → SampleMode
  | .swathPaced => .off
  | .off => .off
  | .requestPaced => .requestPaced

/-- A DIRECT conversion starts (R62, R67). -/
def Monitor.sampleDirect (m : Monitor) (x : ThermalInput) : Monitor :=
  { m with conversion := some { input := x, origin := .direct }, mode := modeAfterDirect m.mode }

/-- SAMPLE INPUT (R67, R68). -/
def handleSampleInput (args : List Byte) (s : State) : Answer :=
  match inputArgument args with
  | none => refuse .badArgument s
  | some x =>
    if s.monitor.busy then refuse .busy { s with monitor := s.monitor.skip }
    else
      okWith [byteOf x.val, byteOf (modeAfterDirect s.monitor.mode).code] { s with monitor := s.monitor.sampleDirect x }

/-- READ SAMPLES: read, then the skipped-trigger count zeroed when clear is chosen (R74). -/
def handleReadSamples (args : List Byte) (s : State) : Answer :=
  match clearArgument args with
  | none => refuse .badArgument s
  | some clear =>
    okWith (samplesData s.monitor) (if clear then { s with monitor := { s.monitor with skipped := 0 } } else s)

/-- One limit is written, clamped to 1 to 4096, and checked at once (R70, R71). -/
def writeLimit (s : State) (p : ThermalInput × Nat) : State :=
  checkLimit p.1 { s with monitor := { s.monitor with limits := s.monitor.limits.set p.1 (clamp 1 4096 p.2) } }

/-- The thresholds are replaced when their part is present (R70). -/
def writeThresholds (t : Option (Vector Nat 7)) (s : State) : State :=
  match t with
  | some v => { s with monitor := { s.monitor with thresholds := v } }
  | none => s

/-- WRITE LIMITS (R70). The limits are written and checked pair by pair (DEDUCED, log 19); a request that writes one calls
for the wait test (R168). -/
def handleWriteLimits (args : List Byte) (s : State) : Answer :=
  match limitsArguments args with
  | none => refuse .badArgument s
  | some w =>
    match w.limits with
    | none => okWith [] (writeThresholds w.thresholds s)
    | some pairs => okWith [] (waitTest (pairs.foldl writeLimit (writeThresholds w.thresholds s)))

/-! ### The rows -/

/-- WRITE_SEQUENCE (R64). -/
def execWriteSequence (s : State) : Host.Outcome State Fault Refusal :=
  .next (takeRequest (.request 0x0E) handleWriteSequence s)

/-- SET_SAMPLE_MODE (R65). -/
def execSetSampleMode (s : State) : Host.Outcome State Fault Refusal :=
  .next (takeRequest (.request 0x0F) handleSetSampleMode s)

/-- SAMPLE_NEXT (R66). -/
def execSampleNext (s : State) : Host.Outcome State Fault Refusal := .next (takeRequest (.request 0x10) handleSampleNext s)

/-- SAMPLE_INPUT (R67). -/
def execSampleInput (s : State) : Host.Outcome State Fault Refusal := .next (takeRequest (.request 0x11) handleSampleInput s)

/-- READ_SAMPLES (R74). -/
def execReadSamples (s : State) : Host.Outcome State Fault Refusal := .next (takeRequest (.request 0x12) handleReadSamples s)

/-- WRITE_LIMITS (R70). -/
def execWriteLimits (s : State) : Host.Outcome State Fault Refusal := .next (takeRequest (.request 0x13) handleWriteLimits s)

end Sys2Proof.Machine
end

