-- ==== Sys2Proof/Machine/PolicyRequests.lean ====
section
/-! DEFINITION. The requests on the policy and the held stream: WRITE POLICY, READ POLICY, LOCK POLICY and RESUME STREAM (R162 to
R164, R168). -/

namespace Sys2Proof.Machine

/-- WRITE POLICY, with the wait test it calls for (R162, R168). -/
def handleWritePolicy (args : List Byte) (s : State) : Answer :=
  match writePolicyArguments args with
  | none => refuse .badArgument s
  | some v =>
    if s.policy.locked then refuse .locked s else okWith [] (waitTest { s with policy := writePolicyTable v s.policy })

/-- READ POLICY (R164). -/
def handleReadPolicy (args : List Byte) (s : State) : Answer :=
  if args.isEmpty then okWith (policyData s) s else refuse .badArgument s

/-- LOCK POLICY (R163). -/
def handleLockPolicy (args : List Byte) (s : State) : Answer :=
  if args.isEmpty then okWith [] { s with policy := { s.policy with locked := true } } else refuse .badArgument s

/-- RESUME STREAM: a HELD stream becomes RESUME_PENDING, and the wait test is made at once (R168). -/
def handleResumeStream (args : List Byte) (s : State) : Answer :=
  if args.isEmpty then
    if s.port.stream = .held then pendingWith [] (waitTest { s with port := { s.port with stream := .resumePending } })
    else refuse .notHeld s
  else refuse .badArgument s

/-! ### The rows -/

/-- WRITE_POLICY (R162). -/
def execWritePolicy (s : State) : Host.Outcome State Fault Refusal := .next (takeRequest (.request 0x0B) handleWritePolicy s)

/-- READ_POLICY (R164). -/
def execReadPolicy (s : State) : Host.Outcome State Fault Refusal := .next (takeRequest (.request 0x0C) handleReadPolicy s)

/-- LOCK_POLICY (R163). -/
def execLockPolicy (s : State) : Host.Outcome State Fault Refusal := .next (takeRequest (.request 0x0D) handleLockPolicy s)

/-- RESUME_STREAM (R168). -/
def execResumeStream (s : State) : Host.Outcome State Fault Refusal := .next (takeRequest (.request 0x17) handleResumeStream s)

end Sys2Proof.Machine
end

