-- ==== Sys2Proof/Machine/Power.lean ====
section
/-! DEFINITION. Power and reset: POWER_ON, the restore, LOSS_OF_POWER and the pin reset (R21, R37, R61, R75, R95 to R98, R115,
R121, R134, R154, R172, R178 to R182, R194). -/

namespace Sys2Proof.Machine

/-! ### Power-on and its loss -/

/-- The store as it comes through a time without power: the record positions alone (R182, R183). -/
def keepForms (st : RecordStore) : RecordStore :=
  { RecordStore.initial with
      keyForm := st.keyForm, checkpointForms := st.checkpointForms, retiredForms := st.retiredForms }

/-- Every volatile field at its power-on value, with what outlives a loss of power: the record positions `st`, and the MODEL's
own count of nonces and queue of commands. The seat inputs keep their levels. DESIGN CHOICE (log 6, unsafe): RESET_N is
released. -/
def volatileReset (st : RecordStore) (s : State) : State :=
  { State.reset with
      slots := Vector.ofFn fun n => SlotContext.initial (s.slot n).rawSeat, store := keepForms st, nonceCount := s.nonceCount,
      pending := s.pending }

/-- Supply is applied: every block takes its power-on state, and the part is RESTORING (R178). -/
def applyPower (decayed : List RecordPos) (s : State) : State :=
  if s.powered then s else volatileReset (decayed.foldl decay s.store) s

/-- Power is lost with a program in flight: its position is INVALID (R182). -/
def cutProgram (st : RecordStore) : RecordStore :=
  match st.program with
  | some p => storeInvalid p.write.pos st
  | none => st

/-- Power is lost (R182). DESIGN CHOICE (log 7, safe): the volatile fields take their power-on values at the loss already. -/
def losePower (s : State) : State :=
  if s.powered then { volatileReset (cutProgram s.store) s with powered := false, restoring := false } else s

/-! ### The restore -/

/-- The committed key that the restore finds (R178). -/
def restoredKey (st : RecordStore) : KeyState :=
  match readForm keyPasses st.keyForm with
  | some k => .present k
  | none => .absent

/-- The checkpoint table that the restore finds (R178). -/
def restoredCheckpoints (st : RecordStore) : Vector (Option Checkpoint) 8 :=
  Vector.ofFn fun k => (readForm checkpointPasses st.checkpointForms[k]).join

/-- The retired entries that the restore reads, in the order of their positions (R178). -/
def readRetired (st : RecordStore) : List RetiredEntry :=
  (List.finRange 48).filterMap fun p =>
    (readForm retiredPasses st.retiredForms[p]).join.map fun c => { content := c, position := p }

/-- An entry comes before another of the same serial: a greater sequence number, or the same at a lower position (R179). -/
def outranks (a b : RetiredEntry) : Bool :=
  decide (b.content.sequence < a.content.sequence) ||
    (decide (a.content.sequence = b.content.sequence) && decide (a.position < b.position))

/-- The entry that is kept for its serial (R179, step 1). -/
def keptFor (l : List RetiredEntry) (e : RetiredEntry) : Bool :=
  !l.any fun f => decide (f.content.serial = e.content.serial) && outranks f e

/-- An entry joins an ordered list behind every entry numbered no higher (R179, step 2). -/
def insertBySequence (e : RetiredEntry) : List RetiredEntry → List RetiredEntry
  | [] => [e]
  | f :: rest =>
    if f.content.sequence ≤ e.content.sequence then f :: insertBySequence e rest else e :: f :: rest

/-- The retired list: the kept entries, oldest first by sequence number, equal numbers by position (R179). -/
def restoredRetired (st : RecordStore) : List RetiredEntry :=
  let found := readRetired st
  (found.filter (keptFor found)).foldl (fun acc e => insertBySequence e acc) []

/-- The next sequence number (R179, step 3). -/
def restoredNext (l : List RetiredEntry) : Nat :=
  match l.getLast? with
  | none => 1
  | some e => nextSequence e.content.sequence

/-- The invalid count of a restore (R178). -/
def countInvalid (st : RecordStore) : Nat :=
  (if countsInvalid keyPasses st.keyForm then 1 else 0) + st.checkpointForms.toList.countP (countsInvalid checkpointPasses) +
    st.retiredForms.toList.countP (countsInvalid retiredPasses)

/-- The results of the restore go to their owners, and the part leaves RESTORING (R180). DEDUCED (log 23, safe): the reading
of the positions (R178) is part of this one piece of work. -/
def handResults (s : State) : State :=
  let retired := restoredRetired s.store
  { s with
      restoring := false, key := restoredKey s.store,
      refill := { checkpoints := restoredCheckpoints s.store, retired := retired, nextSeq := restoredNext retired },
      store := { s.store with invalidCount := countInvalid s.store } }

/-- RESTORE_INVALID where the invalid count is above 0 (R180). -/
def raiseRestoreInvalid (s : State) : State := if 0 < s.store.invalidCount then s.raise .restoreInvalid else s

/-- A seated slot begins a binding at the end of RESTORING (R96). -/
def bindSeated (n : Slot) (s : State) : State := if (s.slot n).seat = .seated then bindAuto n s else s

/-- RESTORING ends (R96, R180). While RESET_N is asserted the slots and RESTORE_INVALID wait for its release. -/
def endRestore (s : State) : State :=
  if s.powered ∧ s.restoring then
    let t := handResults s
    if s.resetAsserted then { t with restoreEndedInReset := true } else overSlots bindSeated (raiseRestoreInvalid t)
  else s

/-! ### Pin reset -/

/-- A slot context at the assertion: all but its seat, its binding state and its binding record takes the power-on value
(R97, R61, R121). -/
def assertSlot (c : SlotContext) : SlotContext :=
  { SlotContext.initial c.rawSeat with seat := c.seat, bindingState := c.bindingState, record := c.record }

/-- RESET_N is asserted (R21, R37, R75, R97, R130, R172, R194). Key state, working copies and Record Store are kept (R134, R154,
R181). -/
def assertReset (s : State) : State :=
  if s.alive then
    let s1 := s.mapSlots assertSlot
    { s1 with
        resetAsserted := true, spentNonces := [], port := { SwathPort.initial with headReady := s.port.headReady },
        lanes := .initial, monitor := .initial, policy := .initial, agent := .initial }
  else s

/-- A retained binding is to be proved again: PENDING_AUTH, unverified_units 0, AUTO VERIFY (R97). -/
def reprove (n : Slot) (s : State) : State :=
  askAuto n .verify
    (setBinding n .pendingAuth none (s.modSlot n fun c => { c with record := { c.record with unverifiedUnits := 0 } }))

/-- A slot at the release, by its retained binding and its seat (R97). -/
def releaseSlot (n : Slot) (s : State) : State :=
  match (s.slot n).seat, (s.slot n).bindingState with
  | .empty, .noCartridge => s
  | .empty, _ => endByEmptySeat n s
  | .seated, .noCartridge => bindAuto n s
  | .seated, .pendingId => askAuto n .bind s
  | .seated, .pendingAuth | .seated, .verified => reprove n s
  | .seated, .linkLost =>
    if (s.slot n).record.identity.isSome then reprove n s else askAuto n .bind (setBinding n .pendingId none s)
  | .seated, .unverified | .seated, .failed | .seated, .released => s

/-- The seat input is read at the release, without a debounce and without an event (R97). -/
def readSeat (c : SlotContext) : SlotContext := { c with seat := c.rawSeat, debounce := none }

/-- The Authentication Unit takes a key commit that came during the assertion (R181). DEDUCED (log 27): the flag that holds it
is the model's. -/
def takeHeldCommit (s : State) : State :=
  if s.keyCommitHeld then
    match s.store.keyForm with
    | .valid root => { keyCommitted root s with keyCommitHeld := false }
    | .blank | .invalid => { s with keyCommitHeld := false }
  else s

/-- The store raises a STORE_WRITE_FAIL that it held (R181). -/
def takeHeldFailure (s : State) : State :=
  if s.store.heldFailure then State.raise { s with store := { s.store with heldFailure := false } } .storeWriteFail else s

/-- RESTORE_INVALID of a restore that ended during the assertion (R180, R194). -/
def takeHeldRestore (s : State) : State :=
  if s.restoreEndedInReset then { raiseRestoreInvalid s with restoreEndedInReset := false } else s

/-- RESET_N is released (R96, R97, R181, R194). In RESTORING the slots wait for its end. -/
def releaseReset (s : State) : State :=
  if s.powered ∧ s.resetAsserted then
    let s1 := { s.mapSlots readSeat with resetAsserted := false }
    takeHeldRestore (takeHeldFailure (takeHeldCommit (if s.restoring then s1 else overSlots releaseSlot s1)))
  else s

/-! ### The rows -/

/-- POWER_ON (R178). -/
def execPowerOn (decayed : List RecordPos) (s : State) : Host.Outcome State Fault Refusal := .next (applyPower decayed s)

/-- END_OF_RESTORING (R180). -/
def execEndOfRestoring (s : State) : Host.Outcome State Fault Refusal := .next (endRestore s)

/-- LOSS_OF_POWER (R182). -/
def execLossOfPower (s : State) : Host.Outcome State Fault Refusal := .next (losePower s)

/-- PIN_RESET_ASSERTED (R97). -/
def execPinResetAsserted (s : State) : Host.Outcome State Fault Refusal := .next (assertReset s)

/-- PIN_RESET_RELEASED (R97). -/
def execPinResetReleased (s : State) : Host.Outcome State Fault Refusal := .next (releaseReset s)

end Sys2Proof.Machine
end

