-- ==== Sys2Proof/Machine/RecordRequests.lean ====
section
/-! DEFINITION. The requests on stored records: READ RETIRED, FORGET RETIRED and PROVISION KEY (R123, R150, R151). -/

namespace Sys2Proof.Machine

/-- READ RETIRED (R151). -/
def handleReadRetired (args : List Byte) (s : State) : Answer :=
  match placeArgument args with
  | none => refuse .badArgument s
  | some p => okWith (retiredData s.refill.retired p) s

/-- FORGET RETIRED (R150). -/
def handleForgetRetired (args : List Byte) (s : State) : Answer :=
  match serialArgument args with
  | none => refuse .badArgument s
  | some serial =>
    if s.policy.locked then refuse .locked s
    else
      match findRetired serial s.refill.retired with
      | none => refuse .notPresent s
      | some e => okWith [] (removeRetired e s)

/-- PROVISION KEY (R123). A write that is dropped leaves the key state ABSENT, and the reply is BUSY. -/
def handleProvisionKey (args : List Byte) (s : State) : Answer :=
  match keyArgument args with
  | none => refuse .badArgument s
  | some root =>
    match s.key with
    | .present _ => refuse .locked s
    | .provisioning => refuse .busy s
    | .absent =>
      let r := requestWrite (.key root) s
      if r.1 then pendingWith [] { r.2 with key := .provisioning } else refuse .busy r.2

/-! ### The rows -/

/-- READ_RETIRED (R151). -/
def execReadRetired (s : State) : Host.Outcome State Fault Refusal := .next (takeRequest (.request 0x14) handleReadRetired s)

/-- FORGET_RETIRED (R150). -/
def execForgetRetired (s : State) : Host.Outcome State Fault Refusal :=
  .next (takeRequest (.request 0x15) handleForgetRetired s)

/-- PROVISION_KEY (R123). -/
def execProvisionKey (s : State) : Host.Outcome State Fault Refusal := .next (takeRequest (.request 0x16) handleProvisionKey s)

end Sys2Proof.Machine
end

