-- ==== Sys2Proof/Machine/Services.lean ====
section
/-! DEFINITION. The events of the converter, of the nonvolatile programmer and of the return lane (R20, R63, R176, R177). -/

namespace Sys2Proof.Machine

/-- The conversion in flight completes with a code (R63, R71), and the wait test is made (R168). -/
def completeConversion (code : Code) (s : State) : State :=
  match s.monitor.conversion with
  | none => s
  | some cv =>
    if s.alive then waitTest (checkLimit cv.input { s with monitor := s.monitor.complete cv code }) else s

/-- The next program begins when the queue holds a write (R176). -/
def nextProgram (s : State) : State := { s with store := beginProgram s.store }

/-- What the owner does with a commit: the Authentication Unit acts on a key commit, at the release of RESET_N when it came
during the assertion (R124, R176, R181). -/
def reportCommit (w : Write) (s : State) : State :=
  match w with
  | .key root => if s.resetAsserted then { s with keyCommitHeld := true } else waitTest (keyCommitted root s)
  | .checkpoint _ _ | .retired _ _ => s

/-- A program's verify passes: the write is committed, and the position VALID with its content (R176). -/
def commitProgram (p : Program) (s : State) : State :=
  nextProgram (reportCommit p.write { s with store := storeValid p.write { s.store with program := none } })

/-- An abandoned key write returns the key state to ABSENT (R125, R177). -/
def reportAbandoned (w : Write) (s : State) : State :=
  match w with
  | .key _ => { s with key := .absent }
  | .checkpoint _ _ | .retired _ _ => s

/-- The second verify fails: the position is INVALID and STORE_WRITE_FAIL raised, or held for the release of RESET_N (R177,
R181). -/
def abandonProgram (p : Program) (s : State) : State :=
  let st := storeInvalid p.write.pos { s.store with program := none, heldFailure := s.store.heldFailure || s.resetAsserted }
  nextProgram (reportAbandoned p.write (State.raise { s with store := st } .storeWriteFail))

/-- A program ends with its verify (R176, R177). -/
def endProgram (passes : Bool) (s : State) : State :=
  match s.store.program with
  | none => s
  | some p =>
    if passes then commitProgram p s
    else if p.attempt = 1 then { s with store := { s.store with program := some { p with attempt := 2 } } }
    else abandonProgram p s

/-- A transmission begins: the frame queued earliest leaves its queue, as it is sent (R20, R196). -/
def beginTransmission (s : State) : State :=
  match s.port.returnTransmission, s.agent.returnQueue with
  | none, f :: rest =>
    if s.alive then
      { s with
          port := { s.port with returnTransmission := some f.bytes }, agent := { s.agent with returnQueue := rest } }
    else s
  | _, _ => s

/-- A transmission completes (R20). -/
def completeTransmission (s : State) : State :=
  if s.alive then { s with port := { s.port with returnTransmission := none } } else s

/-! ### The rows -/

/-- CONVERSION_COMPLETE (R63). -/
def execConversionComplete (code : Code) (s : State) : Host.Outcome State Fault Refusal := .next (completeConversion code s)

/-- PROGRAM_VERIFY (R176). -/
def execProgramVerify (passes : Bool) (s : State) : Host.Outcome State Fault Refusal := .next (endProgram passes s)

/-- RETURN_TRANSMISSION_BEGINS (R20). -/
def execReturnTransmissionBegins (s : State) : Host.Outcome State Fault Refusal := .next (beginTransmission s)

/-- RETURN_TRANSMISSION_COMPLETES (R20). -/
def execReturnTransmissionCompletes (s : State) : Host.Outcome State Fault Refusal := .next (completeTransmission s)

end Sys2Proof.Machine
end

