-- ==== Sys2Proof/Machine/SlotEvents.lean ====
section
/-! DEFINITION. The events of a slot: its seat input, its timers and its cartridge bus (R76 to R86). -/

namespace Sys2Proof.Machine

/-- The seat level that an asserted or released seat input stands for (R76). -/
def seatOf (level : Bool) : Seat := if level then .seated else .empty

/-- A change of a seat input's raw level, which starts the debounce timer afresh (R76). While the part is unpowered or RESET_N
is asserted, only the raw level moves (DEDUCED, log 25). -/
def changeSeat (n : Slot) (level : Bool) (s : State) : State :=
  if (s.slot n).rawSeat = seatOf level then s
  else
    s.modSlot n fun c =>
      { c with rawSeat := seatOf level, debounce := if s.alive then some Config.debounceMs else c.debounce }

/-- An insertion event: it begins a binding at a slot in NO_CARTRIDGE (R77). -/
def insertionEvent (n : Slot) (s : State) : State :=
  if (s.slot n).bindingState = .noCartridge then bindAuto n s else s

/-- A removal event: it acts on the slot's binding, in whatever state it is (R78). -/
def removalEvent (n : Slot) (s : State) : State :=
  if (s.slot n).bindingState = .noCartridge then s else removeCartridge n s

/-- The event of a debounced change to a seat level; in RESTORING it begins and ends no binding (R77, R78, R95). -/
def seatEvent (n : Slot) (level : Seat) (s : State) : State :=
  if s.restoring then s
  else
    match level with
    | .seated => waitTest (insertionEvent n s)
    | .empty => waitTest (removalEvent n s)

/-- The debounce timer expires (R76). -/
def expireDebounce (n : Slot) (s : State) : State :=
  let c := s.slot n
  if s.alive ∧ c.debounce.isSome then
    let s1 := s.modSlot n fun c => { c with debounce := none, seat := c.rawSeat }
    if c.rawSeat = c.seat then s1 else seatEvent n c.rawSeat s1
  else s

/-- The settle timer expires: the supply becomes ON, and a waiting operation starts its attempt (R80, R81). -/
def expireSettle (n : Slot) (s : State) : State :=
  let c := s.slot n
  if s.alive ∧ c.supply = .settling ∧ c.settleTimer.isSome then
    startAttempt n 1
      (s.modSlot n fun c => { c with supply := .poweredOn, settleTimer := none, idleTimer := idleStart c.config })
  else s

/-- The idle timer expires: the supply becomes OFF (R81). -/
def expireIdle (n : Slot) (s : State) : State :=
  let c := s.slot n
  if s.alive ∧ c.supply = .poweredOn ∧ c.idleTimer.isSome then s.modSlot n supplyOff else s

/-- A response of the transaction's length ends the attempt: good, and handed to the current operation, or failed (R83). -/
def judgeResponse (n : Slot) (a : Attempt) (op : CurrentOp) (msg : List Byte) (s : State) : State :=
  if goodMessage op.step msg then handResponse n op a msg (s.modSlot n endAttempt) else failAttempt n a s

/-- Response bytes arrive: once there are as many as the transaction's length, the response is judged; bytes beyond it are
discarded, and fewer leave the attempt running (R83, DEDUCED, log 12). -/
def receiveResponse (n : Slot) (response : List Byte) (s : State) : State :=
  match (s.slot n).attempt, (s.slot n).current with
  | some a, some op =>
    if s.alive ∧ op.step.responseLength ≤ response.length then
      waitTest (judgeResponse n a op (response.take op.step.responseLength) s)
    else s
  | _, _ => s

/-- The attempt timer expires before a full response has arrived: the attempt fails, by timeout or as corrupt (R83). -/
def expireAttempt (n : Slot) (received : Nat) (s : State) : State :=
  match (s.slot n).attempt, (s.slot n).current with
  | some a, some op => if s.alive ∧ received < op.step.responseLength then waitTest (failAttempt n a s) else s
  | _, _ => s

/-! ### The rows -/

/-- SEAT_CHANGE (R76). -/
def execSeatChange (n : Slot) (level : Bool) (s : State) : Host.Outcome State Fault Refusal := .next (changeSeat n level s)

/-- DEBOUNCE_EXPIRY (R76). -/
def execDebounceExpiry (n : Slot) (s : State) : Host.Outcome State Fault Refusal := .next (expireDebounce n s)

/-- SETTLE_TIMER_EXPIRY (R80). -/
def execSettleTimerExpiry (n : Slot) (s : State) : Host.Outcome State Fault Refusal := .next (expireSettle n s)

/-- IDLE_TIMER_EXPIRY (R81). -/
def execIdleTimerExpiry (n : Slot) (s : State) : Host.Outcome State Fault Refusal := .next (expireIdle n s)

/-- CARTRIDGE_RESPONSE (R83). -/
def execCartridgeResponse (n : Slot) (response : List Byte) (s : State) : Host.Outcome State Fault Refusal :=
  .next (receiveResponse n response s)

/-- ATTEMPT_TIMEOUT (R83). -/
def execAttemptTimeout (n : Slot) (received : Nat) (s : State) : Host.Outcome State Fault Refusal :=
  .next (expireAttempt n received s)

end Sys2Proof.Machine
end

