-- ==== Sys2Proof/Machine/SlotRequests.lean ====
section
/-! DEFINITION. The requests on slots: READ SLOT, COLLECT STATUS, START OPERATION, HALT SLOT, WRITE SLOT CONFIG and READ SLOT
CONFIG (R93, R94, R102, R112, R120). -/

namespace Sys2Proof.Machine

/-- READ SLOT (R94). -/
def handleReadSlot (args : List Byte) (s : State) : Answer :=
  match slotArgument args with
  | none => refuse .badArgument s
  | some n => okWith (slotData n (s.slot n)) s

/-- COLLECT STATUS: the record whole, then cleared (R120). -/
def handleCollectStatus (args : List Byte) (s : State) : Answer :=
  match slotArgument args with
  | none => refuse .badArgument s
  | some n => okWith (statusData (s.slot n).status) (s.modSlot n fun c => { c with status := none })

/-- START OPERATION, with the wait test that the joining calls for (R102, R168). -/
def handleStartOperation (args : List Byte) (s : State) : Answer :=
  match startArguments args with
  | none => refuse .badArgument s
  | some (n, kind) =>
    if (s.slot n).bindingState = .noCartridge then refuse .notPresent s
    else if mayJoin kind (s.slot n) then
      pendingWith [byteOf kind.code, byteOf (flagAt 0 (isQueued kind (s.slot n).queue))] (waitTest (joinOp n kind .requested s))
    else refuse .badState s

/-- The kinds removed from a queue, bit n for kind code n (section 11.1). -/
def removedKinds (q : List QueueEntry) : Nat := (q.map fun e => 2 ^ e.kind.code).sum

/-- The primary of HALT SLOT at a slot with no current operation (R112, step 2). -/
def nothingActivePrimary : Primary := { kind := none, result := .halted, reason := none, nothingActive := true }

/-- The current operation as HALT SLOT leaves it: its origin becomes REQUESTED (R112). -/
def haltCurrent (pending : Bool) (c : SlotContext) : SlotContext :=
  { c with current := c.current.map fun op => { op with origin := .requested, haltPending := pending || op.haltPending } }

/-- HALT SLOT at slot n (R112). -/
def haltSlot (n : Slot) (s : State) : Answer :=
  let removed := byteOf (removedKinds (s.slot n).queue)
  let s1 := s.modSlot n fun c => { c with queue := [] }
  match (s.slot n).current with
  | none =>
    okWith [0, removed] (waitTest (s1.modSlot n (mergeStatus s.policy.allowance (some nothingActivePrimary) 0 0)))
  | some op =>
    if (s.slot n).attempt.isNone then
      okWith [byteOf op.kind.code, removed] (waitTest (endOp n .halted none 0 0 (s1.modSlot n (haltCurrent false))))
    else pendingWith [byteOf op.kind.code, removed] (waitTest (s1.modSlot n (haltCurrent true)))

/-- HALT SLOT (R112). -/
def handleHaltSlot (args : List Byte) (s : State) : Answer :=
  match slotArgument args with
  | none => refuse .badArgument s
  | some n => haltSlot n s

/-- The idle timer after a write of the idle delay: it restarts with the new delay, or stops for a delay of 0 (R81). While an
attempt is in flight or the supply is not ON it does not run. DEDUCED (log 20): it starts also where the old delay was 0. -/
def restartIdle (c : SlotContext) : SlotContext :=
  if c.supply = .poweredOn ∧ c.attempt = none then { c with idleTimer := idleStart c.config } else c

/-- A write changes the low mark or the overdraw tolerance (R50). -/
def marksMove (old new : SlotConfig) : Bool := decide (old.lowMark ≠ new.lowMark) || decide (old.tolerance ≠ new.tolerance)

/-- The marks of slot n's binding are judged silently, where they are to be and it has U_est (R50, R51, R93). An ended
binding is not judged again (DEDUCED, log 22). -/
def judgeConfigured (b : Bool) (n : Slot) (s : State) : State :=
  s.modSlot n fun c =>
    let p := evidenceIf (b && decide (c.bindingState ≠ .released)) (judgeSilently c.config) (c.record, 0)
    mergeStatus s.policy.allowance none 0 p.2 { c with record := p.1 }

/-- WRITE SLOT CONFIG (R81, R92, R93). -/
def handleWriteSlotConfig (args : List Byte) (s : State) : Answer :=
  match writeConfigArguments args with
  | none => refuse .badArgument s
  | some (n, v) =>
    let cfg := writeSlotConfig v (s.slot n).config
    let s1 := s.modSlot n fun c => { c with config := cfg }
    let s2 := if (fieldOf v 6).isSome then s1.modSlot n restartIdle else s1
    okWith [] (judgeConfigured (marksMove (s.slot n).config cfg) n s2)

/-- READ SLOT CONFIG (R93). -/
def handleReadSlotConfig (args : List Byte) (s : State) : Answer :=
  match slotArgument args with
  | none => refuse .badArgument s
  | some n => okWith (slotConfigData (s.slot n).config) s

/-! ### The rows -/

/-- READ_SLOT (R94). -/
def execReadSlot (s : State) : Host.Outcome State Fault Refusal := .next (takeRequest (.request 0x02) handleReadSlot s)

/-- COLLECT_STATUS (R120). -/
def execCollectStatus (s : State) : Host.Outcome State Fault Refusal :=
  .next (takeRequest (.request 0x03) handleCollectStatus s)

/-- START_OPERATION (R102). -/
def execStartOperation (s : State) : Host.Outcome State Fault Refusal :=
  .next (takeRequest (.request 0x04) handleStartOperation s)

/-- HALT_SLOT (R112). -/
def execHaltSlot (s : State) : Host.Outcome State Fault Refusal := .next (takeRequest (.request 0x05) handleHaltSlot s)

/-- WRITE_SLOT_CONFIG (R93). -/
def execWriteSlotConfig (s : State) : Host.Outcome State Fault Refusal :=
  .next (takeRequest (.request 0x06) handleWriteSlotConfig s)

/-- READ_SLOT_CONFIG (R93). -/
def execReadSlotConfig (s : State) : Host.Outcome State Fault Refusal :=
  .next (takeRequest (.request 0x07) handleReadSlotConfig s)

end Sys2Proof.Machine
end

