-- ==== Sys2Proof/Machine/Dispatch.lean ====
section
/-! DEFINITION. One arm per command: its meaning. -/

namespace Sys2Proof.Machine

/-- A command's effect on everything but the queue of commands. -/
def exec (i : Instr) (s : State) : Host.Outcome State Fault Refusal :=
  match i with
  | .powerOn decayed => Sys2Proof.Machine.execPowerOn decayed s
  | .endOfRestoring => Sys2Proof.Machine.execEndOfRestoring s
  | .lossOfPower => Sys2Proof.Machine.execLossOfPower s
  | .pinResetAsserted => Sys2Proof.Machine.execPinResetAsserted s
  | .pinResetReleased => Sys2Proof.Machine.execPinResetReleased s
  | .frameArrivalBegins kind => Sys2Proof.Machine.execFrameArrivalBegins kind s
  | .frameArrivalEnds rest => Sys2Proof.Machine.execFrameArrivalEnds rest s
  | .unknownKindFrame => Sys2Proof.Machine.execUnknownKindFrame s
  | .fire => Sys2Proof.Machine.execFire s
  | .spit => Sys2Proof.Machine.execSpit s
  | .swathStart => Sys2Proof.Machine.execSwathStart s
  | .swathEnd => Sys2Proof.Machine.execSwathEnd s
  | .streamReset => Sys2Proof.Machine.execStreamReset s
  | .heldSwathStartForwarded => Sys2Proof.Machine.execHeldSwathStartForwarded s
  | .headTransferBegins ready => Sys2Proof.Machine.execHeadTransferBegins ready s
  | .headTransferCompletes => Sys2Proof.Machine.execHeadTransferCompletes s
  | .returnTransmissionBegins => Sys2Proof.Machine.execReturnTransmissionBegins s
  | .returnTransmissionCompletes => Sys2Proof.Machine.execReturnTransmissionCompletes s
  | .seatChange slot level => Sys2Proof.Machine.execSeatChange slot level s
  | .debounceExpiry slot => Sys2Proof.Machine.execDebounceExpiry slot s
  | .settleTimerExpiry slot => Sys2Proof.Machine.execSettleTimerExpiry slot s
  | .idleTimerExpiry slot => Sys2Proof.Machine.execIdleTimerExpiry slot s
  | .cartridgeResponse slot response => Sys2Proof.Machine.execCartridgeResponse slot response s
  | .attemptTimeout slot received => Sys2Proof.Machine.execAttemptTimeout slot received s
  | .conversionComplete code => Sys2Proof.Machine.execConversionComplete code s
  | .programVerify passes => Sys2Proof.Machine.execProgramVerify passes s
  | .unknownRequest => Sys2Proof.Machine.execUnknownRequest s
  | .readSummary => Sys2Proof.Machine.execReadSummary s
  | .readSlot => Sys2Proof.Machine.execReadSlot s
  | .collectStatus => Sys2Proof.Machine.execCollectStatus s
  | .startOperation => Sys2Proof.Machine.execStartOperation s
  | .haltSlot => Sys2Proof.Machine.execHaltSlot s
  | .writeSlotConfig => Sys2Proof.Machine.execWriteSlotConfig s
  | .readSlotConfig => Sys2Proof.Machine.execReadSlotConfig s
  | .writeLane => Sys2Proof.Machine.execWriteLane s
  | .readLane => Sys2Proof.Machine.execReadLane s
  | .readLaneCounters => Sys2Proof.Machine.execReadLaneCounters s
  | .writePolicy => Sys2Proof.Machine.execWritePolicy s
  | .readPolicy => Sys2Proof.Machine.execReadPolicy s
  | .lockPolicy => Sys2Proof.Machine.execLockPolicy s
  | .writeSequence => Sys2Proof.Machine.execWriteSequence s
  | .setSampleMode => Sys2Proof.Machine.execSetSampleMode s
  | .sampleNext => Sys2Proof.Machine.execSampleNext s
  | .sampleInput => Sys2Proof.Machine.execSampleInput s
  | .readSamples => Sys2Proof.Machine.execReadSamples s
  | .writeLimits => Sys2Proof.Machine.execWriteLimits s
  | .readRetired => Sys2Proof.Machine.execReadRetired s
  | .forgetRetired => Sys2Proof.Machine.execForgetRetired s
  | .provisionKey => Sys2Proof.Machine.execProvisionKey s
  | .resumeStream => Sys2Proof.Machine.execResumeStream s
  | .clearConditions => Sys2Proof.Machine.execClearConditions s
  | .writeFaultMask => Sys2Proof.Machine.execWriteFaultMask s

end Sys2Proof.Machine
end

