-- ==== Sys2Proof/Safety.lean ====
section
/-! DEFINITION. What a sound state of the part is: the bounds, orders and links between fields that the spec states and that
every step keeps. -/

namespace Sys2Proof.Machine

/-- The capacities of the Swath Port and of the Agent's two queues (R3, R18, R184, R187). -/
structure PortWf (s : State) : Prop where
  buffer : s.port.buffer.length ≤ 4
  outQueue : s.port.outQueue.length ≤ 4
  replies : s.replyQueue.length ≤ 8
  reports : s.reportQueue.length ≤ 2

/-- The ranges of a lane table entry (R22). -/
structure LaneEntryWf (e : LaneEntry) : Prop where
  nozzles : e.nozzles % 64 = 0 ∧ 64 ≤ e.nozzles ∧ e.nozzles ≤ 2048
  volumes : ∀ v ∈ [e.v1, e.v2, e.v3], v = 0 ∨ (100 ≤ v ∧ v ≤ 40000)
  factors : ∀ b : Band, 768 ≤ e.k[b] ∧ e.k[b] ≤ 1280

/-- The ranges of a slot configuration (R92). -/
structure SlotConfigWf (c : SlotConfig) : Prop where
  inkType : c.inkType ≤ 255
  lowMark : c.lowMark ≤ 1000
  tolerance : 1 ≤ c.tolerance ∧ c.tolerance ≤ 1000
  writeBack : 1 ≤ c.writeBack ∧ c.writeBack ≤ 65535
  verify : c.verify ≤ 65535
  settle : 1 ≤ c.settle ∧ c.settle ≤ 15
  idle : c.idle ≤ 255
  timeout : 5 ≤ c.timeout ∧ c.timeout ≤ 100

/-- The ranges of the Condition Monitor (section 4.1). -/
structure MonitorWf (m : Monitor) : Prop where
  depth : 1 ≤ m.sequence.length ∧ m.sequence.length ≤ 8
  position : m.position < m.sequence.length
  thresholds : m.thresholds.toList.Pairwise (· < ·) ∧ ∀ t ∈ m.thresholds.toList, t ≤ 4096
  limits : ∀ x : ThermalInput, 1 ≤ m.limits[x] ∧ m.limits[x] ≤ 4096
  skipped : m.skipped ≤ Config.max32

/-- Every setting that a request can write lies in its range: lanes, slots, sampling, policy allowance, fault mask (R22, R92,
section 4.1, R161, R192); and no bit stands among the sticky conditions that names none of them (R189). -/
structure SettingsWf (s : State) : Prop where
  lanes : ∀ l : Lane, LaneEntryWf (s.laneEntry l)
  slots : ∀ n : Slot, SlotConfigWf (s.slot n).config
  monitor : MonitorWf s.monitor
  allowance : s.policy.allowance ≤ 65535
  faultMask : s.agent.faultMask &&& ~~~maskableBits = 0
  sticky : s.agent.sticky &&& ~~~0x00FF07FF#32 = 0

/-- The lane counters hold 48 bits each (R34). -/
abbrev LaneCountersWf (c : LaneCounters) : Prop :=
  ∀ x ∈ [c.forwarded, c.blanked, c.marked, c.drops1, c.drops2, c.drops3, c.unattributed], x ≤ Config.max48

/-- An evidence attribute's raw and worst values hold 16 bits (R135). -/
abbrev EvidenceWf (e : Evidence) : Prop :=
  ∀ a ∈ [e.regression, e.retiredMatch, e.overdraw, e.advanceRefused], a.raw ≤ 65535 ∧ a.worst ≤ 65535

/-- The ranges of a slot's metering, evidence and failed-attempt count (section 3.1, R83, R135). -/
structure MeterWf (c : SlotContext) : Prop where
  residue : c.record.residue < Config.qIU
  orphanResidue : c.orphanResidue < Config.qIU
  metered : c.record.metered ≤ Config.max32
  unverifiedUnits : c.record.unverifiedUnits ≤ Config.max32
  flaggedUnits : c.record.flaggedUnits ≤ Config.max32
  sinceVerify : c.record.sinceVerify ≤ Config.max32
  orphanCount : c.orphanCount ≤ Config.max32
  swathCredited : c.swathCredited ≤ Config.max32
  swathOrphaned : c.swathOrphaned ≤ Config.max32
  failedAttempts : c.failedAttempts ≤ Config.max32
  evidence : EvidenceWf c.record.evidence

/-- The commit queue (R175, R176): at most 16 writes, no two to one position, none left waiting while no program runs. -/
structure StoreWf (st : RecordStore) : Prop where
  capacity : st.commitQueue.length ≤ 16
  distinct : (st.commitQueue.map Write.pos).Nodup
  busy : st.program = none → st.commitQueue = []
  attempt : ∀ p, st.program = some p → p.attempt = 1 ∨ p.attempt = 2

/-- The retired list (R147): at most 48 entries, no serial and no position twice, oldest first, the next sequence number not
below any listed. -/
structure RetiredWf (r : RefillMonitor) : Prop where
  capacity : r.retired.length ≤ 48
  serials : (r.retired.map fun e => e.content.serial).Nodup
  positions : (r.retired.map fun e => e.position).Nodup
  order : r.retired.Pairwise fun a b => a.content.sequence ≤ b.content.sequence
  next : ∀ e ∈ r.retired, e.content.sequence ≤ r.nextSeq
  range : 1 ≤ r.nextSeq ∧ r.nextSeq ≤ Config.max32

/-- How many writes of the key record are queued or being programmed. -/
def keyWrites (st : RecordStore) : Nat :=
  (st.commitQueue.countP fun w => decide (w.pos = .key)) +
    match st.program with
    | some p => if p.write.pos = .key then 1 else 0
    | none => 0

/-- The key state agrees with the key record and its writes (R122, R173): PRESENT with the content of a VALID record and no
write of one under way; PROVISIONING with exactly one under way, or one committed at a VALID position and held for the release
of RESET_N; ABSENT with none, as it is before the restore has settled the state. -/
structure KeyWf (s : State) : Prop where
  present : ∀ k, s.key = .present k → s.store.keyForm = .valid k ∧ keyWrites s.store = 0 ∧ s.keyCommitHeld = false
  provisioning : s.key = .provisioning →
    (keyWrites s.store = 1 ∧ s.keyCommitHeld = false) ∨
      (keyWrites s.store = 0 ∧ s.keyCommitHeld = true ∧ s.resetAsserted = true ∧ ∃ k, s.store.keyForm = .valid k)
  absent : s.key = .absent → keyWrites s.store = 0 ∧ s.keyCommitHeld = false
  unsettled : s.powered = false ∨ s.restoring = true → s.key = .absent

/-- Without a PRESENT key no binding rests on a proof: none is PENDING_AUTH, VERIFIED or identified and LINK_LOST, and no
operation is current but a BIND that asks for the identity (R106, R108, R122, R131). -/
structure ProofWf (s : State) : Prop where
  states : s.keyPresent = false → ∀ n : Slot, (s.slot n).bindingState ≠ .pendingAuth ∧ (s.slot n).bindingState ≠ .verified ∧
    ((s.slot n).bindingState = .linkLost → (s.slot n).record.identity = none)
  operations : s.keyPresent = false → ∀ (n : Slot) (op : CurrentOp), (s.slot n).current = some op →
    op.kind = .bind ∧ op.step = .ident

/-- A slot at rest: no operation and no attempt, the supply OFF and no timer of it running. -/
structure SlotIdle (c : SlotContext) : Prop where
  current : c.current = none
  queue : c.queue = []
  attempt : c.attempt = none
  supply : c.supply = .off
  timers : c.settleTimer = none ∧ c.idleTimer = none

/-- The binding states in which the slot's operation may stand at its step (R99, R103, R106 to R110). -/
def stepAllowed (op : CurrentOp) (c : SlotContext) : Prop :=
  match op.kind, op.step with
  | .bind, .ident => c.bindingState = .pendingId ∨ (c.bindingState = .linkLost ∧ c.record.identity = none)
  | .bind, .challenge => c.bindingState = .pendingAuth
  | .verify, .challenge =>
    c.record.identity ≠ none ∧
      (c.bindingState = .pendingAuth ∨ c.bindingState = .unverified ∨ c.bindingState = .verified ∨ c.bindingState = .linkLost)
  | .writeBack, .advance | .release, .advance => c.bindingState = .verified
  | _, _ => False

/-- Operation, supply, timers and attempt of a slot agree (section 5.2, R80, R81, R83, R100, R103). -/
structure ControlWf (c : SlotContext) : Prop where
  kinds : (c.queue.map QueueEntry.kind).Nodup
  idle : c.current = none → c.queue = [] ∧ c.attempt = none
  waiting : c.current ≠ none → c.attempt = none → c.supply = .settling
  running : c.attempt ≠ none → c.supply = .poweredOn
  number : ∀ a, c.attempt = some a → 1 ≤ a.number ∧ a.number ≤ 3
  step : ∀ op, c.current = some op → stepAllowed op c
  target : ∀ op, c.current = some op → op.step = .advance → c.attempt ≠ none →
    ∃ t, op.target = some t ∧ c.record.lastWritten.getD 0 ≤ t
  settle : c.settleTimer.isSome = decide (c.supply = .settling)
  idleTimer : c.idleTimer = if c.supply = .poweredOn ∧ c.attempt = none then idleStart c.config else none
  unpowered : c.bindingState = .noCartridge ∨ c.bindingState = .released → c.supply = .off

/-- Binding state and binding record of a slot agree (section 5.4, R89, R91, R132, R142). -/
structure BindingWf (c : SlotContext) : Prop where
  failure : c.record.failure.isSome = decide (c.bindingState = .failed)
  noBinding : c.bindingState = .noCartridge → c.record = .starting
  unidentified : c.bindingState = .pendingId → c.record.identity = none
  identified : c.bindingState = .pendingAuth ∨ c.bindingState = .unverified → c.record.identity ≠ none
  verified : c.bindingState = .verified → c.record.uBind ≠ none ∧ c.record.verifiedOnce = true
  evaluated : c.record.uBind ≠ none → c.record.identity ≠ none
  acknowledged : c.record.lastWritten.isSome = c.record.uBind.isSome
  notAbove : c.record.lastWritten.getD 0 ≤ c.record.uEst.getD 0
  stored : c.record.uBind.getD 0 ≤ Config.max32

/-- The slots of a sound state: each agrees with itself, none works while the part does not, none has a binding in RESTORING,
and no checkpoint stands with A above E or E above 2^32 - 1 (R95, R97, R145, R174). -/
structure SlotsWf (s : State) : Prop where
  control : ∀ n : Slot, ControlWf (s.slot n)
  binding : ∀ n : Slot, BindingWf (s.slot n)
  stopped : s.running = false → ∀ n : Slot, SlotIdle (s.slot n)
  unbound : s.powered = false ∨ s.restoring = true → ∀ n : Slot, (s.slot n).bindingState = .noCartridge
  checkpoints : ∀ (n : Slot) (c : Checkpoint), s.refill.checkpoints[n] = some c →
    c.acknowledged ≤ c.estimate ∧ c.estimate ≤ Config.max32

/-- A binding holds its serial against every other slot: identified and neither FAILED nor RELEASED (R88, R106). -/
def holdsSerial (c : SlotContext) (serial : Serial) : Prop :=
  c.bindingState ≠ .failed ∧ c.bindingState ≠ .released ∧ ∃ i, c.record.identity = some i ∧ i.serial = serial

/-- No two slots hold one serial (R106). -/
def SerialsDistinct (s : State) : Prop :=
  ∀ (m n : Slot) (serial : Serial), holdsSerial (s.slot m) serial → holdsSerial (s.slot n) serial → m = n

/-- No two CHALLENGE attempts in flight carry one nonce, and none carries a spent one (R84, R130). -/
structure NoncesWf (s : State) : Prop where
  unspent : ∀ (n : Slot) (a : Attempt) (v : Nonce), (s.slot n).attempt = some a → a.nonce = some v → v ∉ s.spentNonces
  distinct : ∀ (m n : Slot) (a b : Attempt) (v : Nonce), (s.slot m).attempt = some a → (s.slot n).attempt = some b →
    a.nonce = some v → b.nonce = some v → m = n

/-- A mapped lane waits (R168): its slot's binding is PENDING_ID or PENDING_AUTH with an operation current or queued, and the
lane is in the hold-cause list or its present action is HOLD. -/
def Waits (s : State) (l : Lane) : Prop :=
  ∃ n, (s.laneEntry l).slot = some n ∧
    ((s.slot n).bindingState = .pendingId ∨ (s.slot n).bindingState = .pendingAuth) ∧
    ((s.slot n).current ≠ none ∨ (s.slot n).queue ≠ []) ∧
    ((∃ h ∈ s.policy.holdCauses, h.lane = l) ∨ s.laneAction l = .hold)

/-- The stream is RESUME_PENDING only while some lane waits (R168). -/
def WaitWf (s : State) : Prop := s.port.stream = .resumePending → ∃ l, Waits s l

/-- Stream state, hold-cause list and the held SWATH_START agree (R14 to R16, R166): the list is empty unless the stream is held
or its resumption pending, its lanes stand in order, and then the frame at the head of the buffer is the held one. -/
structure HoldWf (s : State) : Prop where
  empty : s.streamHeldHolds = false → s.policy.holdCauses = []
  order : s.policy.holdCauses.Pairwise fun a b => a.lane < b.lane
  held : s.streamHeldHolds = true → ∃ f rest,
    s.port.buffer = f :: rest ∧ f.phase = .checked ∧ isControl f = false ∧ ∀ g ∈ rest, isControl g = true
  checked : ∀ f ∈ s.port.buffer.tail, f.phase ≠ .checked

end Sys2Proof.Machine
end

