-- ==== Sys2Proof/Vocabulary.lean ====
section
/-! DEFINITION. The words the statements are written in: frames as the formatter builds them, responses as a cartridge chip
builds them, the plain record updates that a taken frame or a reply makes, the layouts of reply data, and the tests of the lane
conditions. -/

namespace Sys2Proof.Machine

/-! ### Frames -/

/-- A frame of the swath link with its length and CRC-16 right: kind, byte 1 (guard, SPIT size, lane), sequence number, byte 3,
payload (section 11.6). -/
def linkFrame (kind shape seq count : Byte) (payload : List Byte) : List Byte :=
  withCrc16 ([kind, shape, seq, count] ++ beBytes 2 payload.length ++ payload)

/-- The lane that byte 1 names. -/
def laneOfShape (shape : Byte) : Lane := ⟨shape.toNat % 16, Nat.mod_lt _ (by decide)⟩

/-- The frame that is taken next: the eligible one, ready, and a place free in the output queue where it is print-class (R3). -/
structure TakenNext (bs : List Byte) (s : State) : Prop where
  running : s.running = true
  eligible : eligible s.port = some { bytes := bs, phase := .ready }
  room : controlClass (kindCode bs) = true ∨ s.port.outQueue.length < 4

/-- The command that takes a CONTROL frame of a request code. -/
def requestCommand (code : Byte) : Instr :=
  match code.toNat with
  | 1 => .readSummary
  | 2 => .readSlot
  | 3 => .collectStatus
  | 4 => .startOperation
  | 5 => .haltSlot
  | 6 => .writeSlotConfig
  | 7 => .readSlotConfig
  | 8 => .writeLane
  | 9 => .readLane
  | 10 => .readLaneCounters
  | 11 => .writePolicy
  | 12 => .readPolicy
  | 13 => .lockPolicy
  | 14 => .writeSequence
  | 15 => .setSampleMode
  | 16 => .sampleNext
  | 17 => .sampleInput
  | 18 => .readSamples
  | 19 => .writeLimits
  | 20 => .readRetired
  | 21 => .forgetRetired
  | 22 => .provisionKey
  | 23 => .resumeStream
  | 24 => .clearConditions
  | 25 => .writeFaultMask
  | _ => .unknownRequest

/-- The command that takes a frame. -/
def frameCommand (bs : List Byte) : Instr :=
  match frameRow bs with
  | .unknownKind => .unknownKindFrame
  | .fire => .fire
  | .spit => .spit
  | .swathStart => .swathStart
  | .swathEnd => .swathEnd
  | .streamReset => .streamReset
  | .request code => requestCommand code
  | .unknownRequest => .unknownRequest

/-- A good print-class frame is taken next. -/
structure PrintNext (kind shape seq count : Byte) (payload : List Byte) (s : State) : Prop where
  taken : TakenNext (linkFrame kind shape seq count payload) s
  guard : shape.msb = true
  length : payload.length < 65536

/-- A good CONTROL frame with this request code, tag and arguments is taken next, and the reply queue has room (R5, R184). -/
structure RequestNext (code tag : Byte) (args : List Byte) (shape seq count : Byte) (s : State) : Prop where
  taken : TakenNext (linkFrame 0xA5 shape seq count (code :: tag :: args)) s
  guard : shape.msb = false
  arguments : args.length ≤ 64
  replies : s.replyQueue.length < 8

/-- The bit that SEQUENCE_GAP adds: none where the expected number is "any" or the frame's own (R7). -/
def gapBits (expected : Option Byte) (seq : Byte) : Word32 :=
  if expected = none ∨ expected = some seq then 0 else Condition.mask .sequenceGap

/-- The state once a good frame other than STREAM_RESET has left its place: sequence tracking moved on (R2, R7). -/
def State.consumed (seq : Byte) (s : State) : State :=
  { s with
      port := { s.port with buffer := withoutEligible s.port, expected := some (seq + 1) },
      agent := { s.agent with sticky := s.agent.sticky ||| gapBits s.port.expected seq } }

/-- As `consumed`, with a frame placed on the output queue. -/
def State.forwardedAs (bs : List Byte) (seq : Byte) (s : State) : State :=
  { s.consumed seq with
      port := { (s.consumed seq).port with outQueue := s.port.outQueue ++ [bs] } }

/-- A condition's bit is added to the sticky ones. -/
def State.withCondition (c : Condition) (s : State) : State :=
  { s with agent := { s.agent with sticky := s.agent.sticky ||| c.mask } }

/-- A reply joins the reply queue, with the summary word of this state (R184, R188). -/
def State.replied (tag code : Byte) (r : ResultCode) (data : List Byte) (s : State) : State :=
  { s with agent := { s.agent with returnQueue := s.agent.returnQueue ++ [.reply tag code r data s.summaryWord] } }

/-- The drop levels of a payload in the order they are sent, four to a byte from bits 7 and 6 on (section 11.6). -/
def levelsOf (payload : List Byte) : List (BitVec 2) :=
  payload.flatMap fun b => [b.extractLsb' 6 2, b.extractLsb' 4 2, b.extractLsb' 2 2, b.extractLsb' 0 2]

/-! ### Selections -/

/-- The selection bits of a list of values, bit i for place i. -/
def selectionBits : List (Option Nat) → Nat
  | [] => 0
  | o :: rest => (if o.isSome then 1 else 0) + 2 * selectionBits rest

/-- The value bytes of a selection, in selection order. -/
def selectionBytes : List Nat → List (Option Nat) → List Byte
  | w :: ws, some x :: rest => beBytes w x ++ selectionBytes ws rest
  | _ :: ws, none :: rest => selectionBytes ws rest
  | _, _ => []

/-- Every selected value fits the width of its field. -/
def SelectionFits : List Nat → List (Option Nat) → Prop
  | w :: ws, o :: rest => (∀ x, o = some x → x < 256 ^ w) ∧ SelectionFits ws rest
  | [], [] => True
  | _, _ => False

/-- The value bytes that a selection asks for (R185). -/
def selectedLength : List Nat → Nat → Nat
  | [], _ => 0
  | w :: ws, selection => (if selection % 2 = 1 then w else 0) + selectedLength ws (selection / 2)

/-! ### Slots -/

/-- Nothing changes but the slots, and of them slot n alone. -/
def OnlySlot (n : Slot) (s t : State) : Prop := t = { s with slots := t.slots } ∧ ∀ m : Slot, m ≠ n → t.slot m = s.slot m

/-- The stored form of a position after power-on: a VALID one that decayed is INVALID (R173). -/
def decayedForm {α : Type} (decayed : Bool) : Stored α → Stored α
  | .valid a => if decayed then .invalid else .valid a
  | .blank => .blank
  | .invalid => .invalid

/-- A response to IDENT with its CRC-8 right (section 11.6). -/
def identResponse (serial : Serial) (ink : Byte) (capacity : Nat) (generation format : Byte) : List Byte :=
  withCrc8 (0x5A :: (beBytes 8 serial.toNat ++ [ink] ++ beBytes 4 capacity ++ [generation, format]))

/-- A response to CHALLENGE with its CRC-8 right (section 11.6). -/
def challengeResponse (used : Nat) (generation : Byte) (tag : List Byte) : List Byte :=
  withCrc8 (0x6B :: (beBytes 4 used ++ [generation] ++ tag))

/-- A response to ADVANCE with its CRC-8 right (section 11.6). -/
def advanceResponse (used : Nat) : List Byte := withCrc8 (0x7C :: beBytes 4 used)

/-- An operation of origin AUTO that has just become current and waits for the supply. -/
def autoOp (kind : OpKind) : CurrentOp :=
  { kind := kind, origin := .auto, step := firstStep kind, target := none, haltPending := false }

/-- The primary of a REQUESTED operation that ends; an AUTO one places none (R104). -/
def primaryOf (op : CurrentOp) (result : OpResult) (reason : Option FailureReason) : Option Primary :=
  if op.origin = .requested then some { kind := some op.kind, result := result, reason := reason, nothingActive := false }
  else none

/-- An attempt is in flight at slot n for its current operation, the part works, and no resumption waits. -/
structure AttemptRuns (n : Slot) (op : CurrentOp) (a : Attempt) (s : State) : Prop where
  alive : s.alive = true
  stream : s.port.stream ≠ .resumePending
  current : (s.slot n).current = some op
  attempt : (s.slot n).attempt = some a

/-! ### Checks of a frame, as R4 to R6 state them -/

/-- The guard check fails (R4): too short, a kind code that is none of the six, or a guard bit that is not the inverse of the
kind's top bit. -/
def GuardFails (bs : List Byte) : Prop :=
  bs.length < 8 ∨ kindCode bs ∉ ([0x21, 0x22, 0x31, 0x32, 0xA5, 0xC3] : List Byte) ∨ (byteAt bs 1).msb = (kindCode bs).msb

/-- The length check fails (R5): the header's length is not that of the payload received, or does not suit the kind. -/
def LengthFails (s : State) (bs : List Byte) : Prop :=
  headerLength bs ≠ bs.length - 8 ∨
  (kindCode bs = 0x21 ∧ ¬(1 ≤ frameCount bs ∧ frameCount bs ≤ 64 ∧
    headerLength bs = frameCount bs * (s.laneEntry (frameLane bs)).nozzles / 4)) ∨
  (kindCode bs = 0x22 ∧ ¬(1 ≤ spitSize bs ∧ spitSize bs ≤ 3 ∧ 1 ≤ frameCount bs ∧ headerLength bs = 0)) ∨
  (kindCode bs ∈ ([0x31, 0x32, 0xC3] : List Byte) ∧ headerLength bs ≠ 0) ∨
  (kindCode bs = 0xA5 ∧ ¬(2 ≤ headerLength bs ∧ headerLength bs ≤ 66))

/-- The CRC check fails (R6): the CRC-16 over header and payload is not the one the frame carries. -/
def CrcFails (bs : List Byte) : Prop := (crc16 (bs.take (bs.length - 2))).toNat ≠ fieldAt bs (bs.length - 2) 2

/-- The state once the frame taken has been discarded with a condition (R2, R4 to R6). -/
def State.discarded (c : Condition) (s : State) : State :=
  { s with
      port := { s.port with buffer := withoutEligible s.port },
      agent := { s.agent with sticky := s.agent.sticky ||| c.mask } }

/-! ### Swaths -/

/-- No mapped lane has the action HOLD: the hold check and the re-evaluation return OPEN (R165, R169). -/
def NoLaneHolds (s : State) : Prop := ∀ l : Lane, (s.laneEntry l).slot ≠ none → s.laneAction l ≠ .hold

/-- The lanes whose action is HOLD, each with its condition, in lane order (R166). -/
def State.holdCausesNow (s : State) : List HoldCause :=
  (allLanes.filter fun l => decide ((s.laneEntry l).slot ≠ none ∧ s.laneAction l = .hold)).map fun l =>
    { lane := l, condition := s.laneCondition l }

/-- The Condition Monitor at the opening of a swath: in SWATH_PACED a SEQUENCE conversion of the entry at the position starts,
or the trigger is skipped (R62, R66, R68). -/
def Monitor.atOpening (m : Monitor) : Monitor :=
  if m.mode = .swathPaced then
    if m.conversion = none then
      { m with conversion := some { input := m.sequence.getD m.position 0, origin := .sequence true } }
    else { m with skipped := min (m.skipped + 1) 4294967295 }
  else m

/-- The part with a swath just opened: OPEN, every swath sum 0, the Condition Monitor signalled, no hold cause (R8, R16, R58). -/
def State.opening (s : State) : State :=
  { s with
      port := { s.port with stream := .opened },
      slots := Vector.ofFn fun n => { s.slot n with swathCredited := 0, swathOrphaned := 0 },
      monitor := s.monitor.atOpening, policy := { s.policy with holdCauses := [] } }

/-- The remaining ink of a record, C - U_est, where both are there (R48). -/
def inkLeft (r : BindingRecord) : Option Int :=
  if r.uBind = none ∨ r.identity = none then none
  else
    some (((r.identity.map (·.capacity)).getD 0 : Nat) -
      ((min (r.uBind.getD 0 + r.metered) 4294967295 : Nat) : Int))

/-- The swath report of a swath that closes now (R59, R187), its summary word formed while the swath is still OPEN (DEDUCED,
log 14). -/
def State.reportNow (unterminated : Bool) (closing : Byte) (s : State) : ReturnFrame :=
  .report unterminated closing
    (allSlots.map fun n =>
      { credited := (s.slot n).swathCredited, orphaned := (s.slot n).swathOrphaned, remaining := inkLeft (s.slot n).record })
    s.summaryWord

/-- A report joins the report queue: with two waiting, the older of them is removed and REPORT_OVERRUN raised (R187). -/
def State.withReport (f : ReturnFrame) (s : State) : State :=
  { s with
      agent := { s.agent with
        returnQueue := (if s.reportQueue.length < 2 then s.agent.returnQueue
          else s.agent.returnQueue.eraseP ReturnFrame.isReport) ++ [f],
        sticky := s.agent.sticky ||| (if s.reportQueue.length < 2 then 0 else Condition.mask .reportOverrun) } }

/-! ### Marks, overdraw and the end of a binding -/

/-- The overdraw in per-mille of C for an estimate (R48). -/
def overdrawOf (capacity estimate : Nat) : Nat :=
  if capacity < estimate then min ((estimate - capacity) * 1000 / capacity) 65535 else 0

/-- LOW at an estimate: R x 1000 at most the low mark times C, and R above 0 (R48). -/
def lowAt (cfg : SlotConfig) (capacity estimate : Nat) : Bool :=
  decide (((capacity : Int) - estimate) * 1000 ≤ cfg.lowMark * capacity) && decide (estimate < capacity)

/-- A record once its marks have been judged at an estimate and the overdraw handed over: each clear flag whose condition holds
is set, and OVERDRAW takes the overdraw, keeps the greatest and trips at the tolerance (R49 to R51, R135). -/
def judgedAt (cfg : SlotConfig) (capacity estimate : Nat) (r : BindingRecord) : BindingRecord :=
  { r with
      lowMark := r.lowMark || lowAt cfg capacity estimate,
      emptyMark := r.emptyMark || decide (capacity ≤ estimate),
      overdrawMark := r.overdrawMark || decide (cfg.tolerance ≤ overdrawOf capacity estimate),
      evidence := { r.evidence with
        overdraw :=
          { raw := overdrawOf capacity estimate,
            worst := max r.evidence.overdraw.worst (overdrawOf capacity estimate),
            tripped := r.evidence.overdraw.tripped || decide (cfg.tolerance ≤ overdrawOf capacity estimate) } } }

/-- The alert of that hand-over: REFILL_SUSPECT where OVERDRAW trips for the first time (R135). -/
def suspectAt (cfg : SlotConfig) (capacity estimate : Nat) (r : BindingRecord) : Word16 :=
  if r.evidence.overdraw.tripped = false ∧ cfg.tolerance ≤ overdrawOf capacity estimate then 0x0040 else 0

/-- A record's three marks and its OVERDRAW attribute are those of another. -/
def SameMarks (r r' : BindingRecord) : Prop :=
  r'.lowMark = r.lowMark ∧ r'.emptyMark = r.emptyMark ∧ r'.overdrawMark = r.overdrawMark ∧
    r'.evidence.overdraw = r.evidence.overdraw

/-- Checkpoint record n takes a content, and its commit is asked for (R145, R152). -/
def State.checkpointed (n : Slot) (k : Checkpoint) (s : State) : State :=
  commit (.checkpoint n (some k)) { s with refill := { s.refill with checkpoints := s.refill.checkpoints.set n (some k) } }

/-- What the end of slot n's binding with this record leaves with the Refill Monitor and the Record Store (R146): a binding with
U_bind writes checkpoint n, and joins the retired list as REFILL when REGRESSION or RETIRED_MATCH has tripped, else as EMPTIED
when its final U_est is at or above C. -/
def State.traceOf (n : Slot) (r : BindingRecord) (s : State) : State :=
  match r.identity, r.uBind, r.lastWritten with
  | some i, some u, some lw =>
    let final := min (u + r.metered) 4294967295
    let t := s.checkpointed n { serial := i.serial, generation := i.generation, acknowledged := lw, estimate := final }
    if r.evidence.regression.tripped = true ∨ r.evidence.retiredMatch.tripped = true then
      addRetired i.serial i.generation final .refill t
    else if i.capacity ≤ final then addRetired i.serial i.generation final .emptied t
    else t
  | _, _, _ => s

/-- As `traceOf`, for a slot as its binding ends: a FAILED binding leaves no trace, and no binding is left to end in NO_CARTRIDGE
and RELEASED (R78, R146). -/
def State.bindingEnds (n : Slot) (c : SlotContext) (s : State) : State :=
  if c.bindingState = .noCartridge ∨ c.bindingState = .released ∨ c.bindingState = .failed then s else s.traceOf n c.record

/-- U_est of a record: U_bind plus metered, held at 2^32 - 1; absent with U_bind (R44). -/
def estimateOf (r : BindingRecord) : Option Nat := r.uBind.map fun u => min (u + r.metered) 4294967295

/-- The record of a binding as RELEASED keeps it: no failure reason, no residue, and LOW as it stood at the end (R48, R56, R89;
DEDUCED, log 15: the rest whole). -/
def keptRecord (c : SlotContext) : BindingRecord :=
  { c.record with
      failure := none, residue := 0,
      lowAtEnd :=
        match c.record.identity, c.record.uBind with
        | some i, some u => lowAt c.config i.capacity (min (u + c.record.metered) 4294967295)
        | _, _ => false }

/-! ### Slot operations -/

/-- The slot as an operation of a kind that becomes current there leaves it for its first step: a BIND replaces a RELEASED or
FAILED binding, and a VERIFY sets units since verify to 0 (R47, R103, R105). -/
def readied (kind : OpKind) (c : SlotContext) : SlotContext :=
  match kind with
  | .bind =>
    if c.bindingState = .released ∨ c.bindingState = .failed then { c with bindingState := .pendingId, record := .starting }
    else c
  | .verify => { c with record := { c.record with sinceVerify := 0 } }
  | .writeBack | .release => c

/-- An operation of a kind and origin that has just become current. -/
def newOp (kind : OpKind) (origin : Origin) : CurrentOp :=
  { kind := kind, origin := origin, step := firstStep kind, target := none, haltPending := false }

/-- An operation of a kind and origin has become current and waits for the supply, which has begun to settle (R80, R103). -/
def waitsFor (kind : OpKind) (origin : Origin) (c : SlotContext) : SlotContext :=
  { c with
      current := some { kind := kind, origin := origin, step := firstStep kind, target := none, haltPending := false },
      supply := .settling, settleTimer := some c.config.settle }

/-- A kind meets its state condition on the slot's binding (R99). -/
def MeetsCondition (kind : OpKind) (c : SlotContext) : Prop :=
  (kind = .bind → c.bindingState = .pendingId ∨ c.bindingState = .released ∨ c.bindingState = .failed ∨
    (c.bindingState = .linkLost ∧ c.record.identity = none)) ∧
  (kind = .verify → c.record.identity ≠ none ∧
    c.bindingState ∈ ([.pendingAuth, .unverified, .verified, .linkLost] : List BindingState)) ∧
  (kind = .writeBack → c.bindingState = .verified) ∧
  (kind = .release → c.bindingState ≠ .noCartridge ∧ c.bindingState ≠ .released)

/-- A kind passes the state condition and the release bar of R99. -/
def MayJoin (kind : OpKind) (c : SlotContext) : Prop :=
  MeetsCondition kind c ∧ (kind = .verify ∨ kind = .writeBack → isQueued .release c.queue = false) ∧
  (kind ≠ .bind → isCurrent .release c = false)

/-- The queue once an AUTO operation of a kind has joined it, or merged with the entry of its kind there (R100). -/
def autoJoined (kind : OpKind) (q : List QueueEntry) : List QueueEntry :=
  if isQueued kind q then q else q ++ [{ kind := kind, origin := .auto }]

/-- An operation of a kind and origin has become current at slot n for its first transaction: it waits for the supply, which
begins to settle where it is OFF; with the supply ON its first attempt starts at once and the idle timer stops (R80, R81, R84,
R103, R109). -/
def State.begins (n : Slot) (kind : OpKind) (origin : Origin) (s : State) : State :=
  let c := readied kind (s.slot n)
  let U := (estimateOf c.record).getD 0
  match c.supply with
  | .off => s.setSlot n (waitsFor kind origin c)
  | .settling => s.setSlot n { c with current := some (newOp kind origin) }
  | .poweredOn =>
    match kind with
    | .bind =>
      s.setSlot n
        { c with
            current := some (newOp kind origin), idleTimer := none,
            attempt := some { number := 1, nonce := none, request := [0x5A, crc8 [0x5A]], timer := c.config.timeout } }
    | .verify =>
      { s.setSlot n
          { c with
              current := some (newOp kind origin), idleTimer := none,
              attempt := some
                { number := 1, nonce := some s.freshNonce, request := withCrc8 (0x6B :: beBytes 16 s.freshNonce.toNat),
                  timer := c.config.timeout } } with
        nonceCount := s.nonceCount + 1 }
    | .writeBack | .release =>
      s.setSlot n
        { c with
            current := some { newOp kind origin with target := some U }, idleTimer := none,
            attempt := some
              { number := 1, nonce := none, request := withCrc8 (0x7C :: beBytes 4 U), timer := c.config.timeout } }

/-- Slot n has been asked for an AUTO VERIFY by the commit of the key: an identified UNVERIFIED binding with no RELEASE queued or
current takes it, behind a current operation in the queue, at an idle slot at once; every other slot stays (R99 to R101, R103,
R124). -/
def State.verifyAsked (n : Slot) (s : State) : State :=
  let c := s.slot n
  if c.bindingState = .unverified ∧ c.record.identity ≠ none ∧ isQueued .release c.queue = false ∧
      isCurrent .release c = false then
    match c.current with
    | none => s.begins n .verify .auto
    | some _ => s.setSlot n { c with queue := autoJoined .verify c.queue }
  else s

/-- The events of the pending record; none where none is pending (R116). -/
def eventsOf (c : SlotContext) : Byte := (c.status.map (·.events)).getD 0

/-- The alerts of the pending record; none where none is pending (R116). -/
def alertsOf (c : SlotContext) : Word16 := (c.status.map (·.alerts)).getD 0

/-- The slot once the attempt in flight has ended: the idle timer starts (R81). -/
def attemptOver (c : SlotContext) : SlotContext :=
  { c with attempt := none, idleTimer := if c.config.idle = 0 then none else some (c.config.idle * 100) }

/-- The states in which a drop report is credited to the binding (R41). -/
def Charged (c : SlotContext) : Prop := c.bindingState ≠ .noCartridge ∧ c.bindingState ≠ .released

/-- The greatest of a count over the checkpoint records of a serial and generation, 0 where there is none (R140). -/
def greatestOf (f : Checkpoint → Nat) (serial : Serial) (generation : Nat) (s : State) : Nat :=
  (s.refill.checkpoints.toList.filterMap fun o =>
    o.bind fun c => if c.serial = serial ∧ c.generation = generation then some (f c) else none).foldl max 0

/-- A checkpoint record of the serial holds a greater generation (R140). -/
def AheadRecord (serial : Serial) (generation : Nat) (s : State) : Prop :=
  ∃ c : Checkpoint, some c ∈ s.refill.checkpoints.toList ∧ c.serial = serial ∧ generation < c.generation

/-- The content of a checkpoint record at a restore: that of a VALID position that passes its check (R174, R178). -/
def checkpointAt : Stored (Option Checkpoint) → Option Checkpoint
  | .valid (some c) => if c.generation ≤ 255 ∧ c.estimate ≤ 4294967295 ∧ c.acknowledged ≤ c.estimate then some c else none
  | .valid none | .blank | .invalid => none

/-- The content of a retired record at a restore: that of a VALID position that passes its check (R174, R178). -/
def retiredAt : Stored (Option RetiredContent) → Option RetiredContent
  | .valid (some r) => if r.generation ≤ 255 ∧ 1 ≤ r.sequence ∧ r.sequence ≤ 4294967295 then some r else none
  | .valid none | .blank | .invalid => none

/-- A stored position after the loss of power: INVALID where its program was in flight (R182). -/
def cutForm {α : Type} (inFlight : Bool) (f : Stored α) : Stored α := if inFlight then .invalid else f

/-- The program in flight is at this position. -/
def programsAt (pos : RecordPos) (st : RecordStore) : Bool := decide (st.program.map (·.write.pos) = some pos)

/-! ### Layouts of reply data (section 11.6) -/

/-- Message bytes hold each given field at its offset. -/
def HasFields (d : List Byte) (fields : List (Nat × List Byte)) : Prop :=
  ∀ p ∈ fields, (d.drop p.1).take p.2.length = p.2

/-- A byte made of values at bit places; the bits no value reaches are 0 (R196). -/
def packed (fields : List (Nat × Nat)) : Byte := BitVec.ofNat 8 (fields.map fun p => p.2 * 2 ^ p.1).sum

/-- The code of a value: its place in the list of its set, from 0 (R196). -/
def codeIn {α : Type} [DecidableEq α] (set : List α) (a : α) : Nat := set.idxOf a

/-- The binding states in the order of their codes (R196). -/
def bindingStates : List BindingState :=
  [.noCartridge, .pendingId, .pendingAuth, .unverified, .verified, .failed, .linkLost, .released]

/-- The lane conditions in the order of R156, which is that of their codes (R196). -/
def conditionOrder : List LaneCondition :=
  [.unmapped, .overtemp, .noCartridge, .linkLost, .failed, .unverifiedOver, .unverified, .refillConfirmed, .refillSuspect,
    .empty, .low, .genuine]

/-- The actions in the order of their codes (R196). -/
def actionOrder : List Action := [.pass, .mark, .blank, .hold]

/-- The stream states in the order of their codes (R196). -/
def streamOrder : List StreamState := [.idle, .opened, .held, .resumePending]

/-- The code of a failure reason, 0 for none (R196). -/
def reasonCode (r : Option FailureReason) : Nat := codeIn [none, some .badIdentity, some .wrongInk, some .duplicate, some .auth] r

/-- The code of an operation kind, 0 for none (R196). -/
def kindCodeOf (k : Option OpKind) : Nat := codeIn [none, some .bind, some .verify, some .writeBack, some .release] k

/-- LOW of a slot as it is shown: of a binding that has ended, as it stood at its end (R48). -/
def lowOf (c : SlotContext) : Bool :=
  if c.bindingState = .released then c.record.lowAtEnd
  else
    match c.record.identity, estimateOf c.record with
    | some i, some u => lowAt c.config i.capacity u
    | _, _ => false

/-- EMPTY of a record: R at or below 0 (R48). -/
def emptyOf (r : BindingRecord) : Bool :=
  match r.identity, estimateOf r with
  | some i, some u => decide (i.capacity ≤ u)
  | _, _ => false

/-- Overdraw of a record, 0 where it is absent (R48, R196). -/
def overdrawIn (r : BindingRecord) : Nat :=
  match r.identity, estimateOf r with
  | some i, some u => overdrawOf i.capacity u
  | _, _ => 0

/-- A signed number of 5 bytes in two's complement, 0 where it is absent (R196). -/
def signedBytes (r : Option Int) : List Byte := beBytes 5 ((r.getD 0) % 1099511627776).toNat

/-- One place of the queue in the slot data: kind and origin, 0 for none. -/
def placeOf (e : Option QueueEntry) : Nat :=
  match e with
  | some e => kindCodeOf (some e.kind) + 8 * (decide (e.origin = .requested)).toNat
  | none => 0

/-- Raw, worst and threshold of an evidence attribute; at a slot without a binding all are sent as 0 (DEDUCED, log 16). -/
def attributeBytes (c : SlotContext) (a : EvidenceAttr) (threshold : Nat) : List Byte :=
  beBytes 2 a.raw ++ beBytes 2 a.worst ++ beBytes 2 (if c.bindingState = .noCartridge then 0 else threshold)

/-- The 101 bytes of the slot data. The transaction shows once an attempt of it is in flight (DEDUCED, log 17). -/
def SlotLayout (n : Slot) (c : SlotContext) (d : List Byte) : Prop :=
  d.length = 101 ∧
  HasFields d
    [(0, [byteOf n.val]),
      (1, [packed [(0, (decide (c.seat = .seated)).toNat), (1, c.debounce.isSome.toNat),
        (2, codeIn [.off, .settling, .poweredOn] c.supply), (4, c.record.verifiedOnce.toNat), (5, (lowOf c).toNat),
        (6, (emptyOf c.record).toNat)]]),
      (2, [packed [(0, codeIn bindingStates c.bindingState), (4, reasonCode c.record.failure)]]),
      (3, [match c.current with
        | some op => packed [(0, kindCodeOf (some op.kind)), (3, (decide (op.origin = .requested)).toNat),
          (4, if c.attempt = none then 0 else codeIn [none, some .ident, some .challenge, some .advance] (some op.step)),
          (6, op.haltPending.toNat)]
        | none => 0]),
      (4, [byteOf ((c.attempt.map (·.number)).getD 0)]),
      (5, [packed [(4, placeOf c.queue[0]?), (0, placeOf c.queue[1]?)], packed [(4, placeOf c.queue[2]?), (0, placeOf c.queue[3]?)]]),
      (7, [packed [(0, c.record.identity.isSome.toNat), (1, c.record.uBind.isSome.toNat), (2, c.record.lastWritten.isSome.toNat),
        (3, (estimateOf c.record).isSome.toNat)]]),
      (8, beBytes 8 ((c.record.identity.map (·.serial.toNat)).getD 0)),
      (16, beBytes 1 ((c.record.identity.map (·.inkType)).getD 0)), (17, beBytes 4 ((c.record.identity.map (·.capacity)).getD 0)),
      (21, beBytes 1 ((c.record.identity.map (·.generation)).getD 0)),
      (22, beBytes 4 (c.record.uBind.getD 0)), (26, beBytes 4 (c.record.lastWritten.getD 0)),
      (30, beBytes 5 c.record.residue), (35, beBytes 4 c.record.metered),
      (39, beBytes 4 ((estimateOf c.record).getD 0)), (43, signedBytes (inkLeft c.record)), (48, beBytes 2 (overdrawIn c.record)),
      (50, [packed [(0, c.record.lowMark.toNat), (1, c.record.emptyMark.toNat), (2, c.record.overdrawMark.toNat)]]),
      (51, beBytes 4 c.record.unverifiedUnits), (55, beBytes 4 c.record.flaggedUnits), (59, beBytes 4 c.record.sinceVerify),
      (63, beBytes 5 c.orphanResidue), (68, beBytes 4 c.orphanCount),
      (72, attributeBytes c c.record.evidence.regression 1), (78, attributeBytes c c.record.evidence.retiredMatch 1),
      (84, attributeBytes c c.record.evidence.overdraw c.config.tolerance),
      (90, attributeBytes c c.record.evidence.advanceRefused 3),
      (96, [packed [(0, c.record.evidence.regression.tripped.toNat), (1, c.record.evidence.retiredMatch.tripped.toNat),
        (2, c.record.evidence.overdraw.tripped.toNat), (3, c.record.evidence.advanceRefused.tripped.toNat)]]),
      (97, beBytes 4 c.failedAttempts)]

/-- The results in the order of their codes (R196). -/
def resultOrder : List ResultCode :=
  [.ok, .pending, .busy, .badArgument, .badState, .locked, .notPresent, .notHeld, .unknownRequest]

/-- The body of a reply. -/
def ReplyLayout (tag code : Byte) (result : ResultCode) (data : List Byte) (summary : Word16) (b : List Byte) : Prop :=
  b.length = 4 + data.length + 2 ∧
  HasFields b
    [(0, [tag]), (1, [code]), (2, [byteOf (codeIn resultOrder result)]), (3, [byteOf data.length]), (4, data),
      (4 + data.length, beBytes 2 summary.toNat)]

/-- The 109 bytes of the body of a swath report. -/
def ReportLayout (unterminated : Bool) (closing : Byte) (slots : Vector SlotReport 8) (summary : Word16) (b : List Byte) : Prop :=
  b.length = 109 ∧
  HasFields b
    [(0, [packed [(0, unterminated.toNat)]]), (1, [closing]),
      (2, [packed (allSlots.map fun n => (n.val, slots[n].remaining.isSome.toNat))]), (107, beBytes 2 summary.toNat)] ∧
  ∀ n : Slot, HasFields b
    [(3 + 13 * n.val, beBytes 4 slots[n].credited), (7 + 13 * n.val, beBytes 4 slots[n].orphaned),
      (11 + 13 * n.val, signedBytes slots[n].remaining)]

/-- The 18 bytes of a READ RETIRED entry. -/
def entryBytes (e : RetiredEntry) : List Byte :=
  beBytes 8 e.content.serial.toNat ++ [byteOf e.content.generation] ++ beBytes 4 e.content.finalCount ++
    [byteOf (codeIn [RetiredReason.emptied, .refill] e.content.reason)] ++ beBytes 4 e.content.sequence

/-- The 13 bytes of the status data. -/
def StatusLayout (status : Option StatusRecord) (d : List Byte) : Prop :=
  d.length = 13 ∧
  match status with
  | none => ∀ b ∈ d, b = 0
  | some r =>
    HasFields d
      [(0, [packed [(0, 1), (1, r.primary.isSome.toNat), (2, r.overwritten.toNat), (3, r.snapshot.uEst.isSome.toNat)]]),
        (1, [byteOf (kindCodeOf (r.primary.bind (·.kind)))]),
        (2, [byteOf ((r.primary.map fun p => codeIn
          [OpResult.verified, .unverified, .failed, .written, .short, .released, .link, .halted, .stale] p.result).getD 0)]),
        (3, [packed [(0, reasonCode (r.primary.bind (·.reason))), (7, ((r.primary.map (·.nothingActive)).getD false).toNat)]]),
        (4, [r.events]), (5, beBytes 2 r.alerts.toNat), (7, [byteOf (codeIn bindingStates r.snapshot.state)]),
        (8, [byteOf (codeIn conditionOrder r.snapshot.condition)]), (9, beBytes 4 (r.snapshot.uEst.getD 0))]

/-- The 62 bytes of the sample data. -/
def SamplesLayout (m : Monitor) (d : List Byte) : Prop :=
  d.length = 62 ∧
  HasFields d
    [(0, [byteOf (codeIn [SampleMode.off, .swathPaced, .requestPaced] m.mode)]), (1, [byteOf m.sequence.length]),
      (10, [byteOf m.position]),
      (11, [match m.conversion with
        | some cv => packed [(7, 1), (0, cv.input.val), (3, (decide (cv.origin = .direct)).toNat)]
        | none => 0]),
      (58, beBytes 4 m.skipped)] ∧
  (∀ i : Nat, i < 8 → HasFields d [(2 + i, [((m.sequence[i]?).map fun x => byteOf x.val).getD 0])]) ∧
  (∀ x : ThermalInput, HasFields d
    [(12 + 2 * x.val, beBytes 2 ((m.samples[x].map (·.val)).getD 0xFFFF)), (42 + 2 * x.val, beBytes 2 m.limits[x])]) ∧
  ∀ i : Fin 7, HasFields d [(28 + 2 * i.val, beBytes 2 m.thresholds[i])]

/-- The 64 bytes of the policy data. -/
def PolicyLayout (s : State) (d : List Byte) : Prop :=
  d.length = 64 ∧
  HasFields d
    [(12, beBytes 2 s.policy.allowance), (14, [packed [(0, s.policy.locked.toNat)]]), (15, [byteOf s.policy.holdCauses.length])] ∧
  (∀ i : Fin 12, HasFields d [(i.val, [byteOf (codeIn actionOrder s.policy.actions[i])])]) ∧
  (∀ i : Nat, i < 16 → HasFields d [(16 + 2 * i,
    match s.policy.holdCauses[i]? with
    | some h => [byteOf h.lane.val, byteOf (codeIn conditionOrder h.condition)]
    | none => [0, 0])]) ∧
  ∀ l : Lane, HasFields d
    [(48 + l.val, [packed [(0, codeIn conditionOrder (s.laneCondition l)), (4, codeIn actionOrder (s.laneAction l))]])]

/-! ### Conditions of a lane -/

/-- A binding is unproved (R156). -/
def Unproved (c : SlotContext) : Prop :=
  c.bindingState = .pendingId ∨ c.bindingState = .pendingAuth ∨ c.bindingState = .unverified ∨
    (c.bindingState = .linkLost ∧ c.record.verifiedOnce = false)

/-- The test of a condition's row in the table of R156, on its own. -/
def ConditionTest (s : State) (l : Lane) (k : LaneCondition) : Prop :=
  if k = .unmapped then (s.laneEntry l).slot = none
  else if k = .genuine then True
  else
    ∃ (n : Slot) (c : SlotContext), (s.laneEntry l).slot = some n ∧ c = s.slot n ∧
      match k with
      | .unmapped | .genuine => False
      | .overtemp => ∃ code : Code, s.monitor.samples[(s.laneEntry l).thermal] = some code ∧
          s.monitor.limits[(s.laneEntry l).thermal] ≤ code.val
      | .noCartridge => c.bindingState = .noCartridge ∨ c.bindingState = .released
      | .linkLost => c.bindingState = .linkLost ∧ c.record.verifiedOnce = true
      | .failed => c.bindingState = .failed
      | .unverifiedOver => Unproved c ∧ s.policy.allowance ≤ c.record.unverifiedUnits
      | .unverified => Unproved c
      | .refillConfirmed => c.record.evidence.regression.tripped = true ∨ c.record.evidence.retiredMatch.tripped = true
      | .refillSuspect => c.record.evidence.overdraw.tripped = true ∨ c.record.evidence.advanceRefused.tripped = true
      | .empty => emptyOf c.record = true
      | .low => ∃ (i : Identity) (u : Nat), c.record.identity = some i ∧ estimateOf c.record = some u ∧
          lowAt c.config i.capacity u = true

end Sys2Proof.Machine
end

