-- ==== Sys2Proof/Certificates/Slice0/Obligations.lean ====
section
/-! DEFINITION. The statements for the provers, one `def Obligations.<Name> : Prop` each; OBLIGATIONS.json lists them. -/

open Sys2Proof Sys2Proof.Machine

/-- O1 (95_what_each_step_holds.md, R3, R13). For every command c and state s, one step of s with c at the front of its queue of
waiting commands is exec of c on s with the rest of the queue. The queue is the model's own (log entry 28). -/
def Obligations.StepRunsTheFrontCommand : Prop :=
  ∀ (c : Instr) (rest : List Instr) (s : State),
    step { s with pending := c :: rest } = exec c { s with pending := rest }

/-- O2 (95_what_each_step_holds.md, R1, R4, R184). For every command and every state, exec answers a next state, and that state
has the same queue of waiting commands. No command of this part faults or is refused by the model; that a command whose
event the state does not offer leaves the state as it is is the model's choice (log entry 1). -/
def Obligations.EveryCommandCompletes : Prop :=
  ∀ (c : Instr) (s : State), ∃ t, exec c s = .next t ∧ t.pending = s.pending

/-- O3 (R21, R22, R37, R61, R75, R92, R95, R121, R154, R161, R172, R194). State.reset holds the power-on values that the
chapters give: an empty Swath Port with any expected number, the lane table and counters of R22 and R37, the Condition
Monitor of R75, every slot in NO_CARTRIDGE with its supply OFF, no operation and no status, the slot configuration of R92,
the policy table of R161, an unlocked policy with no hold cause, clear conditions and an empty fault mask, and RESTORING
under way. That RESET_N is released there is the model's choice (log entry 6), the queue of commands is the model's own (log
entry 28), and that the seats are EMPTY and the store was never programmed (log entry 5) is not claimed here. -/
def Obligations.ResetValues : Prop :=
  (State.reset.restoring = true ∧ State.reset.resetAsserted = false ∧ State.reset.pending = []) ∧
  (State.reset.port.buffer = [] ∧ State.reset.port.expected = none ∧ State.reset.port.stream = .idle ∧
    State.reset.port.outQueue = [] ∧ State.reset.port.headTransfer = none ∧ State.reset.port.returnTransmission = none ∧
    State.reset.rdy = false ∧ State.reset.crdy = false) ∧
  (∀ l : Lane, (State.reset.laneEntry l).slot = none ∧ (State.reset.laneEntry l).nozzles = 64 ∧
    (State.reset.laneEntry l).v1 = 0 ∧ (State.reset.laneEntry l).v2 = 0 ∧ (State.reset.laneEntry l).v3 = 0 ∧
    (State.reset.laneEntry l).thermal.val = l.val / 2 ∧ (State.reset.laneEntry l).defaultBand = 3 ∧
    (∀ b : Band, (State.reset.laneEntry l).k[b] = 1024) ∧
    State.reset.lanes.counters[l] =
      { forwarded := 0, blanked := 0, marked := 0, drops1 := 0, drops2 := 0, drops3 := 0, unattributed := 0 }) ∧
  (State.reset.monitor.mode = .off ∧ State.reset.monitor.sequence = [0] ∧ State.reset.monitor.position = 0 ∧
    State.reset.monitor.conversion = none ∧ State.reset.monitor.skipped = 0 ∧
    (∀ x : ThermalInput, State.reset.monitor.samples[x] = none ∧ State.reset.monitor.limits[x] = 4096) ∧
    ∀ i : Fin 7, State.reset.monitor.thresholds[i] = 512 * (i.val + 1)) ∧
  (∀ n : Slot, (State.reset.slot n).bindingState = .noCartridge ∧ (State.reset.slot n).supply = .off ∧
    (State.reset.slot n).debounce = none ∧ (State.reset.slot n).settleTimer = none ∧ (State.reset.slot n).idleTimer = none ∧
    (State.reset.slot n).failedAttempts = 0 ∧ (State.reset.slot n).current = none ∧ (State.reset.slot n).queue = [] ∧
    (State.reset.slot n).status = none ∧ (State.reset.slot n).orphanResidue = 0 ∧ (State.reset.slot n).orphanCount = 0 ∧
    (State.reset.slot n).swathCredited = 0 ∧ (State.reset.slot n).swathOrphaned = 0 ∧
    (State.reset.slot n).config =
      { inkType := 0, lowMark := 100, tolerance := 50, writeBack := 1000, verify := 10000, settle := 5, idle := 20,
        timeout := 25 }) ∧
  (State.reset.policy.action .unmapped = .pass ∧ State.reset.policy.action .overtemp = .hold ∧
    State.reset.policy.action .noCartridge = .hold ∧ State.reset.policy.action .linkLost = .pass ∧
    State.reset.policy.action .failed = .hold ∧ State.reset.policy.action .unverifiedOver = .hold ∧
    State.reset.policy.action .unverified = .pass ∧ State.reset.policy.action .refillConfirmed = .mark ∧
    State.reset.policy.action .refillSuspect = .mark ∧ State.reset.policy.action .empty = .mark ∧
    State.reset.policy.action .low = .pass ∧ State.reset.policy.action .genuine = .pass ∧
    State.reset.policy.allowance = 20 ∧ State.reset.policy.locked = false ∧ State.reset.policy.holdCauses = []) ∧
  (State.reset.agent.returnQueue = [] ∧ State.reset.conditionVector = 0 ∧ State.reset.agent.faultMask = 0 ∧
    State.reset.faultAsserted = false)

/-- O4 (R3, R22, R42, R91, R106, R122, R147, R161, R166, R175, R184, R192). The state after reset meets each of the invariants
that the statements below say every step keeps: the capacities of buffers and queues, the ranges of the settings, of the
metering, of the lane counters and of the store, the order of the retired list, the link between key state and key record,
the agreement of each slot with itself, that no binding rests on a proof without a key, the distinctness of serials and of
nonces, the agreement of hold causes with the stream state, and that RESUME_PENDING stands only while a lane waits.
State.reset itself is the part of log entry 5, a store never programmed and every seat EMPTY, and that the key state is
ABSENT in RESTORING is log entry 32; both are the model's choices. -/
def Obligations.ResetIsSound : Prop :=
  PortWf State.reset ∧ SettingsWf State.reset ∧ (∀ n : Slot, MeterWf (State.reset.slot n)) ∧
    (∀ l : Lane, LaneCountersWf State.reset.lanes.counters[l]) ∧ StoreWf State.reset.store ∧
    RetiredWf State.reset.refill ∧ KeyWf State.reset ∧ SlotsWf State.reset ∧ ProofWf State.reset ∧
    SerialsDistinct State.reset ∧ NoncesWf State.reset ∧ HoldWf State.reset ∧ WaitWf State.reset

/-- O5 (R21, R95, R172, R173, R178, R182, R183, R194). LOSS_OF_POWER on a powered part leaves it unpowered with every volatile
field at its power-on value (at the loss already: log entry 7); of the Record Store the record positions alone stay, and the
position whose program was in flight is INVALID. POWER_ON on an unpowered part starts RESTORING with every block at its
power-on value and the debounced seat states read from the seat inputs; the record positions are kept, but for the VALID
ones that the command names as no longer passing their check, which are INVALID (log entry 8). That RESET_N is released in
both next states is the model's choice (log entry 6), as is the head ready input's level (log entry 24). So are the key
state ABSENT and the empty working copies with next number 1 while RESTORING lasts and after the loss (log entry 32). The
count of nonces and the queue of commands are the model's own and are kept. -/
def Obligations.PowerLossAndReturn : Prop :=
  (∀ s : State, s.powered = true →
    exec .lossOfPower s = .next
      { State.reset with
          powered := false, restoring := false,
          slots := Vector.ofFn fun n => SlotContext.initial (s.slot n).rawSeat,
          store := { State.reset.store with
            keyForm := cutForm (programsAt .key s.store) s.store.keyForm,
            checkpointForms := Vector.ofFn fun k =>
              cutForm (programsAt (.checkpoint k) s.store) s.store.checkpointForms[k],
            retiredForms := Vector.ofFn fun p => cutForm (programsAt (.retired p) s.store) s.store.retiredForms[p] },
          nonceCount := s.nonceCount, pending := s.pending }) ∧
  ∀ (decayed : List RecordPos) (s : State), s.powered = false →
    exec (.powerOn decayed) s = .next
      { State.reset with
          slots := Vector.ofFn fun n => SlotContext.initial (s.slot n).rawSeat,
          store := { State.reset.store with
            keyForm := decayedForm (decide (RecordPos.key ∈ decayed)) s.store.keyForm,
            checkpointForms := Vector.ofFn fun k =>
              decayedForm (decide (RecordPos.checkpoint k ∈ decayed)) s.store.checkpointForms[k],
            retiredForms := Vector.ofFn fun p =>
              decayedForm (decide (RecordPos.retired p ∈ decayed)) s.store.retiredForms[p] },
          nonceCount := s.nonceCount, pending := s.pending }

/-- O6 (R96, R134, R154, R178, R180). From a RESTORING part whose slots are sound, END_OF_RESTORING ends RESTORING. The key
state becomes PRESENT with the stored key exactly when the key position is VALID and not all zero, else ABSENT; each
checkpoint record becomes the content of its position where that is VALID and in range, else empty; the invalid count
becomes the number of INVALID positions, one more for each VALID one that fails its check. With RESET_N released,
RESTORE_INVALID is raised when that count is above 0 and each slot whose seat is SEATED begins a binding with an AUTO BIND
that waits for its supply; other slots are unchanged. With RESET_N asserted, slots and conditions wait for its release.
Swath Port, lanes, Condition Monitor and policy are unchanged. -/
def Obligations.EndOfRestoring : Prop :=
  ∀ s : State, s.powered = true → s.restoring = true → SlotsWf s →
    ∃ t, exec .endOfRestoring s = .next t ∧ t.restoring = false ∧ t.resetAsserted = s.resetAsserted ∧
      t.port = s.port ∧ t.lanes = s.lanes ∧ t.monitor = s.monitor ∧ t.policy = s.policy ∧ t.nonceCount = s.nonceCount ∧
      (∀ k, t.key = .present k ↔ s.store.keyForm = .valid k ∧ k ≠ 0) ∧ t.key ≠ .provisioning ∧
      (∀ n : Slot, t.refill.checkpoints[n] = checkpointAt s.store.checkpointForms[n]) ∧
      t.store = { s.store with
        invalidCount := (if countsInvalid keyPasses s.store.keyForm then 1 else 0) +
          s.store.checkpointForms.toList.countP (countsInvalid checkpointPasses) +
          s.store.retiredForms.toList.countP (countsInvalid retiredPasses) } ∧
      (s.resetAsserted = true → t.slots = s.slots ∧ t.agent = s.agent ∧ t.restoreEndedInReset = true) ∧
      (s.resetAsserted = false →
        t.agent = { s.agent with
          sticky := s.agent.sticky ||| (if 0 < t.store.invalidCount then Condition.mask .restoreInvalid else 0) } ∧
        ∀ n : Slot, t.slot n =
          if (s.slot n).seat = .seated then
            waitsFor .bind .auto { s.slot n with bindingState := .pendingId, record := .starting }
          else s.slot n)

/-- O7 (R179). At END_OF_RESTORING the retired list holds entries of stored positions only, no serial twice, oldest first by
sequence number and equal numbers by position, lowest first. Every readable stored entry is listed, or an entry of the same
serial is listed whose sequence number is greater, or equal at a lower position. The next sequence number is the greatest
listed plus 1, held at 2^32 - 1, or 1 for an empty list. The stored content of every position, and with it that of the
entries not restored, stays, and the invalid count counts only positions that are INVALID or fail their check. -/
def Obligations.RestoredRetiredList : Prop :=
  ∀ s : State, s.powered = true → s.restoring = true →
    ∃ t, exec .endOfRestoring s = .next t ∧
      (t.refill.retired.map fun e => e.content.serial).Nodup ∧
      (t.refill.retired.Pairwise fun a b => a.content.sequence < b.content.sequence ∨
        (a.content.sequence = b.content.sequence ∧ a.position < b.position)) ∧
      (∀ e ∈ t.refill.retired, retiredAt s.store.retiredForms[e.position] = some e.content) ∧
      (∀ (p : RetiredPosition) (c : RetiredContent), retiredAt s.store.retiredForms[p] = some c →
        { content := c, position := p } ∈ t.refill.retired ∨
        ∃ e ∈ t.refill.retired, e.content.serial = c.serial ∧
          (c.sequence < e.content.sequence ∨ (c.sequence = e.content.sequence ∧ e.position < p))) ∧
      (t.refill.retired = [] → t.refill.nextSeq = 1) ∧
      (∀ e ∈ t.refill.retired, (∀ f ∈ t.refill.retired, f.content.sequence ≤ e.content.sequence) →
        t.refill.nextSeq = min (e.content.sequence + 1) 4294967295) ∧
      t.store.retiredForms = s.store.retiredForms ∧
      t.store.invalidCount = (if countsInvalid keyPasses s.store.keyForm then 1 else 0) +
        s.store.checkpointForms.toList.countP (countsInvalid checkpointPasses) +
        s.store.retiredForms.toList.countP (countsInvalid retiredPasses)

/-- O8 (R21, R37, R61, R75, R97, R115, R121, R134, R154, R172, R181, R194). On a working part PIN_RESET_ASSERTED empties the
Swath Port, sets lane table, lane counters, Condition Monitor and policy to their reset values, empties the reply and report
queues, clears the conditions and the fault mask, and at each slot keeps the seat, the binding state and the binding record
alone: supply OFF, timers stopped, attempt, operation, queue and status gone, failed-attempt count 0, configuration at its
reset values, orphan accumulator and swath sums 0. No nonce survives it (R130): the model's list of spent ones is emptied
(log entry 4). Key state, working copies and Record Store are kept. The head ready input, a pin, keeps its level, as the
model holds it (log entry 24). -/
def Obligations.PinResetAsserted : Prop :=
  ∀ s : State, s.powered = true → s.resetAsserted = false →
    ∃ t, exec .pinResetAsserted s = .next t ∧
      t = { s with
        resetAsserted := true, port := t.port, lanes := State.reset.lanes, monitor := State.reset.monitor,
        slots := t.slots, policy := State.reset.policy, agent := t.agent, spentNonces := [] } ∧
      t.port =
        { buffer := [], expected := none, stream := .idle, outQueue := [], headReady := s.port.headReady,
          headTransfer := none, returnTransmission := none } ∧
      t.agent = { returnQueue := [], sticky := 0, faultMask := 0 } ∧ t.faultAsserted = false ∧ t.rdy = false ∧
      t.crdy = false ∧
      ∀ n : Slot, t.slot n =
        { rawSeat := (s.slot n).rawSeat, seat := (s.slot n).seat, debounce := none, supply := .off, settleTimer := none,
          idleTimer := none, attempt := none, failedAttempts := 0, bindingState := (s.slot n).bindingState,
          record := (s.slot n).record,
          config :=
            { inkType := 0, lowMark := 100, tolerance := 50, writeBack := 1000, verify := 10000, settle := 5, idle := 20,
              timeout := 25 },
          queue := [], current := none, status := none, orphanResidue := 0, orphanCount := 0, swathCredited := 0,
          swathOrphaned := 0}

/-- O9 (R96, R97, R115, R122, R124, R126, R142, R146, R177, R180, R181, R194). In a state whose key, slots and proofs are sound,
PIN_RESET_RELEASED reads each seat without a debounce. In RESTORING nothing more happens to the slots. Else: at an EMPTY
seat the binding ends as a removal with alert REMOVED and leaves its checkpoint and retired entry, from slot 0 up (log entry
13); at a SEATED one NO_CARTRIDGE begins a binding with an AUTO BIND, PENDING_ID stays and unidentified LINK_LOST becomes
PENDING_ID, each with an AUTO BIND, PENDING_AUTH, VERIFIED and identified LINK_LOST become PENDING_AUTH with
unverified_units 0 and an AUTO VERIFY, FAILED and RELEASED stay. A key commit that came during the assertion makes the key
PRESENT now, and each seated UNVERIFIED binding is then asked for an AUTO VERIFY; without one it stays and so does the key.
A held STORE_WRITE_FAIL is raised, and RESTORE_INVALID where RESTORING ended in the assertion with an invalid count above 0;
KEY_ABSENT follows the key. Swath Port, lanes, Condition Monitor, policy and nonces are unchanged. -/
def Obligations.PinResetReleased : Prop :=
  ∀ s u : State, s.powered = true → s.resetAsserted = true → KeyWf s → SlotsWf s → ProofWf s →
    u = overSlots (fun n v =>
      if (s.slot n).rawSeat = .empty ∧ s.restoring = false then v.bindingEnds n (s.slot n) else v)
        { s with resetAsserted := false } →
    ∃ t, exec .pinResetReleased s = .next t ∧
      t = { s with
        resetAsserted := false, restoreEndedInReset := false, keyCommitHeld := false, slots := t.slots, key := t.key,
        refill := u.refill, store := { u.store with heldFailure := false },
        agent := { u.agent with
          sticky := u.agent.sticky ||| (if s.store.heldFailure then Condition.mask .storeWriteFail else 0) |||
            (if s.restoreEndedInReset = true ∧ 0 < s.store.invalidCount then Condition.mask .restoreInvalid else 0) } } ∧
      (s.keyCommitHeld = false → t.key = s.key) ∧
      (∀ root, s.keyCommitHeld = true → s.store.keyForm = .valid root → t.key = .present root) ∧
      (t.holds .keyAbsent = true ↔ s.agent.sticky.getLsbD 11 = true ∨ (s.restoring = false ∧ t.keyPresent = false)) ∧
      (s.restoring = true → ∀ n : Slot, t.slot n = { s.slot n with seat := (s.slot n).rawSeat, debounce := none }) ∧
      (s.restoring = false → ∀ (n : Slot) (c : SlotContext), c = { s.slot n with seat := (s.slot n).rawSeat, debounce := none } →
        (c.seat = .empty → c.bindingState = .noCartridge → t.slot n = c) ∧
        (c.seat = .empty → c.bindingState ≠ .noCartridge →
          t.slot n = mergeStatus s.policy.allowance none 0 0x0001
            { c with bindingState := .noCartridge, record := .starting }) ∧
        (c.seat = .seated →
          (c.bindingState = .noCartridge ∨ c.bindingState = .pendingId ∨
            (c.bindingState = .linkLost ∧ c.record.identity = none)) →
          t.slot n = waitsFor .bind .auto { c with bindingState := .pendingId }) ∧
        (c.seat = .seated →
          (c.bindingState = .pendingAuth ∨ c.bindingState = .verified ∨
            (c.bindingState = .linkLost ∧ c.record.identity ≠ none)) →
          t.slot n = waitsFor .verify .auto
            { c with
                bindingState := .pendingAuth, record := { c.record with unverifiedUnits := 0, sinceVerify := 0 } }) ∧
        (c.seat = .seated → c.bindingState = .unverified →
          t.slot n =
            if s.keyCommitHeld then waitsFor .verify .auto { c with record := { c.record with sinceVerify := 0 } } else c) ∧
        (c.seat = .seated → c.bindingState = .failed ∨ c.bindingState = .released → t.slot n = c))

/-- O10 (R1, R2, R178). On a running part, while no other frame arrives, a frame that begins to arrive is admitted to the end of
the input buffer when a place is free and it is control-class (kind code 0A5h or 0C3h) or the stream is IDLE or OPEN;
otherwise it is not admitted, INPUT_OVERRUN is raised and nothing else changes, the expected sequence number included. While
RESET_N is asserted, during RESTORING or without power it is lost with no effect at all. When the last byte of an admitted
frame has arrived, the frame is ready for taking. The levels CRDY and RDY that this asks of are those of R2. That a frame is
lost without power, when the part is no part at all, is the model's choice (log entry 1). -/
def Obligations.FrameAdmission : Prop :=
  (∀ (kind : Byte) (s : State), s.running = true → isArriving s.port.buffer = false →
    exec (.frameArrivalBegins kind) s = .next
      (if s.port.buffer.length < 4 ∧ (kind = 0xA5 ∨ kind = 0xC3 ∨ s.port.stream = .idle ∨ s.port.stream = .opened) then
        { s with port := { s.port with buffer := s.port.buffer ++ [{ bytes := [kind], phase := .arriving }] } }
      else { s with agent := { s.agent with sticky := s.agent.sticky ||| Condition.mask .inputOverrun } })) ∧
  (∀ (kind : Byte) (s : State), s.resetAsserted = true ∨ s.restoring = true ∨ s.powered = false →
    exec (.frameArrivalBegins kind) s = .next s) ∧
  ∀ (rest first : List Byte) (before : List BufferedFrame) (s : State), s.running = true →
    s.port.buffer = before ++ [{ bytes := first, phase := .arriving }] → (∀ f ∈ before, f.phase ≠ .arriving) →
    exec (.frameArrivalEnds rest) s = .next
      { s with port := { s.port with buffer := before ++ [{ bytes := first ++ rest, phase := .ready }] } }

/-- O11 (R4, R5, R6). The frame taken next is discarded by the command of its kind at the first check it fails: a frame of under
8 bytes, of an unknown kind or of a wrong guard bit with FRAME_GUARD; one whose payload length differs from the bytes
received or does not suit its kind, count, drop size or the nozzle count of its lane as the table stands then, with
FRAME_LENGTH; one whose CRC-16 differs from the one it carries with FRAME_CRC. A frame of another kind than the six is
discarded with FRAME_GUARD by the command for an unknown kind. Its place becomes free, and nothing else changes. -/
def Obligations.FailedChecksDiscardTheFrame : Prop :=
  ∀ (bs : List Byte) (s : State), TakenNext bs s →
    (GuardFails bs → exec (frameCommand bs) s = .next (s.discarded .frameGuard)) ∧
    (¬GuardFails bs → LengthFails s bs → exec (frameCommand bs) s = .next (s.discarded .frameLength)) ∧
    (¬GuardFails bs → ¬LengthFails s bs → CrcFails bs → exec (frameCommand bs) s = .next (s.discarded .frameCrc)) ∧
    ((∀ kind ∈ [0x21, 0x22, 0x31, 0x32, 0xA5, 0xC3], byteAt bs 0 ≠ kind) →
      exec .unknownKindFrame s = .next (s.discarded .frameGuard))

/-- O12 (R31). A good FIRE frame taken in OPEN on a lane whose action is BLANK is forwarded with the same header and as many
payload bytes of 00h, and a fresh CRC-16; it adds 1 to the lane's frames forwarded and frames blanked, each held at 2^48 -
1. But for the sequence tracking of every good frame, nothing else changes: no drop count, no unattributed drop, no slot. -/
def Obligations.FireBlanked : Prop :=
  ∀ (shape seq count : Byte) (payload : List Byte) (s : State), PrintNext 0x21 shape seq count payload s →
    s.port.stream = .opened → s.laneAction (laneOfShape shape) = .blank → 1 ≤ count.toNat → count.toNat ≤ 64 →
    payload.length = count.toNat * (s.laneEntry (laneOfShape shape)).nozzles / 4 →
    exec .fire s = .next
      { s.forwardedAs (linkFrame 0x21 shape seq count (List.replicate payload.length 0)) seq with
          lanes := { s.lanes with
            counters := s.lanes.counters.set (laneOfShape shape)
              { s.lanes.counters[laneOfShape shape] with
                  forwarded := min (s.lanes.counters[laneOfShape shape].forwarded + 1) 281474976710655,
                  blanked := min (s.lanes.counters[laneOfShape shape].blanked + 1) 281474976710655 } } }

/-- O13 (R7, R10, R11, R29, R30, R33, R34). A good FIRE frame taken in OPEN on a lane whose action is PASS, MARK or HOLD is
forwarded unchanged after its levels equal to 1, 2 and 3 have been counted: the lane's counters grow by 1 frame, by 1 marked
frame for MARK or HOLD, and by the three counts, each held at 2^48 - 1, and one drop report with the counts, the lane's
entry and the marked indication goes to the Metering Unit. One taken in IDLE is discarded with OUT_OF_SWATH and is neither
counted nor credited. Its sequence number is tracked in both cases. -/
def Obligations.FireCounted : Prop :=
  ∀ (shape seq count : Byte) (payload : List Byte) (s : State), PrintNext 0x21 shape seq count payload s →
    1 ≤ count.toNat → count.toNat ≤ 64 →
    payload.length = count.toNat * (s.laneEntry (laneOfShape shape)).nozzles / 4 →
    (s.port.stream = .idle →
      exec .fire s = .next
        { s.consumed seq with
            agent := { (s.consumed seq).agent with
              sticky := (s.consumed seq).agent.sticky ||| Condition.mask .outOfSwath } }) ∧
    (s.port.stream = .opened → s.laneAction (laneOfShape shape) ≠ .blank →
      exec .fire s = .next (pushOut (linkFrame 0x21 shape seq count payload)
        (handleReport
          { lane := laneOfShape shape, slot := (s.laneEntry (laneOfShape shape)).slot,
            n1 := (levelsOf payload).count 1, n2 := (levelsOf payload).count 2, n3 := (levelsOf payload).count 3,
            v1 := (s.laneEntry (laneOfShape shape)).v1, v2 := (s.laneEntry (laneOfShape shape)).v2,
            v3 := (s.laneEntry (laneOfShape shape)).v3, thermal := (s.laneEntry (laneOfShape shape)).thermal,
            defaultBand := (s.laneEntry (laneOfShape shape)).defaultBand, k := (s.laneEntry (laneOfShape shape)).k,
            marked := decide (s.laneAction (laneOfShape shape) = .mark ∨ s.laneAction (laneOfShape shape) = .hold) }
          { s.consumed seq with
              lanes := { s.lanes with
                counters := s.lanes.counters.set (laneOfShape shape)
                  { s.lanes.counters[laneOfShape shape] with
                      forwarded := min (s.lanes.counters[laneOfShape shape].forwarded + 1) 281474976710655,
                      marked :=
                        if s.laneAction (laneOfShape shape) = .pass then s.lanes.counters[laneOfShape shape].marked
                        else min (s.lanes.counters[laneOfShape shape].marked + 1) 281474976710655,
                      drops1 := min (s.lanes.counters[laneOfShape shape].drops1 + (levelsOf payload).count 1)
                        281474976710655,
                      drops2 := min (s.lanes.counters[laneOfShape shape].drops2 + (levelsOf payload).count 2)
                        281474976710655,
                      drops3 := min (s.lanes.counters[laneOfShape shape].drops3 + (levelsOf payload).count 3)
                        281474976710655 } } })))

/-- O14 (R7, R12, R32, R33, R34). A good SPIT frame of size 1, 2 or 3 and count m, taken in IDLE or OPEN, is forwarded unchanged
after m times the lane's nozzles drops of its size, and none of the others, have been added to the lane's counters with 1
frame forwarded, and one drop report, not marked, has gone to the Metering Unit. The lane's action is not asked for. Frames
blanked and marked do not change, and the stream state does not change. -/
def Obligations.Spit : Prop :=
  ∀ (shape seq count : Byte) (s : State), PrintNext 0x22 shape seq count [] s →
    s.port.stream = .idle ∨ s.port.stream = .opened → 1 ≤ shape.toNat / 16 % 8 → shape.toNat / 16 % 8 ≤ 3 →
    1 ≤ count.toNat →
    ∀ n : Nat → Nat,
      (∀ size, n size = if shape.toNat / 16 % 8 = size then count.toNat * (s.laneEntry (laneOfShape shape)).nozzles else 0) →
      exec .spit s = .next (pushOut (linkFrame 0x22 shape seq count [])
        (handleReport
          { lane := laneOfShape shape, slot := (s.laneEntry (laneOfShape shape)).slot, n1 := n 1, n2 := n 2, n3 := n 3,
            v1 := (s.laneEntry (laneOfShape shape)).v1, v2 := (s.laneEntry (laneOfShape shape)).v2,
            v3 := (s.laneEntry (laneOfShape shape)).v3, thermal := (s.laneEntry (laneOfShape shape)).thermal,
            defaultBand := (s.laneEntry (laneOfShape shape)).defaultBand, k := (s.laneEntry (laneOfShape shape)).k,
            marked := false }
          { s.consumed seq with
              lanes := { s.lanes with
                counters := s.lanes.counters.set (laneOfShape shape)
                  { s.lanes.counters[laneOfShape shape] with
                      forwarded := min (s.lanes.counters[laneOfShape shape].forwarded + 1) 281474976710655,
                      drops1 := min (s.lanes.counters[laneOfShape shape].drops1 + n 1) 281474976710655,
                      drops2 := min (s.lanes.counters[laneOfShape shape].drops2 + n 2) 281474976710655,
                      drops3 := min (s.lanes.counters[laneOfShape shape].drops3 + n 3) 281474976710655 } } }))

/-- O15 (R7, R8, R58, R66, R68, R165). A good SWATH_START taken in IDLE while no mapped lane has the action HOLD is forwarded
and opens the swath: the stream becomes OPEN, every swath sum becomes 0, the Condition Monitor takes one trigger in
SWATH_PACED (a conversion of the entry at the position, or a skip counted when the converter is busy) and none in the other
modes. Nothing else changes but the sequence tracking. That the hold-cause list is empty in OPEN follows R166. -/
def Obligations.SwathStartOpens : Prop :=
  ∀ (shape seq count : Byte) (s : State), PrintNext 0x31 shape seq count [] s → s.port.stream = .idle → NoLaneHolds s →
    exec .swathStart s = .next (State.opening (s.forwardedAs (linkFrame 0x31 shape seq count []) seq))

/-- O16 (R7, R8, R14, R165, R166, R167). A good SWATH_START taken in IDLE while some mapped lane has the action HOLD keeps its
place at the head of the buffer, checked; every print-class frame behind it is discarded, with INPUT_OVERRUN when there is
one, and the control-class frames keep their order; the stream becomes HELD with STREAM_HELD set, and the hold-cause list
becomes those lanes in lane order with their conditions. The expected sequence number moves for the SWATH_START alone, and
nothing is forwarded. -/
def Obligations.SwathStartHeld : Prop :=
  ∀ (shape seq count : Byte) (s : State), PrintNext 0x31 shape seq count [] s → s.port.stream = .idle → ¬NoLaneHolds s →
    ∃ t, exec .swathStart s = .next t ∧ t.holds .streamHeld = true ∧ t.rdy = false ∧
      t = { s with
        port := { s.port with
          stream := .held, expected := some (seq + 1),
          buffer := { bytes := linkFrame 0x31 shape seq count [], phase := .checked } :: s.port.buffer.tail.filter isControl },
        policy := { s.policy with holdCauses := s.holdCausesNow },
        agent := { s.agent with
          sticky := s.agent.sticky ||| gapBits s.port.expected seq |||
            (if s.port.buffer.tail.any (fun f => !isControl f) then Condition.mask .inputOverrun else 0) } }

/-- O17 (R7, R8, R9, R10, R14, R59, R165, R166, R187). A good SWATH_END taken in OPEN is forwarded, the stream becomes IDLE, and
one swath report joins the report queue: not unterminated, with the frame's sequence number and for each slot swath
credited, swath orphaned and R where there is one. When two reports wait, the older is removed and REPORT_OVERRUN raised. A
SWATH_END taken in IDLE is discarded with OUT_OF_SWATH and makes no report. A good SWATH_START taken in OPEN queues the
report with the unterminated flag set, and, when no mapped lane holds, is forwarded and opens the next swath; when one
holds, the frame keeps its place and the stream becomes HELD as from IDLE, the print-class frames behind it being discarded.
That the report's summary word still shows OPEN is the model's reading (log entry 14). -/
def Obligations.SwathClosed : Prop :=
  ∀ (shape seq count : Byte) (s : State),
    (PrintNext 0x32 shape seq count [] s → s.port.stream = .opened →
      exec .swathEnd s = .next
        { (s.forwardedAs (linkFrame 0x32 shape seq count []) seq).withReport ((s.consumed seq).reportNow false seq) with
            port := { (s.forwardedAs (linkFrame 0x32 shape seq count []) seq).port with stream := .idle } }) ∧
    (PrintNext 0x32 shape seq count [] s → s.port.stream = .idle →
      exec .swathEnd s = .next
        { s.consumed seq with
            agent := { (s.consumed seq).agent with
              sticky := (s.consumed seq).agent.sticky ||| Condition.mask .outOfSwath } }) ∧
    (PrintNext 0x31 shape seq count [] s → s.port.stream = .opened → NoLaneHolds s →
      exec .swathStart s = .next (State.opening
        ((s.forwardedAs (linkFrame 0x31 shape seq count []) seq).withReport ((s.consumed seq).reportNow true seq)))) ∧
    (PrintNext 0x31 shape seq count [] s → s.port.stream = .opened → ¬NoLaneHolds s →
      ∃ t u, exec .swathStart s = .next t ∧ u = (s.consumed seq).withReport ((s.consumed seq).reportNow true seq) ∧
        t.rdy = false ∧
        t = { s with
          port := { s.port with
            stream := .held, expected := some (seq + 1),
            buffer :=
              { bytes := linkFrame 0x31 shape seq count [], phase := .checked } :: s.port.buffer.tail.filter isControl },
          policy := { s.policy with holdCauses := s.holdCausesNow },
          agent := { u.agent with
            sticky := u.agent.sticky |||
              (if s.port.buffer.tail.any (fun f => !isControl f) then Condition.mask .inputOverrun else 0) } })

/-- O18 (R7, R17, R61, R166, R172, R194). A good STREAM_RESET, in any stream state and whatever its number, removes the held
SWATH_START from the buffer and keeps the frames behind it, empties the output queue and leaves the STREAM_RESET frame alone
in it, empties the reply and report queues, makes the stream IDLE and the expected sequence number any, zeroes the swath
sums and empties the hold-cause list. Transfers in progress, conditions, lanes, the Condition Monitor and everything else of
every slot stay. -/
def Obligations.StreamReset : Prop :=
  ∀ (shape seq count : Byte) (s : State), TakenNext (linkFrame 0xC3 shape seq count []) s → shape.msb = false →
    exec .streamReset s = .next
      { s with
          port := { s.port with
            buffer := (withoutEligible s.port).filter fun f => decide (f.phase ≠ .checked),
            outQueue := [linkFrame 0xC3 shape seq count []], stream := .idle, expected := none },
          agent := { s.agent with returnQueue := [] }, policy := { s.policy with holdCauses := [] },
          slots := Vector.ofFn fun n => { s.slot n with swathCredited := 0, swathOrphaned := 0 } }

/-- O19 (R6, R16, R18, R20, R184, R187, R196). After a resumption the consumed SWATH_START at the head of the buffer leaves for
the output queue once a place is free. A transfer to the head driver begins, with the oldest frame of the output queue, when
the queue holds one, none is in progress and the head ready input is asserted; else the queue keeps its frames. A
return-lane transmission begins when a frame waits and none is in progress: the frame queued earliest, reply or report,
leaves its queue and is sent as its kind byte 0E1h or 0E2h, the length of its body, the body and a CRC-16 over all of it. A
transfer or transmission that completes leaves its link free. The body of a reply holds tag, request code, result, data
length, data and summary word, and that of a swath report the unterminated flag, the closing number, the presence bits,
swath credited, swath orphaned and R of slots 0 to 7, and the summary word, each at its place in section 11.6. That
HEAD_TRANSFER_BEGINS carries the head ready level and stores it is the model's choice (log entry 24), as is that a begin on
a busy or empty link does nothing else (log entry 1). -/
def Obligations.Links : Prop :=
  (∀ (f : BufferedFrame) (rest : List BufferedFrame) (s : State), s.running = true → s.port.stream = .opened →
    s.port.buffer = f :: rest → f.phase = .checked → s.port.outQueue.length < 4 →
    exec .heldSwathStartForwarded s = .next
      { s with port := { s.port with buffer := rest, outQueue := s.port.outQueue ++ [f.bytes] } }) ∧
  (∀ (f : List Byte) (rest : List (List Byte)) (s : State), s.alive = true → s.port.headTransfer = none →
    s.port.outQueue = f :: rest →
    exec (.headTransferBegins true) s = .next
      { s with port := { s.port with headReady := true, headTransfer := some f, outQueue := rest } }) ∧
  (∀ (ready : Bool) (s : State), ready = false ∨ s.port.headTransfer ≠ none ∨ s.port.outQueue = [] →
    exec (.headTransferBegins ready) s = .next { s with port := { s.port with headReady := ready } }) ∧
  (∀ (f : ReturnFrame) (rest : List ReturnFrame) (s : State), s.alive = true → s.port.returnTransmission = none →
    s.agent.returnQueue = f :: rest →
    ∃ head : List Byte,
      head = [if f.isReport then (0xE2 : Byte) else 0xE1] ++ beBytes 2 f.body.length ++ f.body ∧
      exec .returnTransmissionBegins s = .next
        { s with
            port := { s.port with returnTransmission := some (head ++ beBytes 2 (crc16 head).toNat) },
            agent := { s.agent with returnQueue := rest } }) ∧
  (∀ s : State, s.port.returnTransmission ≠ none → exec .returnTransmissionBegins s = .next s) ∧
  (∀ s : State, s.alive = true →
    exec .headTransferCompletes s = .next { s with port := { s.port with headTransfer := none } } ∧
    exec .returnTransmissionCompletes s = .next { s with port := { s.port with returnTransmission := none } }) ∧
  (∀ (tag code : Byte) (result : ResultCode) (data : List Byte) (summary : Word16),
    ReplyLayout tag code result data summary (ReturnFrame.reply tag code result data summary).body) ∧
  ∀ (unterminated : Bool) (closing : Byte) (slots : Vector SlotReport 8) (summary : Word16),
    ReportLayout unterminated closing slots summary (ReturnFrame.report unterminated closing slots.toList summary).body

/-- O20 (R35, R41, R55, R58). A drop report without a slot adds its drops to its lane's unattributed counter, held at 2^48 - 1,
and does nothing else. One for a slot in NO_CARTRIDGE or RELEASED is credited to the slot's orphan accumulator: the residue
keeps what makes no whole IU, the orphan count and, while a swath is OPEN, swath orphaned take the whole IU, each held at
2^32 - 1; nothing else changes. One for a slot in any other binding state touches neither orphan accumulator nor lane
counters, and no other slot. -/
def Obligations.DropReportDestinations : Prop :=
  (∀ (r : DropReport) (s : State), r.slot = none →
    handleReport r s =
      { s with
          lanes := { s.lanes with
            counters := s.lanes.counters.set r.lane
              { s.lanes.counters[r.lane] with
                  unattributed := min (s.lanes.counters[r.lane].unattributed + (r.n1 + r.n2 + r.n3)) 281474976710655 } } }) ∧
  (∀ (r : DropReport) (n : Slot) (s : State), r.slot = some n → ¬Charged (s.slot n) →
    handleReport r s =
      s.setSlot n
        { s.slot n with
            orphanResidue := ((s.slot n).orphanResidue + frameVolume s.monitor r) % 10240000000,
            orphanCount :=
              min ((s.slot n).orphanCount + ((s.slot n).orphanResidue + frameVolume s.monitor r) / 10240000000) 4294967295,
            swathOrphaned :=
              if s.port.stream = .opened then
                min ((s.slot n).swathOrphaned + ((s.slot n).orphanResidue + frameVolume s.monitor r) / 10240000000) 4294967295
              else (s.slot n).swathOrphaned }) ∧
  ∀ (r : DropReport) (n : Slot) (s : State), r.slot = some n → Charged (s.slot n) →
    (handleReport r s).lanes = s.lanes ∧ (handleReport r s).monitor = s.monitor ∧ (handleReport r s).port = s.port ∧
    (handleReport r s).policy = s.policy ∧ (∀ m : Slot, m ≠ n → (handleReport r s).slot m = s.slot m) ∧
    ((handleReport r s).slot n).orphanResidue = (s.slot n).orphanResidue ∧
    ((handleReport r s).slot n).orphanCount = (s.slot n).orphanCount ∧
    ((handleReport r s).slot n).swathOrphaned = (s.slot n).swathOrphaned

/-- O21 (R42, R43, R45, R46, R47, R58, R103). A drop report for a slot with a charged binding, in a state with sound slots,
credits its volume F: with q the whole IU in residue plus F, the residue keeps the rest, metered grows by q,
unverified_units by q while the binding is PENDING_ID, PENDING_AUTH, UNVERIFIED or LINK_LOST and never verified,
flagged_units by q for a marked report, swath credited by q while a swath is OPEN, each held at 2^32 - 1 on its own.
Identity, U_bind and last_written do not change. Units since verify grow by q, and are 0 instead only where they had reached
a verify interval that is not 0, as when an AUTO VERIFY becomes current. -/
def Obligations.CreditArithmetic : Prop :=
  ∀ (r : DropReport) (n : Slot) (F q : Nat) (c c' : SlotContext) (s : State), SlotsWf s → r.slot = some n → c = s.slot n →
    Charged c → F = frameVolume s.monitor r → q = (c.record.residue + F) / 10240000000 → c' = (handleReport r s).slot n →
    c'.record.residue = (c.record.residue + F) % 10240000000 ∧
    c'.record.metered = min (c.record.metered + q) 4294967295 ∧
    c'.record.unverifiedUnits =
      (if c.bindingState = .pendingId ∨ c.bindingState = .pendingAuth ∨ c.bindingState = .unverified ∨
          (c.bindingState = .linkLost ∧ c.record.verifiedOnce = false) then
        min (c.record.unverifiedUnits + q) 4294967295
      else c.record.unverifiedUnits) ∧
    c'.record.flaggedUnits =
      (if r.marked then min (c.record.flaggedUnits + q) 4294967295 else c.record.flaggedUnits) ∧
    c'.swathCredited =
      (if s.port.stream = .opened then min (c.swathCredited + q) 4294967295 else c.swathCredited) ∧
    c'.record.identity = c.record.identity ∧ c'.record.uBind = c.record.uBind ∧
    c'.record.lastWritten = c.record.lastWritten ∧
    (c'.record.sinceVerify = min (c.record.sinceVerify + q) 4294967295 ∨
      (c'.record.sinceVerify = 0 ∧ c.config.verify ≠ 0 ∧ c.config.verify ≤ min (c.record.sinceVerify + q) 4294967295))

/-- O22 (R48, R49, R51, R54, R135, R136, R137). After a credit to a binding with capacity C and estimate U after it, in a state
with sound slots: the credit sets each clear mark flag whose condition holds (LOW: R x 1000 at most the low mark times C
with R above 0; EMPTY: R at or below 0; OVERDRAW: overdraw at or above the tolerance). A crossing event is placed for each
flag it sets when it carries a whole IU, and none when q = 0; that the flag set at q = 0 then stays without an event is the
model's reading (DEDUCED, log entry 18). OVERDRAW takes the overdraw as raw, worst keeps the greatest, it trips at the
tolerance, and REFILL_SUSPECT is placed at the first trip alone. The other evidence does not change. -/
def Obligations.CreditMarksAndEvidence : Prop :=
  ∀ (r : DropReport) (n : Slot) (q U : Nat) (i : Identity) (u : Nat) (c c' : SlotContext) (s : State), SlotsWf s →
    r.slot = some n → c = s.slot n → Charged c → c.record.identity = some i → c.record.uBind = some u →
    q = (c.record.residue + frameVolume s.monitor r) / 10240000000 →
    U = min (u + min (c.record.metered + q) 4294967295) 4294967295 → c' = (handleReport r s).slot n →
    (c'.record.lowMark = true ↔ c.record.lowMark = true ∨
      (((i.capacity : Int) - U) * 1000 ≤ c.config.lowMark * i.capacity ∧ U < i.capacity)) ∧
    (c'.record.emptyMark = true ↔ c.record.emptyMark = true ∨ i.capacity ≤ U) ∧
    (c'.record.overdrawMark = true ↔ c.record.overdrawMark = true ∨ c.config.tolerance ≤ overdrawOf i.capacity U) ∧
    ((eventsOf c').getLsbD 2 =
      ((eventsOf c).getLsbD 2 || (decide (q ≠ 0) && c'.record.lowMark && !c.record.lowMark))) ∧
    ((eventsOf c').getLsbD 3 =
      ((eventsOf c).getLsbD 3 || (decide (q ≠ 0) && c'.record.emptyMark && !c.record.emptyMark))) ∧
    ((eventsOf c').getLsbD 4 =
      ((eventsOf c).getLsbD 4 || (decide (q ≠ 0) && c'.record.overdrawMark && !c.record.overdrawMark))) ∧
    c'.record.evidence.overdraw.raw = overdrawOf i.capacity U ∧
    c'.record.evidence.overdraw.worst = max c.record.evidence.overdraw.worst (overdrawOf i.capacity U) ∧
    (c'.record.evidence.overdraw.tripped = true ↔
      c.record.evidence.overdraw.tripped = true ∨ c.config.tolerance ≤ overdrawOf i.capacity U) ∧
    ((alertsOf c').getLsbD 6 =
      ((alertsOf c).getLsbD 6 || (c'.record.evidence.overdraw.tripped && !c.record.evidence.overdraw.tripped))) ∧
    c'.record.evidence.regression = c.record.evidence.regression ∧
    c'.record.evidence.retiredMatch = c.record.evidence.retiredMatch ∧
    c'.record.evidence.advanceRefused = c.record.evidence.advanceRefused

/-- O23 (R47, R52, R53, R54, R80, R81, R99, R100, R101, R103, R130). A credit to a VERIFIED binding at a slot with no operation
and its supply OFF, with a key present and sound slots: when U_est is then ahead of last_written by the write-back interval
or more, an AUTO WRITE_BACK becomes current and the supply begins to settle, and an AUTO VERIFY is queued behind it when
units since verify have reached a verify interval that is not 0; when the latter test alone passes, an AUTO VERIFY becomes
current with units since verify 0; when neither passes, no operation is asked for. In general, at a binding in any state in
which it can be credited: nothing changes but the credited record, swath sum and status, and what the two tests ask for. The
write-back test passes for a VERIFIED binding with no WRITE_BACK current; the verify test for VERIFIED or LINK_LOST, and its
VERIFY is dropped where the binding is not identified. Behind a current operation an AUTO WRITE_BACK, then an AUTO VERIFY,
joins the queue, or merges with the entry of its kind, and is dropped while a RELEASE is queued or current; neither touches
supply, timers or attempt. At an idle slot the first of them that is asked for becomes current, and waits for a supply that
is OFF or SETTLING or starts its first attempt with the supply ON (a CHALLENGE with a fresh nonce: log entry 4). -/
def Obligations.AutomaticOperations : Prop :=
  (∀ (r : DropReport) (n : Slot) (q U u w : Nat) (c c' : SlotContext) (s : State), SlotsWf s → s.keyPresent = true →
    r.slot = some n → c = s.slot n → c.bindingState = .verified → c.current = none → c.supply = .off →
    c.record.uBind = some u → c.record.lastWritten = some w →
    q = (c.record.residue + frameVolume s.monitor r) / 10240000000 →
    U = min (u + min (c.record.metered + q) 4294967295) 4294967295 → c' = (handleReport r s).slot n →
    (w + c.config.writeBack ≤ U →
      c'.current = some (autoOp .writeBack) ∧ c'.supply = .settling ∧ c'.settleTimer = some c.config.settle ∧
      c'.queue =
        if c.config.verify ≠ 0 ∧ c.config.verify ≤ min (c.record.sinceVerify + q) 4294967295 then
          [{ kind := .verify, origin := .auto }]
        else []) ∧
    (U < w + c.config.writeBack → c.config.verify ≠ 0 →
      c.config.verify ≤ min (c.record.sinceVerify + q) 4294967295 →
      c'.current = some (autoOp .verify) ∧ c'.supply = .settling ∧ c'.settleTimer = some c.config.settle ∧
      c'.queue = [] ∧ c'.record.sinceVerify = 0) ∧
    (U < w + c.config.writeBack →
      c.config.verify = 0 ∨ min (c.record.sinceVerify + q) 4294967295 < c.config.verify →
      c'.current = none ∧ c'.supply = .off ∧ c'.queue = [])) ∧
  ∀ (r : DropReport) (n : Slot) (q : Nat) (c : SlotContext) (s : State), SlotsWf s → s.keyPresent = true → r.slot = some n →
    c = s.slot n → Charged c → q = (c.record.residue + frameVolume s.monitor r) / 10240000000 →
    ∀ gap worn : Prop,
      (gap ↔ c.bindingState = .verified ∧ isCurrent .writeBack c = false ∧ ∃ u w, c.record.uBind = some u ∧
        c.record.lastWritten = some w ∧
        w + c.config.writeBack ≤ min (u + min (c.record.metered + q) 4294967295) 4294967295) →
      (worn ↔ (c.bindingState = .verified ∨ c.bindingState = .linkLost) ∧ c.record.identity ≠ none ∧ c.config.verify ≠ 0 ∧
        c.config.verify ≤ min (c.record.sinceVerify + q) 4294967295) →
      ∃ c1 : SlotContext,
        c1 = { c with record := c1.record, swathCredited := c1.swathCredited, status := c1.status } ∧
        c1.record.identity = c.record.identity ∧ c1.record.uBind = c.record.uBind ∧
        c1.record.lastWritten = c.record.lastWritten ∧ c1.record.metered = min (c.record.metered + q) 4294967295 ∧
        c1.record.sinceVerify = min (c.record.sinceVerify + q) 4294967295 ∧
        (c.current ≠ none → ∀ q1 q2 : List QueueEntry, ∀ barred : Prop,
          (barred ↔ isQueued .release c.queue = true ∨ isCurrent .release c = true) →
          (gap ∧ ¬barred → q1 = autoJoined .writeBack c.queue) → (¬(gap ∧ ¬barred) → q1 = c.queue) →
          (worn ∧ ¬barred → q2 = autoJoined .verify q1) → (¬(worn ∧ ¬barred) → q2 = q1) →
          handleReport r s = s.setSlot n { c1 with queue := q2 }) ∧
        (c.current = none →
          (¬gap → ¬worn → handleReport r s = s.setSlot n c1) ∧
          (¬gap → worn → handleReport r s = (s.setSlot n c1).begins n .verify .auto) ∧
          (gap → ¬worn → handleReport r s = (s.setSlot n c1).begins n .writeBack .auto) ∧
          (gap → worn → ∀ v : State, v = (s.setSlot n c1).begins n .writeBack .auto →
            handleReport r s = v.setSlot n { v.slot n with queue := [{ kind := .verify, origin := .auto }] }))

/-- O24 (R38, R39, R40). With ascending thresholds, the volume of a drop report is exactly n1 v1 + n2 v2 + n3 v3 times k[b] for
a band b such that the latest sample of the report's thermal input equals or exceeds the i-th threshold exactly when i is at
most b; without a sample b is the report's default band. Limits and a conversion in flight play no part. -/
def Obligations.BandOfASample : Prop :=
  ∀ (m : Monitor) (r : DropReport), m.thresholds.toList.Pairwise (· < ·) →
    ∃ b : Band, frameVolume m r = (r.n1 * r.v1 + r.n2 * r.v2 + r.n3 * r.v3) * r.k[b] ∧
      (m.samples[r.thermal] = none → b = r.defaultBand) ∧
      ∀ code : Code, m.samples[r.thermal] = some code →
        ∀ i : Fin 7, m.thresholds[i] ≤ code.val ↔ i.val < b.val

/-- O25 (R184). A good CONTROL frame of any request code, tag and arguments, taken next, is executed by the command of its code.
When the reply queue holds fewer than 8 replies, exactly one frame joins the waiting frames as the newest: a reply with the
request's tag and code, a result, at most 128 data bytes and the summary word as it stands after the request. When it holds
8, the request is discarded with REPLY_OVERRUN: but for the sequence tracking nothing else changes, and no frame joins. -/
def Obligations.EveryRequestHasOneReply : Prop :=
  ∀ (code tag : Byte) (args : List Byte) (shape seq count : Byte) (s : State),
    TakenNext (linkFrame 0xA5 shape seq count (code :: tag :: args)) s → shape.msb = false → args.length ≤ 64 →
    (s.replyQueue.length < 8 →
      ∃ t result data, exec (requestCommand code) s = .next t ∧ data.length ≤ 128 ∧
        t.agent.returnQueue = s.agent.returnQueue ++ [.reply tag code result data t.summaryWord] ∧
        t.replyQueue = s.replyQueue ++ [.reply tag code result data t.summaryWord]) ∧
    (8 ≤ s.replyQueue.length →
      exec (requestCommand code) s = .next
        { s.consumed seq with
            agent := { (s.consumed seq).agent with
              sticky := (s.consumed seq).agent.sticky ||| Condition.mask .replyOverrun } })

/-- O26 (R28, R36, R48, R60, R74, R93, R94, R151, R164, R185, R186, R196). READ SUMMARY, READ SLOT, READ SLOT CONFIG, READ LANE,
READ POLICY and READ RETIRED are answered OK with their data as they stand and change nothing but the sequence tracking and
the reply. READ SUMMARY gives condition vector, fault mask, store status and expected number; READ SLOT, READ POLICY and
READ SAMPLES the 101, 64 and 62 bytes of their layouts in section 11.6, byte for byte; READ SLOT CONFIG the eight fields and
READ LANE every field in selection order; READ RETIRED from place p up to 47 the number of entries, how many follow, and up
to four of 18 bytes: serial, generation, final used count, reason, sequence number. READ LANE COUNTERS and READ SAMPLES
answer the counters and the sample data and, when bit 0 of the clear byte is set, zero the lane's seven counters and the
skipped-trigger count. In the slot data a slot without a binding shows thresholds of 0 (DEDUCED, log entry 16), and a
transaction shows once an attempt is in flight (DEDUCED, log entry 17). -/
def Obligations.ReadRequests : Prop :=
  ∀ (tag shape seq count : Byte) (s : State),
    (RequestNext 0x01 tag [] shape seq count s →
      exec .readSummary s = .next ((s.consumed seq).replied tag 0x01 .ok
        (beBytes 4 (s.consumed seq).conditionVector.toNat ++ beBytes 4 s.agent.faultMask.toNat ++
          [byteOf s.store.commitQueue.length, if s.store.program = none then 0x00 else 0x01, byteOf s.store.invalidCount,
            seq + 1, 0x00]))) ∧
    (∀ n : Slot, RequestNext 0x02 tag [byteOf n.val] shape seq count s →
      exec .readSlot s = .next ((s.consumed seq).replied tag 0x02 .ok (slotData n (s.slot n))) ∧
        SlotLayout n (s.slot n) (slotData n (s.slot n))) ∧
    (∀ n : Slot, RequestNext 0x07 tag [byteOf n.val] shape seq count s →
      exec .readSlotConfig s = .next ((s.consumed seq).replied tag 0x07 .ok
        (beBytes 1 (s.slot n).config.inkType ++ beBytes 2 (s.slot n).config.lowMark ++
          beBytes 2 (s.slot n).config.tolerance ++ beBytes 2 (s.slot n).config.writeBack ++
          beBytes 2 (s.slot n).config.verify ++ beBytes 1 (s.slot n).config.settle ++ beBytes 1 (s.slot n).config.idle ++
          beBytes 1 (s.slot n).config.timeout))) ∧
    (∀ l : Lane, RequestNext 0x09 tag [byteOf l.val] shape seq count s →
      exec .readLane s = .next ((s.consumed seq).replied tag 0x09 .ok
        ([((s.laneEntry l).slot.map fun n => byteOf n.val).getD 0xFF] ++ beBytes 2 (s.laneEntry l).nozzles ++
          beBytes 2 (s.laneEntry l).v1 ++ beBytes 2 (s.laneEntry l).v2 ++ beBytes 2 (s.laneEntry l).v3 ++
          [byteOf (s.laneEntry l).thermal.val, byteOf (s.laneEntry l).defaultBand.val] ++
          (s.laneEntry l).k.toList.flatMap fun k => beBytes 2 k))) ∧
    (RequestNext 0x0C tag [] shape seq count s →
      exec .readPolicy s = .next ((s.consumed seq).replied tag 0x0C .ok (policyData s)) ∧ PolicyLayout s (policyData s)) ∧
    (∀ p : Nat, p ≤ 47 → RequestNext 0x14 tag [byteOf p] shape seq count s →
      exec .readRetired s = .next ((s.consumed seq).replied tag 0x14 .ok
        ([byteOf s.refill.retired.length, byteOf (min 4 (s.refill.retired.length - p))] ++
          ((s.refill.retired.drop p).take 4).flatMap entryBytes))) ∧
    (∀ (l : Lane) (clear : Byte), RequestNext 0x0A tag [byteOf l.val, clear] shape seq count s →
      exec .readLaneCounters s = .next (State.replied tag 0x0A .ok
        ([s.lanes.counters[l].forwarded, s.lanes.counters[l].blanked, s.lanes.counters[l].marked,
          s.lanes.counters[l].drops1, s.lanes.counters[l].drops2, s.lanes.counters[l].drops3,
          s.lanes.counters[l].unattributed].flatMap fun x => beBytes 6 x)
        { s.consumed seq with
            lanes := { s.lanes with
              counters := if clear.getLsbD 0 then s.lanes.counters.set l LaneCounters.zero else s.lanes.counters } })) ∧
    (∀ clear : Byte, RequestNext 0x12 tag [clear] shape seq count s →
      exec .readSamples s = .next (State.replied tag 0x12 .ok (samplesData s.monitor)
        { s.consumed seq with
            monitor := { s.monitor with skipped := if clear.getLsbD 0 then 0 else s.monitor.skipped } }) ∧
        SamplesLayout s.monitor (samplesData s.monitor))

/-- O27 (R23, R28, R36, R64, R65, R67, R93, R94, R102, R151, R162, R185). A good CONTROL frame whose code is none of the 25 is
answered UNKNOWN_REQUEST with its own code; one whose request has a fixed number of argument bytes and that carries another
number is answered BAD_ARGUMENT; so is one of READ SLOT, COLLECT STATUS, START OPERATION, HALT SLOT, READ SLOT CONFIG, READ
LANE, READ LANE COUNTERS, SET SAMPLE MODE, SAMPLE INPUT and READ RETIRED whose slot, lane, mode, input or place is out of
range, a START OPERATION of a kind outside 1 to 4, a WRITE LANE, WRITE SLOT CONFIG or WRITE POLICY without its selection
bytes, of a lane above 15 or a slot above 7, with no field selected (bit 15 of a lane selection naming none), with bits 13
to 15 of a policy selection, or with another number of value bytes than the selection asks for, and a WRITE SEQUENCE whose
depth is not the number of its entries. Each refusal carries no data and changes nothing but the sequence tracking and the
reply. -/
def Obligations.RefusedRequests : Prop :=
  ∀ (code tag : Byte) (args : List Byte) (shape seq count : Byte) (s : State), RequestNext code tag args shape seq count s →
    (code = 0 ∨ 26 ≤ code.toNat →
      exec .unknownRequest s = .next ((s.consumed seq).replied tag code .unknownRequest [])) ∧
    (∀ k : Nat, (code.toNat, k) ∈
        ([(1, 0), (2, 1), (3, 1), (4, 2), (5, 1), (7, 1), (9, 1), (10, 2), (12, 0), (13, 0), (15, 1), (16, 0), (17, 1),
          (18, 1), (20, 1), (21, 8), (22, 32), (23, 0), (24, 4), (25, 4)] : List (Nat × Nat)) → args.length ≠ k →
      exec (requestCommand code) s = .next ((s.consumed seq).replied tag code .badArgument [])) ∧
    (∀ bound : Nat, (code.toNat, bound) ∈
        ([(2, 7), (3, 7), (4, 7), (5, 7), (7, 7), (9, 15), (10, 15), (15, 2), (17, 7), (20, 47)] : List (Nat × Nat)) →
      bound < (args.headD 0).toNat →
      exec (requestCommand code) s = .next ((s.consumed seq).replied tag code .badArgument [])) ∧
    (code = 0x04 → 2 ≤ args.length → (byteAt args 1).toNat = 0 ∨ 4 < (byteAt args 1).toNat →
      exec .startOperation s = .next ((s.consumed seq).replied tag code .badArgument [])) ∧
    (code = 0x08 →
      args.length < 3 ∨ 15 < (byteAt args 0).toNat ∨ fieldAt args 1 2 % 32768 = 0 ∨
        args.length ≠ 3 + selectedLength laneWidths (fieldAt args 1 2) →
      exec .writeLane s = .next ((s.consumed seq).replied tag code .badArgument [])) ∧
    (code = 0x06 →
      args.length < 2 ∨ 7 < (byteAt args 0).toNat ∨ byteAt args 1 = 0 ∨
        args.length ≠ 2 + selectedLength slotConfigWidths (byteAt args 1).toNat →
      exec .writeSlotConfig s = .next ((s.consumed seq).replied tag code .badArgument [])) ∧
    (code = 0x0B →
      args.length < 2 ∨ 8192 ≤ fieldAt args 0 2 ∨ fieldAt args 0 2 = 0 ∨
        args.length ≠ 2 + selectedLength policyWidths (fieldAt args 0 2) →
      exec .writePolicy s = .next ((s.consumed seq).replied tag code .badArgument [])) ∧
    (code = 0x0E → args = [] ∨ args.length ≠ 1 + (byteAt args 0).toNat →
      exec .writeSequence s = .next ((s.consumed seq).replied tag code .badArgument []))

/-- O28 (R73, R118, R119, R120, R126, R167, R188, R189, R190, R191, R192, R193). CLEAR CONDITIONS clears each selected condition
of bits 0 to 10, and OVERTEMP[x] only when the latest sample of x is below its limit; every other bit stays, and the data
are the condition vector after the clear. WRITE FAULT MASK stores the mask without the bits of FRAME_GUARD, FRAME_CRC,
FRAME_LENGTH and KEY_ABSENT and without the bits that name no condition, and answers it as stored. COLLECT STATUS answers
the slot's pending record whole, in the 13 bytes of its layout, or none pending, and leaves the slot with no pending record.
Nothing else changes but the sequence tracking and the reply. In every state the condition vector holds the sticky
conditions and KEY_ABSENT while the part works, is not RESTORING and has no PRESENT key, STREAM_HELD in HELD and
RESUME_PENDING, SLOT_ALERT while a pending record holds an alert; FAULT_N is asserted exactly while RESET_N is released and
a condition is set whose mask bit is clear; the summary word holds its fields at their bits. -/
def Obligations.StatusRequests : Prop :=
  ∀ (tag shape seq count : Byte) (s : State),
    (∀ mask : Word32, RequestNext 0x18 tag (beBytes 4 mask.toNat) shape seq count s →
      ∃ t : State, exec .clearConditions s = .next (t.replied tag 0x18 .ok (beBytes 4 t.conditionVector.toNat)) ∧
        t = { s.consumed seq with agent := { (s.consumed seq).agent with sticky := t.agent.sticky } } ∧
        (∀ i : Nat, i ≤ 10 →
          t.agent.sticky.getLsbD i = ((s.consumed seq).agent.sticky.getLsbD i && !mask.getLsbD i)) ∧
        (∀ x : ThermalInput, t.agent.sticky.getLsbD (16 + x.val) = true ↔
          s.agent.sticky.getLsbD (16 + x.val) = true ∧
          ¬(mask.getLsbD (16 + x.val) = true ∧
            ∃ code : Code, s.monitor.samples[x] = some code ∧ code.val < s.monitor.limits[x])) ∧
        ∀ i : Nat, (11 ≤ i ∧ i ≤ 15) ∨ 24 ≤ i → t.agent.sticky.getLsbD i = s.agent.sticky.getLsbD i) ∧
    (∀ mask : Word32, RequestNext 0x19 tag (beBytes 4 mask.toNat) shape seq count s →
      ∃ t : State, exec .writeFaultMask s = .next (t.replied tag 0x19 .ok (beBytes 4 t.agent.faultMask.toNat)) ∧
        t = { s.consumed seq with agent := { (s.consumed seq).agent with faultMask := t.agent.faultMask } } ∧
        ∀ i : Nat, t.agent.faultMask.getLsbD i =
          (mask.getLsbD i && decide (i ≤ 13 ∨ (16 ≤ i ∧ i ≤ 23)) && decide (i ≠ 0 ∧ i ≠ 1 ∧ i ≠ 2 ∧ i ≠ 11))) ∧
    (∀ n : Slot, RequestNext 0x03 tag [byteOf n.val] shape seq count s →
      exec .collectStatus s = .next (State.replied tag 0x03 .ok (statusData (s.slot n).status)
        ((s.consumed seq).setSlot n { s.slot n with status := none })) ∧
        StatusLayout (s.slot n).status (statusData (s.slot n).status)) ∧
    (∀ i : Nat, s.conditionVector.getLsbD i = true ↔
      s.agent.sticky.getLsbD i = true ∨ (i = 11 ∧ s.running = true ∧ s.keyPresent = false) ∨
        (i = 12 ∧ (s.port.stream = .held ∨ s.port.stream = .resumePending)) ∨
        (i = 13 ∧ ∃ (n : Slot) (r : StatusRecord), (s.slot n).status = some r ∧ r.alerts ≠ 0)) ∧
    (s.faultAsserted = true ↔ s.resetAsserted = false ∧
      ∃ i : Nat, s.conditionVector.getLsbD i = true ∧ s.agent.faultMask.getLsbD i = false) ∧
    (∀ n : Slot, s.summaryWord.getLsbD (8 + n.val) = (s.slot n).status.isSome) ∧ s.summaryWord.getLsbD 7 = false ∧
    (s.summaryWord.getLsbD 6 = true ↔ s.conditionVector ≠ 0) ∧ s.summaryWord.getLsbD 5 = s.keyPresent ∧
    s.summaryWord.getLsbD 4 = s.policy.locked ∧ s.summaryWord.getLsbD 3 = s.monitor.conversion.isSome ∧
    s.summaryWord.toNat / 2 % 4 = codeIn streamOrder s.port.stream ∧ s.summaryWord.getLsbD 0 = s.faultAsserted

/-- O29 (R104, R116, R118, R119). A merge that carries a primary, an event or an alert leaves the slot with a pending record
whose events and alerts are the unions of the old sets and the new, whose primary is the new one where the merge carries one
and the old one otherwise, whose primary_overwritten flag is set when it was or when a primary replaced another, and whose
snapshot is the slot's binding state, slot condition and U_est at that moment. Nothing else of the slot changes. -/
def Obligations.StatusMerge : Prop :=
  ∀ (allowance : Nat) (primary : Option Primary) (events : Byte) (alerts : Word16) (c : SlotContext),
    primary ≠ none ∨ events ≠ 0 ∨ alerts ≠ 0 →
    ∃ r : StatusRecord, mergeStatus allowance primary events alerts c = { c with status := some r } ∧
      r.events = eventsOf c ||| events ∧ r.alerts = alertsOf c ||| alerts ∧
      (primary ≠ none → r.primary = primary) ∧ (primary = none → r.primary = c.status.bind (·.primary)) ∧
      (r.overwritten = true ↔
        (c.status.map (·.overwritten)).getD false = true ∨ (primary ≠ none ∧ c.status.bind (·.primary) ≠ none)) ∧
      r.snapshot = { state := c.bindingState, condition := slotCondition allowance c, uEst := c.record.uEst }

/-- O30 (R80, R81, R84, R99, R100, R102, R103, R105, R108, R110, R130). START OPERATION with a legal slot and kind is answered
NOT_PRESENT at a slot in NO_CARTRIDGE, and BAD_STATE where the state condition or the release bar of R99 fails, and changes
nothing else. Otherwise it is answered PENDING with the kind and whether it merged. Behind a current operation it joins the
queue REQUESTED, or turns the queued entry of its kind REQUESTED. At an idle slot it becomes current: a BIND (replacing a
RELEASED or FAILED binding), a VERIFY with a key (units since verify become 0), a WRITE_BACK and a RELEASE of a VERIFIED
binding wait for the supply, which begins to settle where it is OFF and goes on where it is SETTLING; where it is ON, the
first attempt starts at once with the idle timer stopped: IDENT for a BIND, CHALLENGE with a fresh nonce for a VERIFY (log
entry 4), ADVANCE with U_est as its target for a WRITE_BACK or RELEASE. Stated outside RESUME_PENDING; other slots do not
change. -/
def Obligations.StartOperation : Prop :=
  ∀ (n : Slot) (kind : OpKind) (tag shape seq count : Byte) (s : State),
    RequestNext 0x04 tag [byteOf n.val, byteOf kind.code] shape seq count s →
    ((s.slot n).bindingState = .noCartridge →
      exec .startOperation s = .next ((s.consumed seq).replied tag 0x04 .notPresent [])) ∧
    ((s.slot n).bindingState ≠ .noCartridge → ¬MayJoin kind (s.slot n) →
      exec .startOperation s = .next ((s.consumed seq).replied tag 0x04 .badState [])) ∧
    ((s.slot n).current ≠ none → MayJoin kind (s.slot n) → s.port.stream ≠ .resumePending →
      exec .startOperation s = .next (State.replied tag 0x04 .pending
        [byteOf kind.code, if isQueued kind (s.slot n).queue then 0x01 else 0x00]
        ((s.consumed seq).setSlot n
          { s.slot n with
              queue :=
                if isQueued kind (s.slot n).queue then
                  (s.slot n).queue.map fun e => if e.kind = kind then { e with origin := .requested } else e
                else (s.slot n).queue ++ [{ kind := kind, origin := .requested }] }))) ∧
    ∀ c : SlotContext, c = readied kind (s.slot n) → (s.slot n).current = none → (s.slot n).queue = [] →
      MayJoin kind (s.slot n) → s.port.stream ≠ .resumePending → (kind = .verify → s.keyPresent = true) →
      (kind = .release → (s.slot n).bindingState = .verified) →
      (c.supply = .off →
        exec .startOperation s = .next (State.replied tag 0x04 .pending [byteOf kind.code, 0x00]
          ((s.consumed seq).setSlot n (waitsFor kind .requested c)))) ∧
      (c.supply = .settling →
        exec .startOperation s = .next (State.replied tag 0x04 .pending [byteOf kind.code, 0x00]
          ((s.consumed seq).setSlot n { c with current := some (newOp kind .requested) }))) ∧
      (c.supply = .poweredOn → kind = .bind →
        exec .startOperation s = .next (State.replied tag 0x04 .pending [byteOf kind.code, 0x00]
          ((s.consumed seq).setSlot n
            { c with
                current := some (newOp kind .requested), idleTimer := none,
                attempt := some
                  { number := 1, nonce := none, request := [0x5A, crc8 [0x5A]], timer := c.config.timeout } }))) ∧
      (c.supply = .poweredOn → kind = .verify →
        exec .startOperation s = .next (State.replied tag 0x04 .pending [byteOf kind.code, 0x00]
          { (s.consumed seq).setSlot n
              { c with
                  current := some (newOp kind .requested), idleTimer := none,
                  attempt := some
                    { number := 1, nonce := some s.freshNonce,
                      request := withCrc8 (0x6B :: beBytes 16 s.freshNonce.toNat), timer := c.config.timeout } } with
            nonceCount := s.nonceCount + 1 })) ∧
      ∀ u U : Nat, c.supply = .poweredOn → kind = .writeBack ∨ kind = .release → c.record.uBind = some u →
        U = min (u + c.record.metered) 4294967295 →
        exec .startOperation s = .next (State.replied tag 0x04 .pending [byteOf kind.code, 0x00]
          ((s.consumed seq).setSlot n
            { c with
                current := some { newOp kind .requested with target := some U }, idleTimer := none,
                attempt := some
                  { number := 1, nonce := none, request := withCrc8 (0x7C :: beBytes 4 U), timer := c.config.timeout } }))

/-- O31 (R48, R56, R99, R103, R104, R108, R110, R126, R145, R146, R148, R152). At an idle slot outside RESUME_PENDING a
REQUESTED VERIFY with no key present ends at once UNVERIFIED: units since verify become 0 (that it has become current first
is DEDUCED, log entry 26), its primary and alert KEY_ABSENT are merged, and no transaction is made. A REQUESTED RELEASE of a
binding that is not VERIFIED makes no transaction: the supply goes OFF with its timers stopped, the binding becomes
RELEASED, its primary RELEASED is merged, and its record is kept (DEDUCED, log entry 15; a release without identity:
DEDUCED, log entry 31) but for the failure reason and the residue, with LOW as it stands. Without U_bind no retired entry
and no checkpoint changes; with it, the end of the binding writes its checkpoint and its retired entry or none, a FAILED one
leaving no trace. Both are answered PENDING, and no other slot changes. -/
def Obligations.OperationsThatEndAtOnce : Prop :=
  ∀ (n : Slot) (tag shape seq count : Byte) (s : State), (s.slot n).current = none → (s.slot n).queue = [] →
    s.port.stream ≠ .resumePending →
    (RequestNext 0x04 tag [byteOf n.val, 0x02] shape seq count s → MayJoin .verify (s.slot n) → s.keyPresent = false →
      exec .startOperation s = .next (State.replied tag 0x04 .pending [0x02, 0x00]
        ((s.consumed seq).setSlot n (mergeStatus s.policy.allowance
          (some { kind := some .verify, result := .unverified, reason := none, nothingActive := false }) 0 0x0100
          { s.slot n with record := { (s.slot n).record with sinceVerify := 0 } })))) ∧
    (RequestNext 0x04 tag [byteOf n.val, 0x04] shape seq count s → MayJoin .release (s.slot n) →
      (s.slot n).bindingState ≠ .verified → (s.slot n).record.uBind = none →
      exec .startOperation s = .next (State.replied tag 0x04 .pending [0x04, 0x00]
        ((s.consumed seq).setSlot n (mergeStatus s.policy.allowance
          (some { kind := some .release, result := .released, reason := none, nothingActive := false }) 0 0
          { s.slot n with
              supply := .off, settleTimer := none, idleTimer := none, bindingState := .released,
              record := { (s.slot n).record with failure := none, residue := 0, lowAtEnd := false } })))) ∧
    (RequestNext 0x04 tag [byteOf n.val, 0x04] shape seq count s → MayJoin .release (s.slot n) → BindingWf (s.slot n) →
      (s.slot n).bindingState ≠ .verified →
      exec .startOperation s = .next (State.replied tag 0x04 .pending [0x04, 0x00]
        (((s.consumed seq).bindingEnds n (s.slot n)).setSlot n (mergeStatus s.policy.allowance
          (some { kind := some .release, result := .released, reason := none, nothingActive := false }) 0 0
          { s.slot n with
              supply := .off, settleTimer := none, idleTimer := none, bindingState := .released,
              record := keptRecord (s.slot n) }))))

/-- O32 (R80, R112, R118). HALT SLOT with a legal slot empties the queue, and its data hold the kind of the current operation, 0
for none, and one bit for each kind removed. With no current operation it places a primary of no kind, HALTED,
NOTHING_ACTIVE and is answered OK. A current operation with no attempt in flight ends at once HALTED with its primary,
whatever its origin was, the supply going on as it is, answered OK. With an attempt in flight the operation's halt-pending
flag is set and its origin becomes REQUESTED, answered PENDING. Stated outside RESUME_PENDING. Nothing else changes but the
sequence tracking and the reply. -/
def Obligations.HaltSlot : Prop :=
  ∀ (n : Slot) (tag shape seq count : Byte) (removed : Nat) (s : State),
    RequestNext 0x05 tag [byteOf n.val] shape seq count s → s.port.stream ≠ .resumePending →
    removed = ((s.slot n).queue.map fun e => 2 ^ e.kind.code).sum →
    ((s.slot n).current = none →
      exec .haltSlot s = .next (State.replied tag 0x05 .ok [0x00, byteOf removed]
        ((s.consumed seq).setSlot n (mergeStatus s.policy.allowance
          (some { kind := none, result := .halted, reason := none, nothingActive := true }) 0 0
          { s.slot n with queue := [] })))) ∧
    (∀ op : CurrentOp, (s.slot n).current = some op → (s.slot n).attempt = none →
      exec .haltSlot s = .next (State.replied tag 0x05 .ok [byteOf op.kind.code, byteOf removed]
        ((s.consumed seq).setSlot n (mergeStatus s.policy.allowance
          (some { kind := some op.kind, result := .halted, reason := none, nothingActive := false }) 0 0
          { s.slot n with queue := [], current := none })))) ∧
    (∀ op : CurrentOp, (s.slot n).current = some op → (s.slot n).attempt ≠ none →
      exec .haltSlot s = .next (State.replied tag 0x05 .pending [byteOf op.kind.code, byteOf removed]
        ((s.consumed seq).setSlot n
          { s.slot n with queue := [], current := some { op with origin := .requested, haltPending := true } })))

/-- O33 (R50, R51, R81, R92, R93, R135). WRITE SLOT CONFIG with a legal slot and at least one selected field is answered OK and
completes in every state; each selected field is stored clamped to its range, the others are kept, and a write of the idle
delay while the supply is ON and no attempt is in flight restarts the idle timer with the new delay, or stops it for 0 (that
it restarts where it did not run for a delay of 0: DEDUCED, log entry 20). Where neither low mark nor tolerance changes,
where the binding is RELEASED (an ended binding is not judged again: DEDUCED, log entry 22) and where it has no U_est,
nothing else of the slot changes. Elsewhere each mark flag whose condition now holds is set without an event and OVERDRAW
takes the overdraw, keeps the greatest, trips at the new tolerance and places REFILL_SUSPECT at its first trip; the rest of
the record stays. -/
def Obligations.WriteSlotConfig : Prop :=
  ∀ (n : Slot) (v : List (Option Nat)) (tag shape seq count : Byte) (cfg : SlotConfig) (c1 : SlotContext) (s : State),
    SelectionFits slotConfigWidths v → (∃ x, some x ∈ v) →
    RequestNext 0x06 tag ([byteOf n.val, byteOf (selectionBits v)] ++ selectionBytes slotConfigWidths v) shape seq count s →
    cfg =
      { inkType := written v 0 id (s.slot n).config.inkType,
        lowMark := written v 1 (fun x => min x 1000) (s.slot n).config.lowMark,
        tolerance := written v 2 (fun x => max 1 (min x 1000)) (s.slot n).config.tolerance,
        writeBack := written v 3 (fun x => max 1 x) (s.slot n).config.writeBack,
        verify := written v 4 id (s.slot n).config.verify,
        settle := written v 5 (fun x => max 1 (min x 15)) (s.slot n).config.settle,
        idle := written v 6 id (s.slot n).config.idle,
        timeout := written v 7 (fun x => max 5 (min x 100)) (s.slot n).config.timeout } →
    c1 = { s.slot n with
      config := cfg,
      idleTimer :=
        if fieldOf v 6 ≠ none ∧ (s.slot n).supply = .poweredOn ∧ (s.slot n).attempt = none then
          (if cfg.idle = 0 then none else some (cfg.idle * 100))
        else (s.slot n).idleTimer } →
    ∃ c', exec .writeSlotConfig s = .next (State.replied tag 0x06 .ok [] ((s.consumed seq).setSlot n c')) ∧
      ((cfg.lowMark = (s.slot n).config.lowMark ∧ cfg.tolerance = (s.slot n).config.tolerance) ∨
          c1.bindingState = .released ∨ c1.record.identity = none ∨ c1.record.uBind = none →
        c' = c1) ∧
      ∀ (i : Identity) (u U : Nat), cfg.lowMark ≠ (s.slot n).config.lowMark ∨ cfg.tolerance ≠ (s.slot n).config.tolerance →
        c1.bindingState ≠ .released → c1.record.identity = some i → c1.record.uBind = some u →
        U = min (u + c1.record.metered) 4294967295 →
        c' = mergeStatus s.policy.allowance none 0 (suspectAt cfg i.capacity U c1.record)
          { c1 with record := judgedAt cfg i.capacity U c1.record }

/-- O34 (R23, R24, R25, R26, R27, R185). WRITE LANE with a legal lane and at least one selected field: a slot byte other than 0
to 7 and 0FFh, or a thermal input or default band above 7, is answered BAD_ARGUMENT; else slot or nozzles selected in OPEN
or RESUME_PENDING is answered BUSY; both change no field. Otherwise it is answered OK and each selected field is stored:
nozzles rounded down to a multiple of 64 and clamped to 64 to 2048, a volume of 0 as 0 and any other clamped to 100 to
40000, a k value clamped to 768 to 1280; fields not selected are kept. The effect is stated outside RESUME_PENDING, where
the wait test follows. -/
def Obligations.WriteLane : Prop :=
  ∀ (l : Lane) (v : List (Option Nat)) (tag shape seq count : Byte) (s : State),
    SelectionFits laneWidths v → (∃ x, some x ∈ v) →
    RequestNext 0x08 tag ([byteOf l.val] ++ beBytes 2 (selectionBits v) ++ selectionBytes laneWidths v) shape seq count s →
    ((∃ x, (fieldOf v 0 = some x ∧ 8 ≤ x ∧ x ≠ 255) ∨ (fieldOf v 5 = some x ∧ 8 ≤ x) ∨ (fieldOf v 6 = some x ∧ 8 ≤ x)) →
      exec .writeLane s = .next ((s.consumed seq).replied tag 0x08 .badArgument [])) ∧
    ((∀ x, (fieldOf v 0 = some x → x < 8 ∨ x = 255) ∧ (fieldOf v 5 = some x → x < 8) ∧ (fieldOf v 6 = some x → x < 8)) →
      (fieldOf v 0 ≠ none ∨ fieldOf v 1 ≠ none) → s.port.stream = .opened ∨ s.port.stream = .resumePending →
      exec .writeLane s = .next ((s.consumed seq).replied tag 0x08 .busy [])) ∧
    ((∀ x, (fieldOf v 0 = some x → x < 8 ∨ x = 255) ∧ (fieldOf v 5 = some x → x < 8) ∧ (fieldOf v 6 = some x → x < 8)) →
      (fieldOf v 0 = none ∧ fieldOf v 1 = none) ∨ s.port.stream = .idle ∨ s.port.stream = .held →
      s.port.stream ≠ .resumePending →
      ∃ e : LaneEntry,
        exec .writeLane s = .next (State.replied tag 0x08 .ok []
          { s.consumed seq with lanes := { s.lanes with table := s.lanes.table.set l e } }) ∧
        e.slot.map (·.val) = written v 0 (fun x => if x = 255 then none else some x) ((s.laneEntry l).slot.map (·.val)) ∧
        e.nozzles = written v 1 (fun x => max 64 (min (x - x % 64) 2048)) (s.laneEntry l).nozzles ∧
        e.v1 = written v 2 (fun x => if x = 0 then 0 else max 100 (min x 40000)) (s.laneEntry l).v1 ∧
        e.v2 = written v 3 (fun x => if x = 0 then 0 else max 100 (min x 40000)) (s.laneEntry l).v2 ∧
        e.v3 = written v 4 (fun x => if x = 0 then 0 else max 100 (min x 40000)) (s.laneEntry l).v3 ∧
        e.thermal.val = written v 5 id (s.laneEntry l).thermal.val ∧
        e.defaultBand.val = written v 6 id (s.laneEntry l).defaultBand.val ∧
        ∀ b : Band, e.k[b] = written v (7 + b.val) (fun x => max 768 (min x 1280)) (s.laneEntry l).k[b])

/-- O35 (R162, R163, R168, R170, R185). WRITE POLICY that selects at least one condition or the allowance: an action code above
3 is answered BAD_ARGUMENT; else, with the lock flag set, LOCKED; both change nothing. Otherwise it is answered OK and each
selected action and the allowance are written, the rest of the table, the lock flag and the hold-cause list being kept; a
HELD stream stays HELD. The effect is stated outside RESUME_PENDING, where the wait test follows. LOCK POLICY sets the lock
flag and is answered OK, whether it was set or not, and changes nothing else but the sequence tracking and the reply. -/
def Obligations.PolicyRequests : Prop :=
  ∀ (v : List (Option Nat)) (tag shape seq count : Byte) (s : State),
    (SelectionFits policyWidths v → (∃ x, some x ∈ v) →
      RequestNext 0x0B tag (beBytes 2 (selectionBits v) ++ selectionBytes policyWidths v) shape seq count s →
      ((∃ i x, i < 12 ∧ fieldOf v i = some x ∧ 4 ≤ x) →
        exec .writePolicy s = .next ((s.consumed seq).replied tag 0x0B .badArgument [])) ∧
      ((∀ i x, i < 12 → fieldOf v i = some x → x < 4) → s.policy.locked = true →
        exec .writePolicy s = .next ((s.consumed seq).replied tag 0x0B .locked [])) ∧
      ((∀ i x, i < 12 → fieldOf v i = some x → x < 4) → s.policy.locked = false → s.port.stream ≠ .resumePending →
        ∃ p : PolicyUnit,
          exec .writePolicy s = .next (State.replied tag 0x0B .ok [] { s.consumed seq with policy := p }) ∧
          (∀ c : LaneCondition, (p.action c).code = written v c.index.val id (s.policy.action c).code) ∧
          p.allowance = written v 12 id s.policy.allowance ∧ p.locked = false ∧ p.holdCauses = s.policy.holdCauses)) ∧
    (RequestNext 0x0D tag [] shape seq count s →
      exec .lockPolicy s = .next (State.replied tag 0x0D .ok []
        { s.consumed seq with policy := { s.policy with locked := true } }))

/-- O36 (R16, R58, R66, R165, R166, R167, R168, R169). RESUME STREAM outside HELD is answered NOT_HELD and changes nothing else.
In HELD it is answered PENDING, and with no lane waiting the re-evaluation is made at once: when no mapped lane has the
action HOLD the swath opens as at a SWATH_START, the held frame keeping its place; when one has, the stream is HELD again
and the hold-cause list is replaced by those lanes with their present conditions. When a mapped lane waits, its binding
PENDING_ID or PENDING_AUTH with an operation current or queued and the lane listed or its action HOLD, the stream becomes
RESUME_PENDING and nothing else changes. And whatever command but a stream reset, a pin reset or a change of power takes a
RESUME_PENDING stream out of that state: no lane waits any longer, and either no mapped lane has the action HOLD and the
swath opens, with swath sums 0, no hold cause and the Condition Monitor's trigger in SWATH_PACED, or one has and the stream
is HELD with the hold-cause list replaced by those lanes with their present conditions. -/
def Obligations.ResumeStream : Prop :=
  (∀ (tag shape seq count : Byte) (s : State), RequestNext 0x17 tag [] shape seq count s →
    (s.port.stream ≠ .held →
      exec .resumeStream s = .next ((s.consumed seq).replied tag 0x17 .notHeld [])) ∧
    (s.port.stream = .held → (∃ l, Waits s l) →
      exec .resumeStream s = .next (State.replied tag 0x17 .pending []
        { s.consumed seq with port := { (s.consumed seq).port with stream := .resumePending } })) ∧
    (s.port.stream = .held → (¬∃ l, Waits s l) → NoLaneHolds s →
      exec .resumeStream s = .next (State.replied tag 0x17 .pending [] (State.opening (s.consumed seq)))) ∧
    (s.port.stream = .held → (¬∃ l, Waits s l) → ¬NoLaneHolds s →
      exec .resumeStream s = .next (State.replied tag 0x17 .pending []
        { s.consumed seq with policy := { s.policy with holdCauses := s.holdCausesNow } }))) ∧
  ∀ (c : Instr) (s t : State), exec c s = .next t → s.port.stream = .resumePending → t.port.stream ≠ .resumePending →
    c ≠ .streamReset → c ≠ .pinResetAsserted → c ≠ .lossOfPower → (∀ decayed, c ≠ .powerOn decayed) →
    (∀ l, ¬Waits t l) ∧
    ((t.port.stream = .opened ∧ NoLaneHolds t ∧ t.policy.holdCauses = [] ∧
        (∀ n : Slot, (t.slot n).swathCredited = 0 ∧ (t.slot n).swathOrphaned = 0) ∧
        (t.monitor.mode = .swathPaced → t.monitor.conversion ≠ none)) ∨
      (t.port.stream = .held ∧ ¬NoLaneHolds t ∧ t.policy.holdCauses = t.holdCausesNow))

/-- O37 (R64, R65). WRITE SEQUENCE with 1 to 8 entries, each an input 0 to 7, replaces the sequence and sets the position to 0
when the mode is OFF, answered OK; in a paced mode it is answered BUSY, and with no entry, more than 8 or an input above 7
BAD_ARGUMENT, and changes nothing. SET SAMPLE MODE with a mode 0 to 2 sets the mode, answered OK; the position becomes 0 for
a paced mode and is kept for OFF, and a SEQUENCE conversion in flight loses its advancing flag. Nothing else changes but the
sequence tracking and the reply. -/
def Obligations.SampleSettings : Prop :=
  ∀ (tag shape seq count : Byte) (s : State),
    (∀ entries : List Byte,
      RequestNext 0x0E tag (byteOf entries.length :: entries) shape seq count s →
      (entries = [] ∨ 8 < entries.length ∨ (∃ b ∈ entries, 7 < b.toNat) →
        exec .writeSequence s = .next ((s.consumed seq).replied tag 0x0E .badArgument [])) ∧
      (entries ≠ [] → entries.length ≤ 8 → (∀ b ∈ entries, b.toNat ≤ 7) →
        (s.monitor.mode ≠ .off →
          exec .writeSequence s = .next ((s.consumed seq).replied tag 0x0E .busy [])) ∧
        (s.monitor.mode = .off →
          ∃ q : List ThermalInput, q.map (·.val) = entries.map (·.toNat) ∧
            exec .writeSequence s = .next (State.replied tag 0x0E .ok []
              { s.consumed seq with monitor := { s.monitor with sequence := q, position := 0 } })))) ∧
    ∀ mode : SampleMode, RequestNext 0x0F tag [byteOf mode.code] shape seq count s →
      ∃ cv : Option Conversion,
        exec .setSampleMode s = .next (State.replied tag 0x0F .ok []
          { s.consumed seq with
              monitor := { s.monitor with
                mode := mode, position := if mode = .off then s.monitor.position else 0, conversion := cv } }) ∧
        cv.map (·.input) = s.monitor.conversion.map (·.input) ∧
        (cv.map (·.origin) = some .direct ↔ s.monitor.conversion.map (·.origin) = some .direct) ∧
        cv.map (·.origin) ≠ some (.sequence true)

/-- O38 (R62, R66, R67, R68). SAMPLE NEXT outside REQUEST_PACED is answered BAD_STATE and is not counted. In REQUEST_PACED with
the converter free it starts a SEQUENCE conversion of the entry at the position, with its advancing flag set, answered OK
with the position and the input. SAMPLE INPUT of an input 0 to 7 with the converter free starts a DIRECT conversion of it, a
mode of SWATH_PACED becomes OFF, and the reply is OK with the input and the mode after. Either one that finds the converter
busy is answered BUSY and adds 1 to the skipped-trigger count, held at 2^32 - 1. Sequence, position and samples do not
change. -/
def Obligations.SampleTriggers : Prop :=
  ∀ (tag shape seq count : Byte) (s : State),
    (RequestNext 0x10 tag [] shape seq count s →
      (s.monitor.mode ≠ .requestPaced →
        exec .sampleNext s = .next ((s.consumed seq).replied tag 0x10 .badState [])) ∧
      (s.monitor.mode = .requestPaced → s.monitor.conversion ≠ none →
        exec .sampleNext s = .next (State.replied tag 0x10 .busy []
          { s.consumed seq with monitor := { s.monitor with skipped := min (s.monitor.skipped + 1) 4294967295 } })) ∧
      ∀ x : ThermalInput, s.monitor.mode = .requestPaced → s.monitor.conversion = none →
        s.monitor.sequence[s.monitor.position]? = some x →
        exec .sampleNext s = .next (State.replied tag 0x10 .ok [byteOf s.monitor.position, byteOf x.val]
          { s.consumed seq with
              monitor := { s.monitor with conversion := some { input := x, origin := .sequence true } } })) ∧
    ∀ x : ThermalInput, RequestNext 0x11 tag [byteOf x.val] shape seq count s →
      (s.monitor.conversion ≠ none →
        exec .sampleInput s = .next (State.replied tag 0x11 .busy []
          { s.consumed seq with monitor := { s.monitor with skipped := min (s.monitor.skipped + 1) 4294967295 } })) ∧
      (s.monitor.conversion = none →
        exec .sampleInput s = .next (State.replied tag 0x11 .ok
          [byteOf x.val, if s.monitor.mode = .requestPaced then 0x02 else 0x00]
          { s.consumed seq with
              monitor := { s.monitor with
                conversion := some { input := x, origin := .direct },
                mode := if s.monitor.mode = .swathPaced then .off else s.monitor.mode } }))

/-- O39 (R70, R71, R185, R190). WRITE LIMITS with a thresholds part alone, seven ascending values of at most 4096, replaces the
thresholds and is answered OK; values that are not strictly ascending or exceed 4096 are answered BAD_ARGUMENT and change
nothing. With a limits part, alone or behind a thresholds part, of one or more pairs of an input 0 to 7 and a limit, each
named input's limit becomes that of its last pair, clamped to 1 to 4096, the thresholds are replaced when their part is
present, and OVERTEMP of an input is raised when its latest sample is at or above the limit of one of its pairs, answered
OK; pair by pair is the model's reading (DEDUCED, log entry 19). No part, a limits part with no pair, illegal thresholds, an
input above 7, or another number of bytes than the parts and the pair count ask for is answered BAD_ARGUMENT. Limits are
stated outside RESUME_PENDING, where the wait test follows. -/
def Obligations.WriteLimits : Prop :=
  ∀ (tag shape seq count : Byte) (s : State),
    (∀ t : Vector Nat 7, (∀ x ∈ t.toList, x < 65536) →
      RequestNext 0x13 tag (0x01 :: t.toList.flatMap (beBytes 2)) shape seq count s →
      ((∀ x ∈ t.toList, x ≤ 4096) → t.toList.Pairwise (· < ·) →
        exec .writeLimits s = .next (State.replied tag 0x13 .ok []
          { s.consumed seq with monitor := { s.monitor with thresholds := t } })) ∧
      ((∃ x ∈ t.toList, 4096 < x) ∨ ¬t.toList.Pairwise (· < ·) →
        exec .writeLimits s = .next ((s.consumed seq).replied tag 0x13 .badArgument []))) ∧
    (∀ (parts : Byte) (rest : List Byte), RequestNext 0x13 tag (parts :: rest) shape seq count s →
      rest.length ≠ (if parts.getLsbD 0 then 14 else 0) +
        (if parts.getLsbD 1 then 1 + 3 * (byteAt rest (if parts.getLsbD 0 then 14 else 0)).toNat else 0) →
      exec .writeLimits s = .next ((s.consumed seq).replied tag 0x13 .badArgument [])) ∧
    ∀ (parts : Byte) (t : Vector Nat 7) (pairs : List (Byte × Nat)), (∀ x ∈ t.toList, x < 65536) →
      (∀ p ∈ pairs, p.2 < 65536) → (parts.getLsbD 1 = false → pairs = []) →
      RequestNext 0x13 tag (parts :: ((if parts.getLsbD 0 then t.toList.flatMap (beBytes 2) else []) ++
        (if parts.getLsbD 1 then byteOf pairs.length :: pairs.flatMap (fun p => p.1 :: beBytes 2 p.2) else [])))
        shape seq count s →
      ∀ legal : Prop,
        (legal ↔ (parts.getLsbD 0 = true ∨ parts.getLsbD 1 = true) ∧
          (parts.getLsbD 0 = true → (∀ x ∈ t.toList, x ≤ 4096) ∧ t.toList.Pairwise (· < ·)) ∧
          (parts.getLsbD 1 = true → pairs ≠ [] ∧ ∀ p ∈ pairs, p.1.toNat ≤ 7)) →
        (¬legal → exec .writeLimits s = .next ((s.consumed seq).replied tag 0x13 .badArgument [])) ∧
        (legal → s.port.stream ≠ .resumePending →
          ∃ u : State, exec .writeLimits s = .next (State.replied tag 0x13 .ok [] u) ∧
            u = { s.consumed seq with
              monitor := { s.monitor with
                thresholds := if parts.getLsbD 0 then t else s.monitor.thresholds, limits := u.monitor.limits },
              agent := { (s.consumed seq).agent with sticky := u.agent.sticky } } ∧
            (∀ x : ThermalInput, (∀ p ∈ pairs, p.1 ≠ byteOf x.val) → u.monitor.limits[x] = s.monitor.limits[x]) ∧
            (∀ (x : ThermalInput) (before after : List (Byte × Nat)) (limit : Nat),
              pairs = before ++ (byteOf x.val, limit) :: after → (∀ p ∈ after, p.1 ≠ byteOf x.val) →
              u.monitor.limits[x] = max 1 (min limit 4096)) ∧
            (∀ x : ThermalInput, u.agent.sticky.getLsbD (16 + x.val) = true ↔
              s.agent.sticky.getLsbD (16 + x.val) = true ∨
                ∃ (limit : Nat) (code : Code), (byteOf x.val, limit) ∈ pairs ∧ s.monitor.samples[x] = some code ∧
                  max 1 (min limit 4096) ≤ code.val) ∧
            ∀ i : Nat, i < 16 ∨ 24 ≤ i → u.agent.sticky.getLsbD i = (s.consumed seq).agent.sticky.getLsbD i)

/-- O40 (R123, R149, R150, R152, R175, R176). FORGET RETIRED is answered LOCKED while the policy is locked, else NOT_PRESENT
when no entry holds the serial; else the entries of the serial leave the list, the others keep order, numbers and positions,
an empty record at its position is asked for, and the reply is OK. PROVISION KEY of a key that is not all zero is answered
LOCKED while a key is PRESENT and BUSY while one is PROVISIONING; with the state ABSENT, the write is taken and the state
becomes PROVISIONING, answered PENDING, or, with 16 other writes queued, STORE_OVERFLOW is raised and the reply is BUSY. A
key of all zeros is answered BAD_ARGUMENT. Refusals change nothing but as said. -/
def Obligations.StoredRecordRequests : Prop :=
  ∀ (tag shape seq count : Byte) (s : State),
    (∀ serial : Serial, RequestNext 0x15 tag (beBytes 8 serial.toNat) shape seq count s →
      (s.policy.locked = true →
        exec .forgetRetired s = .next ((s.consumed seq).replied tag 0x15 .locked [])) ∧
      (s.policy.locked = false → (∀ e ∈ s.refill.retired, e.content.serial ≠ serial) →
        exec .forgetRetired s = .next ((s.consumed seq).replied tag 0x15 .notPresent [])) ∧
      ∀ (e : RetiredEntry) (before after : List RetiredEntry), s.policy.locked = false →
        s.refill.retired = before ++ e :: after → e.content.serial = serial →
        (∀ f ∈ before, f.content.serial ≠ serial) →
        exec .forgetRetired s = .next (State.replied tag 0x15 .ok [] (commit (.retired e.position none)
          { s.consumed seq with
              refill := { s.refill with
                retired := s.refill.retired.filter fun f => decide (f.content.serial ≠ serial) } }))) ∧
    ∀ key : RootKey, RequestNext 0x16 tag (beBytes 32 key.toNat) shape seq count s →
      (key = 0 → exec .provisionKey s = .next ((s.consumed seq).replied tag 0x16 .badArgument [])) ∧
      (key ≠ 0 → s.keyPresent = true → exec .provisionKey s = .next ((s.consumed seq).replied tag 0x16 .locked [])) ∧
      (key ≠ 0 → s.key = .provisioning → exec .provisionKey s = .next ((s.consumed seq).replied tag 0x16 .busy [])) ∧
      (key ≠ 0 → s.key = .absent → s.store.program = none → s.store.commitQueue = [] →
        exec .provisionKey s = .next (State.replied tag 0x16 .pending []
          { s.consumed seq with
              key := .provisioning,
              store := { s.store with program := some { write := .key key, attempt := 1 } } })) ∧
      (key ≠ 0 → s.key = .absent → s.store.program ≠ none → s.store.commitQueue.length < 16 →
        (∀ w ∈ s.store.commitQueue, w.pos ≠ .key) →
        exec .provisionKey s = .next (State.replied tag 0x16 .pending []
          { s.consumed seq with
              key := .provisioning, store := { s.store with commitQueue := s.store.commitQueue ++ [.key key] } })) ∧
      (key ≠ 0 → s.key = .absent → 16 ≤ s.store.commitQueue.length → (∀ w ∈ s.store.commitQueue, w.pos ≠ .key) →
        exec .provisionKey s = .next (State.replied tag 0x16 .busy []
          { s.consumed seq with
              agent := { (s.consumed seq).agent with
                sticky := (s.consumed seq).agent.sticky ||| Condition.mask .storeOverflow } }))

/-- O41 (R185, R196). For any list of field widths and any choice of values that fit them, the selection bits and the value
bytes in selection order, most significant byte first, are read back as exactly those values, each field not selected
staying unselected; and a selection with a byte too many or too few is not read at all. It holds for the fields of WRITE
LANE, WRITE SLOT CONFIG and WRITE POLICY at every value their widths admit. -/
def Obligations.SelectionRoundTrip : Prop :=
  ∀ (widths : List Nat) (v : List (Option Nat)) (bytes : List Byte), SelectionFits widths v →
    selectedValues widths 0 (selectionBits v) (selectionBytes widths v) = some v ∧
    (bytes.length ≠ (selectionBytes widths v).length → selectedValues widths 0 (selectionBits v) bytes = none)

/-- O42 (R62, R63, R69, R71, R190). CONVERSION_COMPLETE with a conversion in flight, on a working part outside RESUME_PENDING:
the latest sample of the converted input becomes the code, the position moves on by one modulo the depth when the origin is
SEQUENCE with its advancing flag set and stays otherwise, the converter is free, and OVERTEMP of the input is raised when
the code is at or above its limit. Nothing else changes. -/
def Obligations.ConversionComplete : Prop :=
  ∀ (code : Code) (cv : Conversion) (s : State), s.alive = true → s.monitor.conversion = some cv →
    s.port.stream ≠ .resumePending →
    exec (.conversionComplete code) s = .next
      { s with
          monitor := { s.monitor with
            samples := s.monitor.samples.set cv.input (some code),
            position :=
              if cv.origin = .sequence true then (s.monitor.position + 1) % s.monitor.sequence.length else s.monitor.position,
            conversion := none },
          agent := { s.agent with
            sticky := s.agent.sticky |||
              (if s.monitor.limits[cv.input] ≤ code.val then Condition.mask (.overtemp cv.input) else 0) } }

/-- O43 (R76, R77, R80, R88, R95, R103, R105). A change of a seat input's level starts the debounce timer of 50 ms afresh and
does nothing else. When the timer expires with the level at the debounced state, the timer alone stops; during RESTORING the
debounced state takes the level and nothing else happens. When an insertion event falls at an idle slot in NO_CARTRIDGE with
its supply OFF, outside RESUME_PENDING, the binding state becomes PENDING_ID, the record takes its starting values, and an
AUTO BIND becomes current and waits for the supply, which begins to settle. -/
def Obligations.SeatInput : Prop :=
  ∀ (n : Slot) (s : State), s.alive = true →
    (∀ level : Bool,
      exec (.seatChange n level) s = .next
        (if (s.slot n).rawSeat = (if level then Seat.seated else Seat.empty) then s
        else s.setSlot n
          { s.slot n with rawSeat := if level then Seat.seated else Seat.empty, debounce := some 50 })) ∧
    ((s.slot n).debounce ≠ none → (s.slot n).rawSeat = (s.slot n).seat →
      exec (.debounceExpiry n) s = .next (s.setSlot n { s.slot n with debounce := none })) ∧
    ((s.slot n).debounce ≠ none → s.restoring = true →
      exec (.debounceExpiry n) s = .next (s.setSlot n { s.slot n with debounce := none, seat := (s.slot n).rawSeat })) ∧
    ((s.slot n).debounce ≠ none → s.restoring = false → (s.slot n).seat = .empty → (s.slot n).rawSeat = .seated →
      (s.slot n).bindingState = .noCartridge → (s.slot n).current = none → (s.slot n).queue = [] →
      (s.slot n).supply = .off → s.port.stream ≠ .resumePending →
      exec (.debounceExpiry n) s = .next (s.setSlot n (waitsFor .bind .auto
        { s.slot n with
            debounce := none, seat := .seated, bindingState := .pendingId, record := .starting })))

/-- O44 (R56, R78, R79, R114, R145, R146, R148, R152, R175). A removal event at a slot with a binding, with sound slots and
outside RESUME_PENDING: the supply goes OFF with its timers stopped, attempt, operation and queue are gone without a result,
alert REMOVED is merged, and the slot is NO_CARTRIDGE without a record. Where the binding has U_bind and is neither FAILED
nor RELEASED, checkpoint record n takes serial, generation, last_written and U_est, and the binding joins the retired list:
as REFILL when REGRESSION or RETIRED_MATCH has tripped, else as EMPTIED when U_est is at or above C, else not. The commits
of both records are asked for from the store, and a full commit queue raises its condition. In every other case records and
store stay. Other slots, lanes, Condition Monitor, policy, key and Swath Port do not change. -/
def Obligations.Removal : Prop :=
  ∀ (n : Slot) (c : SlotContext) (s : State), SlotsWf s → s.alive = true → s.restoring = false →
    s.port.stream ≠ .resumePending → c = s.slot n → c.debounce ≠ none → c.seat = .seated → c.rawSeat = .empty →
    c.bindingState ≠ .noCartridge →
    ∃ t, exec (.debounceExpiry n) s = .next t ∧
      t.slot n = mergeStatus s.policy.allowance none 0 0x0001
        { c with
            seat := .empty, debounce := none, supply := .off, settleTimer := none, idleTimer := none, attempt := none,
            current := none, queue := [], bindingState := .noCartridge, record := .starting } ∧
      (∀ m : Slot, m ≠ n → t.slot m = s.slot m) ∧ t.lanes = s.lanes ∧ t.monitor = s.monitor ∧ t.policy = s.policy ∧
      t.key = s.key ∧ t.port = s.port ∧
      t.refill = (s.bindingEnds n c).refill ∧ t.store = (s.bindingEnds n c).store ∧ t.agent = (s.bindingEnds n c).agent ∧
      (c.bindingState = .failed ∨ c.bindingState = .released ∨ c.record.uBind = none →
        t.refill = s.refill ∧ t.store = s.store) ∧
      ∀ (i : Identity) (u lw U : Nat) (content : RetiredReason → RetiredContent), c.bindingState ≠ .failed →
        c.bindingState ≠ .released → c.record.identity = some i → c.record.uBind = some u → c.record.lastWritten = some lw →
        U = min (u + c.record.metered) 4294967295 →
        (∀ reason, content reason =
          { serial := i.serial, generation := i.generation, finalCount := U, reason := reason,
            sequence := s.refill.nextSeq }) →
        t.refill.checkpoints = s.refill.checkpoints.set n
          (some { serial := i.serial, generation := i.generation, acknowledged := lw, estimate := U }) ∧
        (c.record.evidence.regression.tripped = true ∨ c.record.evidence.retiredMatch.tripped = true →
          t.refill.retired = (placeRetired (content .refill) s.refill.retired).1 ∧
          t.refill.nextSeq = min (s.refill.nextSeq + 1) 4294967295) ∧
        (c.record.evidence.regression.tripped = false → c.record.evidence.retiredMatch.tripped = false →
          (i.capacity ≤ U → t.refill.retired = (placeRetired (content .emptied) s.refill.retired).1 ∧
            t.refill.nextSeq = min (s.refill.nextSeq + 1) 4294967295) ∧
          (U < i.capacity → t.refill.retired = s.refill.retired ∧ t.refill.nextSeq = s.refill.nextSeq))

/-- O45 (R80, R81, R82, R83, R84, R85, R109, R130, R197). When the settle timer expires the supply becomes ON. With no operation
the idle timer starts, or stays stopped for a delay of 0. A waiting operation starts attempt 1 of its transaction with the
slot's bus timeout: IDENT sends its code 5Ah, CHALLENGE 6Bh and a fresh nonce, one that no attempt in flight carries and
none that failed (log entry 4), ADVANCE 7Ch and as target U_est at this moment, which it keeps; each request ends in its
CRC-8. When the idle timer expires with the supply ON, the supply goes OFF. Nothing else changes. -/
def Obligations.SupplyTimers : Prop :=
  ∀ (n : Slot) (c on : SlotContext) (s : State), s.alive = true → c = s.slot n →
    on = { c with supply := .poweredOn, settleTimer := none, idleTimer := none } →
    (c.supply = .settling → c.settleTimer ≠ none →
      (c.current = none →
        exec (.settleTimerExpiry n) s = .next (s.setSlot n
          { on with idleTimer := if c.config.idle = 0 then none else some (c.config.idle * 100) })) ∧
      ∀ op : CurrentOp, c.current = some op →
        (op.step = .ident →
          exec (.settleTimerExpiry n) s = .next (s.setSlot n
            { on with
              attempt := some
                { number := 1, nonce := none, request := [0x5A, crc8 [0x5A]], timer := c.config.timeout } })) ∧
        (op.step = .challenge →
          exec (.settleTimerExpiry n) s = .next
            { s.setSlot n
                { on with
                  attempt := some
                    { number := 1, nonce := some s.freshNonce,
                      request := withCrc8 (0x6B :: beBytes 16 s.freshNonce.toNat),
                      timer := c.config.timeout } } with
              nonceCount := s.nonceCount + 1 }) ∧
        ∀ u U : Nat, op.step = .advance → c.record.uBind = some u → U = min (u + c.record.metered) 4294967295 →
          exec (.settleTimerExpiry n) s = .next (s.setSlot n
            { on with
                current := some { op with target := some U },
                attempt := some
                  { number := 1, nonce := none, request := withCrc8 (0x7C :: beBytes 4 U), timer := c.config.timeout } })) ∧
    (c.supply = .poweredOn → c.idleTimer ≠ none →
      exec (.idleTimerExpiry n) s = .next (s.setSlot n
        { c with supply := .off, settleTimer := none, idleTimer := none }))

/-- O46 (R80, R85, R89, R99, R103, R104, R105, R106, R107, R113, R130, R197). A good IDENT response ends the attempt and is
judged in this order: a format other than 1, a capacity of 0 in bits 30 to 0 or an ink type of 0 fails the binding
BAD_IDENTITY with no identity set; otherwise the four identity fields are set, and an ink type other than an expected one
that is not 0 fails it WRONG_INK, a serial that another slot's binding holds fails it DUPLICATE, want of a key leaves it
UNVERIFIED with alert KEY_ABSENT. Each of these ends the operation, and the next queue entry becomes current. With a key the
binding is PENDING_AUTH and the first CHALLENGE attempt starts with a fresh nonce (log entry 4), or, with a halt pending,
the operation ends HALTED. Other slots do not change. The next queue entry becomes current so: with an operation current or
an empty queue nothing happens; else the oldest entry leaves the queue and its state condition is tested again. Where it
fails, the entry ends STALE, with its primary when REQUESTED, the slot is left as it was otherwise, and the next entry is
taken in the same way. Where it holds, the operation becomes current and waits for the supply, or starts its first attempt
with the supply ON (a CHALLENGE with a fresh nonce: log entry 4). A VERIFY with no key ends UNVERIFIED with alert KEY_ABSENT
and units since verify 0 (DEDUCED, log entry 26), a RELEASE (REQUESTED, as every RELEASE is) of a binding that is not
VERIFIED ends it RELEASED (the record kept: DEDUCED, log entry 15; without identity: log entry 31), and then too the next
entry is taken. The RELEASE and the becoming current are stated for a sound binding. -/
def Obligations.IdentityJudged : Prop :=
  (∀ (n : Slot) (op : CurrentOp) (a : Attempt) (serial : Serial) (ink generation format : Byte) (capacity : Nat)
    (response : List Byte) (i : Identity) (c : SlotContext) (s : State), AttemptRuns n op a s → op.step = .ident →
    capacity < 4294967296 → response = identResponse serial ink capacity generation format →
    i = { serial := serial, inkType := ink.toNat, capacity := capacity % 2147483648, generation := generation.toNat } →
    c = attemptOver (s.slot n) →
    ∀ bad wrong held : Prop, (bad ↔ format ≠ 1 ∨ i.capacity = 0 ∨ ink = 0) →
      (wrong ↔ c.config.inkType ≠ 0 ∧ c.config.inkType ≠ i.inkType) →
      (held ↔ ∃ m : Slot, m ≠ n ∧ holdsSerial (s.slot m) serial) →
      (bad →
        exec (.cartridgeResponse n response) s = .next (pump n (s.setSlot n
          (mergeStatus s.policy.allowance (primaryOf op .failed (some .badIdentity)) 0 0x0010
            { c with
                current := none, bindingState := .failed,
                record := { c.record with failure := some .badIdentity } })))) ∧
      (¬bad → wrong →
        exec (.cartridgeResponse n response) s = .next (pump n (s.setSlot n
          (mergeStatus s.policy.allowance (primaryOf op .failed (some .wrongInk)) 0 0x0008
            { c with
                current := none, bindingState := .failed,
                record := { c.record with identity := some i, failure := some .wrongInk } })))) ∧
      (¬bad → ¬wrong → held →
        exec (.cartridgeResponse n response) s = .next (pump n (s.setSlot n
          (mergeStatus s.policy.allowance (primaryOf op .failed (some .duplicate)) 0 0x0004
            { c with
                current := none, bindingState := .failed,
                record := { c.record with identity := some i, failure := some .duplicate } })))) ∧
      (¬bad → ¬wrong → ¬held → s.keyPresent = false →
        exec (.cartridgeResponse n response) s = .next (pump n (s.setSlot n
          (mergeStatus s.policy.allowance (primaryOf op .unverified none) 0 0x0100
            { c with
                current := none, bindingState := .unverified,
                record := { c.record with identity := some i, failure := none } })))) ∧
      (¬bad → ¬wrong → ¬held → s.keyPresent = true → op.haltPending = true →
        exec (.cartridgeResponse n response) s = .next (pump n (s.setSlot n
          (mergeStatus s.policy.allowance (primaryOf op .halted none) 0 0
            { c with
                current := none, bindingState := .pendingAuth,
                record := { c.record with identity := some i, failure := none } })))) ∧
      (¬bad → ¬wrong → ¬held → s.keyPresent = true → op.haltPending = false → c.supply = .poweredOn →
        exec (.cartridgeResponse n response) s = .next
          { s.setSlot n
              { c with
                  current := some { op with step := .challenge }, bindingState := .pendingAuth, idleTimer := none,
                  record := { c.record with identity := some i, failure := none },
                  attempt := some
                    { number := 1, nonce := some (s.setSlot n c).freshNonce,
                      request := withCrc8 (0x6B :: beBytes 16 (s.setSlot n c).freshNonce.toNat),
                      timer := c.config.timeout } } with
            nonceCount := s.nonceCount + 1 })) ∧
  (∀ (n : Slot) (s : State), (s.slot n).current ≠ none ∨ (s.slot n).queue = [] → pump n s = s) ∧
  ∀ (n : Slot) (e : QueueEntry) (rest : List QueueEntry) (c : SlotContext) (s : State), (s.slot n).current = none →
    (s.slot n).queue = e :: rest → c = { s.slot n with queue := rest } →
    (¬MeetsCondition e.kind c →
      pump n s = pump n (s.setSlot n
        (mergeStatus s.policy.allowance (primaryOf (newOp e.kind e.origin) .stale none) 0 0 c))) ∧
    (MeetsCondition e.kind c → BindingWf c → (e.kind = .verify → s.keyPresent = true) →
      (e.kind = .release → c.bindingState = .verified) → pump n s = (s.setSlot n c).begins n e.kind e.origin) ∧
    (MeetsCondition e.kind c → e.kind = .verify → s.keyPresent = false →
      pump n s = pump n (s.setSlot n
        (mergeStatus s.policy.allowance (primaryOf (newOp e.kind e.origin) .unverified none) 0 0x0100
          { c with record := { c.record with sinceVerify := 0 } }))) ∧
    (MeetsCondition e.kind c → BindingWf c → e.kind = .release → e.origin = .requested → c.bindingState ≠ .verified →
      pump n s = pump n ((s.bindingEnds n c).setSlot n
        (mergeStatus s.policy.allowance (primaryOf (newOp .release .requested) .released none) 0 0
          { c with
              supply := .off, settleTimer := none, idleTimer := none, bindingState := .released, record := keptRecord c })))

/-- O47 (R50, R51, R107, R108, R129, R131, R132, R133, R140, R141, R142, R149). A good CHALLENGE response is judged by the keyed
digest of nonce, bound serial, used count and generation under the cartridge key. Where its tag differs, the binding is
FAILED (AUTH), nothing else of its record changes, the operation ends FAILED with alert AUTH_FAILED, and the next entry
becomes current (as O46 states). Where it matches and U_bind is absent or the operation is a BIND, the binding becomes
VERIFIED once and for all, its generation is the proved one, U_bind is the greater of the report and the greatest matching
estimate, last_written the greater of the report and the greatest matching acknowledged count, REGRESSION counts 1 for a
report below that count or an ahead record, RETIRED_MATCH becomes 1 for a refilled retired cartridge, an authorised refill
is forgotten, and BOUND or VERIFIED is placed. Its marks are judged at the estimate that U_bind then gives, without an
event, and OVERDRAW takes the overdraw, with REFILL_SUSPECT at its first trip. -/
def Obligations.TagComparison : Prop :=
  ∀ (n : Slot) (op : CurrentOp) (a : Attempt) (root : RootKey) (nonce : Nonce) (i : Identity) (used : Nat)
    (generation : Byte) (g : Nat) (tag : List Byte) (c : SlotContext) (s : State), AttemptRuns n op a s →
    op.step = .challenge → s.key = .present root → a.nonce = some nonce → c = s.slot n → c.record.identity = some i →
    used < 4294967296 → g = generation.toNat → tag.length = 16 →
    ∀ expected : List Byte,
      expected = keyedDigest (keyedDigest (beBytes 32 root.toNat) (beBytes 8 i.serial.toNat))
        (beBytes 16 nonce.toNat ++ beBytes 8 i.serial.toNat ++ beBytes 4 used ++ [generation]) →
      (tag ≠ expected →
        exec (.cartridgeResponse n (challengeResponse used generation tag)) s = .next (pump n (s.setSlot n
          (mergeStatus s.policy.allowance (primaryOf op .failed (some .auth)) 0 0x0002
            { attemptOver c with
                current := none, bindingState := .failed, record := { c.record with failure := some .auth } })))) ∧
      (tag = expected → op.kind = .bind ∨ c.record.uBind = none → RetiredWf s.refill →
        ∃ t c', exec (.cartridgeResponse n (challengeResponse used generation tag)) s = .next t ∧ c' = t.slot n ∧
          (∀ m : Slot, m ≠ n → t.slot m = s.slot m) ∧ c'.bindingState = .verified ∧ c'.record.verifiedOnce = true ∧
          c'.record.identity = some { i with generation := g } ∧
          c'.record.uBind = some (max used (greatestOf (·.estimate) i.serial g s)) ∧
          c'.record.lastWritten = some (max used (greatestOf (·.acknowledged) i.serial g s)) ∧
          c'.record.metered = c.record.metered ∧ c'.record.residue = c.record.residue ∧
          (used < greatestOf (·.acknowledged) i.serial g s ∨ AheadRecord i.serial g s →
            c'.record.evidence.regression.raw = min (c.record.evidence.regression.raw + 1) 65535 ∧
            (c.record.evidence.regression.tripped = false → (alertsOf c').getLsbD 7 = true)) ∧
          (¬(used < greatestOf (·.acknowledged) i.serial g s ∨ AheadRecord i.serial g s) →
            c'.record.evidence.regression = c.record.evidence.regression) ∧
          ((∃ e ∈ s.refill.retired, e.content.serial = i.serial ∧
              (g < e.content.generation ∨ (g = e.content.generation ∧ used < e.content.finalCount))) →
            c'.record.evidence.retiredMatch.raw = 1 ∧ c'.record.evidence.retiredMatch.tripped = true) ∧
          ((∀ e ∈ s.refill.retired, e.content.serial = i.serial →
              e.content.generation < g ∨ (g = e.content.generation ∧ e.content.finalCount ≤ used)) →
            c'.record.evidence.retiredMatch = c.record.evidence.retiredMatch) ∧
          t.refill.retired = s.refill.retired.filter
            (fun e => decide (e.content.serial ≠ i.serial ∨ g ≤ e.content.generation)) ∧
          t.refill.checkpoints = s.refill.checkpoints ∧
          (eventsOf c').getLsbD (if op.kind = .bind then 0 else 1) = true ∧
          ∀ U : Nat, U = min (max used (greatestOf (·.estimate) i.serial g s) + c.record.metered) 4294967295 →
            SameMarks (judgedAt c.config i.capacity U c.record) c'.record ∧
            (∀ k, 2 ≤ k → k ≤ 4 → (eventsOf c').getLsbD k = (eventsOf c).getLsbD k) ∧
            (alertsOf c').getLsbD 6 = ((alertsOf c).getLsbD 6 || decide (suspectAt c.config i.capacity U c.record ≠ 0)))

/-- O48 (R50, R51, R108, R131, R132, R139, R143). A good CHALLENGE response of a VERIFY with a matching tag at a binding with
U_bind makes the binding VERIFIED and places the event VERIFIED. A report of another generation, or below last_written, adds
1 to REGRESSION and leaves U_bind and last_written; one from last_written to U_est becomes last_written; one above U_est
raises U_bind by the difference and becomes last_written, and both leave REGRESSION. Where U_bind is raised, the marks are
judged at the new estimate without an event and OVERDRAW takes the overdraw, with REFILL_SUSPECT at its first trip; else
marks and OVERDRAW stay. The identity, the checkpoint table and the retired list do not change, nor do other slots. -/
def Obligations.VerifyEvaluation : Prop :=
  ∀ (n : Slot) (op : CurrentOp) (a : Attempt) (root : RootKey) (nonce : Nonce) (i : Identity) (used u lw U : Nat)
    (generation : Byte) (c : SlotContext) (s : State), AttemptRuns n op a s → op.kind = .verify → op.step = .challenge →
    s.key = .present root → a.nonce = some nonce → c = s.slot n → c.record.identity = some i → c.record.uBind = some u →
    c.record.lastWritten = some lw → U = min (u + c.record.metered) 4294967295 → used < 4294967296 →
    ∃ t c', exec (.cartridgeResponse n (challengeResponse used generation
        (keyedDigest (keyedDigest (beBytes 32 root.toNat) (beBytes 8 i.serial.toNat))
          (beBytes 16 nonce.toNat ++ beBytes 8 i.serial.toNat ++ beBytes 4 used ++ [generation])))) s = .next t ∧
      c' = t.slot n ∧ (∀ m : Slot, m ≠ n → t.slot m = s.slot m) ∧ c'.bindingState = .verified ∧
      c'.record.verifiedOnce = true ∧ (eventsOf c').getLsbD 1 = true ∧ c'.record.identity = some i ∧
      t.refill = s.refill ∧ (∀ k, 2 ≤ k → k ≤ 4 → (eventsOf c').getLsbD k = (eventsOf c).getLsbD k) ∧
      (generation.toNat ≠ i.generation ∨ used ≤ U →
        SameMarks c.record c'.record ∧ (alertsOf c').getLsbD 6 = (alertsOf c).getLsbD 6) ∧
      (generation.toNat ≠ i.generation ∨ used < lw →
        c'.record.uBind = some u ∧ c'.record.lastWritten = some lw ∧
        c'.record.evidence.regression.raw = min (c.record.evidence.regression.raw + 1) 65535 ∧
        c'.record.evidence.regression.tripped = true) ∧
      (generation.toNat = i.generation → lw ≤ used → used ≤ U →
        c'.record.uBind = some u ∧ c'.record.lastWritten = some used ∧
        c'.record.evidence.regression = c.record.evidence.regression) ∧
      (generation.toNat = i.generation → lw ≤ used → U < used →
        c'.record.uBind = some (u + (used - U)) ∧ c'.record.lastWritten = some used ∧
        c'.record.evidence.regression = c.record.evidence.regression ∧
        ∀ V : Nat, V = min (u + (used - U) + c.record.metered) 4294967295 →
          SameMarks (judgedAt c.config i.capacity V c.record) c'.record ∧
          (alertsOf c').getLsbD 6 = ((alertsOf c).getLsbD 6 || decide (suspectAt c.config i.capacity V c.record ≠ 0)))

/-- O49 (R50, R51, R109, R110, R113, R135, R138, R144, R145, R146, R148, R152). A good ADVANCE response v against the captured
target T at a VERIFIED binding. At or above T: last_written becomes v, U_bind is raised when v exceeds U_est, with the marks
then judged without an event and OVERDRAW taking the overdraw, ADVANCE_REFUSED raw becomes 0, and checkpoint n takes v and
U_est. Below T: ADVANCE_REFUSED counts 1 and trips at 3, REGRESSION counts 1 too when v is below last_written, and U_bind,
last_written, marks and checkpoints stay. A WRITE_BACK leaves the binding VERIFIED and a REQUESTED one places WRITTEN or
SHORT. A RELEASE with no halt pending ends the binding: RELEASED, the supply OFF, checkpoint n at the final values, and its
retired entry or none; with a halt pending the binding stays VERIFIED. The record is not claimed for a RELEASE behind which
a BIND waits, which replaces the binding. Each checkpoint and retired entry has its commit asked for. Other slots do not
change. That the evidence attributes stand in the kept record of a RELEASED binding is the model's reading of R146, step 3
(DEDUCED, log entry 15). -/
def Obligations.AdvanceEvaluation : Prop :=
  ∀ (n : Slot) (op : CurrentOp) (a : Attempt) (i : Identity) (v T u lw U : Nat) (k : Checkpoint) (c : SlotContext) (s : State),
    AttemptRuns n op a s → op.step = .advance → op.target = some T → c = s.slot n → c.bindingState = .verified →
    c.record.identity = some i → c.record.uBind = some u → c.record.lastWritten = some lw →
    U = min (u + c.record.metered) 4294967295 → v < 4294967296 →
    k = { serial := i.serial, generation := i.generation, acknowledged := v, estimate := max U v } →
    ∃ t c', exec (.cartridgeResponse n (advanceResponse v)) s = .next t ∧ c' = t.slot n ∧
      (∀ m : Slot, m ≠ n → t.slot m = s.slot m) ∧
      (op.kind = .writeBack ∨ op.haltPending = true ∨ isQueued .bind c.queue = false →
        c'.record.identity = some i ∧ c'.record.metered = c.record.metered ∧
        c'.record.evidence.retiredMatch = c.record.evidence.retiredMatch ∧
        (∀ b, 2 ≤ b → b ≤ 4 → (eventsOf c').getLsbD b = (eventsOf c).getLsbD b) ∧
        (T ≤ v →
          c'.record.evidence.advanceRefused.raw = 0 ∧ c'.record.lastWritten = some v ∧
          c'.record.uBind = some (if U < v then u + (v - U) else u) ∧
          c'.record.evidence.regression = c.record.evidence.regression ∧
          (v ≤ U → SameMarks c.record c'.record ∧ (alertsOf c').getLsbD 6 = (alertsOf c).getLsbD 6) ∧
          (U < v → SameMarks (judgedAt c.config i.capacity v c.record) c'.record ∧
            (alertsOf c').getLsbD 6 = ((alertsOf c).getLsbD 6 || decide (suspectAt c.config i.capacity v c.record ≠ 0)))) ∧
        (v < T →
          c'.record.evidence.advanceRefused.raw = min (c.record.evidence.advanceRefused.raw + 1) 65535 ∧
          (c'.record.evidence.advanceRefused.tripped = true ↔
            c.record.evidence.advanceRefused.tripped = true ∨ 2 ≤ c.record.evidence.advanceRefused.raw) ∧
          c'.record.evidence.regression.raw =
            (if v < lw then min (c.record.evidence.regression.raw + 1) 65535 else c.record.evidence.regression.raw) ∧
          (c'.record.evidence.regression.tripped = true ↔ c.record.evidence.regression.tripped = true ∨ v < lw) ∧
          c'.record.lastWritten = some lw ∧ c'.record.uBind = some u ∧ SameMarks c.record c'.record ∧
          ((alertsOf c').getLsbD 6 = ((alertsOf c).getLsbD 6 ||
            (!c.record.evidence.advanceRefused.tripped && decide (2 ≤ c.record.evidence.advanceRefused.raw)))) ∧
          (alertsOf c').getLsbD 7 =
            ((alertsOf c).getLsbD 7 || (!c.record.evidence.regression.tripped && decide (v < lw))))) ∧
      (op.kind = .writeBack ∨ op.haltPending = true → c'.bindingState = .verified ∧
        ∀ w : State, w = (if T ≤ v then s.checkpointed n k else s) →
          t.refill = w.refill ∧ t.store = w.store ∧ t.agent = w.agent) ∧
      (op.kind = .writeBack → op.origin = .requested → c.queue = [] →
        c'.status.bind (·.primary) = some
          { kind := some .writeBack, result := if T ≤ v then .written else .short, reason := none, nothingActive := false } ∧
        c'.current = none) ∧
      (op.kind = .release → op.haltPending = false →
        t.refill.checkpoints = s.refill.checkpoints.set n
          (some { serial := i.serial, generation := i.generation, acknowledged := if T ≤ v then v else lw,
                  estimate := if T ≤ v then max U v else U })) ∧
      (op.kind = .release → op.haltPending = false → isQueued .bind c.queue = false →
        c'.bindingState = .released ∧ c'.supply = .off ∧ c'.attempt = none ∧ c'.current = none ∧ c'.queue = [] ∧
        ∀ w : State, w = (if T ≤ v then s.checkpointed n k else s).traceOf n c'.record →
          t.refill = w.refill ∧ t.store = w.store ∧ t.agent = w.agent)

/-- O50 (R80, R83, R84, R86, R87, R104, R109, R130, R197). An attempt fails by its timer before a full response has arrived, or
by a response of the transaction's length with a wrong code or CRC-8; the failed-attempt count grows by 1, held at 2^32 - 1.
After the first or second the next attempt starts at once: IDENT with the same request, CHALLENGE with a fresh nonce, the
failed attempt's being spent (log entry 4), ADVANCE with the same target. After the third the operation ends LINK with its
primary when REQUESTED, the queue is emptied, the binding is LINK_LOST and alert LINK_LOST is merged; supply and record
stay. Nothing else changes. -/
def Obligations.FailedAttempts : Prop :=
  ∀ (n : Slot) (op : CurrentOp) (a : Attempt) (event : Instr) (c : SlotContext) (s w : State), AttemptRuns n op a s →
    ((∃ received : Nat, received < op.step.responseLength ∧ event = .attemptTimeout n received) ∨
      ∃ response : List Byte, response.length = op.step.responseLength ∧ event = .cartridgeResponse n response ∧
        (byteAt response 0 ≠ op.step.code ∨
          crc8 (response.take (response.length - 1)) ≠ byteAt response (response.length - 1))) →
    c = { s.slot n with failedAttempts := min ((s.slot n).failedAttempts + 1) 4294967295, idleTimer := none } →
    w = { s.setSlot n { c with attempt := none } with spentNonces := a.nonce.toList ++ s.spentNonces } →
    (a.number < 3 → op.step = .ident →
      exec event s = .next (w.setSlot n
        { c with
          attempt := some
            { number := a.number + 1, nonce := none, request := [0x5A, crc8 [0x5A]], timer := c.config.timeout } })) ∧
    (a.number < 3 → op.step = .challenge →
      exec event s = .next
        { w.setSlot n
            { c with
              attempt := some
                { number := a.number + 1, nonce := some w.freshNonce,
                  request := withCrc8 (0x6B :: beBytes 16 w.freshNonce.toNat),
                  timer := c.config.timeout } } with
          nonceCount := s.nonceCount + 1 }) ∧
    (∀ T : Nat, 1 ≤ a.number → a.number < 3 → op.step = .advance → op.target = some T →
      exec event s = .next (w.setSlot n
        { c with
          attempt := some
            { number := a.number + 1, nonce := none, request := withCrc8 (0x7C :: beBytes 4 T),
              timer := c.config.timeout } })) ∧
    (3 ≤ a.number →
      exec event s = .next (w.setSlot n (mergeStatus s.policy.allowance (primaryOf op .link none) 0 0x0020
        { attemptOver c with
            queue := [], current := none, bindingState := .linkLost, record := { c.record with failure := none } })))

/-- O51 (R99, R100, R101, R103, R122, R124, R125, R173, R175, R176, R177, R181). With a sound store: a write to a queued
position takes the queued write's place; one to another position joins as the newest below 16, begins its program at once
when none is in flight, and with 16 queued is dropped with STORE_OVERFLOW. A passing verify makes the position VALID with
its content and begins the next program, RESET_N asserted or not. A committed key makes the key state PRESENT, with RESET_N
released and outside RESUME_PENDING, and asks each UNVERIFIED slot for an AUTO VERIFY, with sound slots in the order of the
slots (log entry 13): behind a current operation it joins the queue or merges, at an idle slot it waits for a supply that is
OFF or SETTLING or starts its first attempt with the supply ON (a fresh nonce: log entry 4), and it is dropped with a
RELEASE queued or current. While RESET_N is asserted the commit is held for the release (a flag of the model: log entry 27)
and the key state stays. A failing verify is tried again once; the second leaves the position INVALID, returns a key under
way to ABSENT and begins the next program, and raises STORE_WRITE_FAIL or, while RESET_N is asserted, sets the held failure
flag. Nothing else changes. -/
def Obligations.CommitQueueAndPrograms : Prop :=
  (∀ (w : Write) (s : State), StoreWf s.store → s.resetAsserted = false →
    ((∃ x ∈ s.store.commitQueue, x.pos = w.pos) →
      requestWrite w s = (true, { s with
        store := { s.store with commitQueue := s.store.commitQueue.map fun x => if x.pos = w.pos then w else x } })) ∧
    ((∀ x ∈ s.store.commitQueue, x.pos ≠ w.pos) → s.store.program = none →
      requestWrite w s = (true, { s with store := { s.store with program := some { write := w, attempt := 1 } } })) ∧
    ((∀ x ∈ s.store.commitQueue, x.pos ≠ w.pos) → s.store.program ≠ none → s.store.commitQueue.length < 16 →
      requestWrite w s = (true, { s with store := { s.store with commitQueue := s.store.commitQueue ++ [w] } })) ∧
    ((∀ x ∈ s.store.commitQueue, x.pos ≠ w.pos) → s.store.commitQueue.length = 16 →
      requestWrite w s = (false, { s with
        agent := { s.agent with sticky := s.agent.sticky ||| Condition.mask .storeOverflow } }))) ∧
  ∀ (p : Program) (next : RecordStore → RecordStore) (s : State), s.store.program = some p →
    (∀ st, next st = { st with
      program := s.store.commitQueue.head?.map (fun w => { write := w, attempt := 1 }),
      commitQueue := s.store.commitQueue.tail }) →
    (∀ k content, p.write = .checkpoint k content →
      exec (.programVerify true) s = .next { s with
        store := next { s.store with checkpointForms := s.store.checkpointForms.set k (.valid content) } }) ∧
    (∀ r content, p.write = .retired r content →
      exec (.programVerify true) s = .next { s with
        store := next { s.store with retiredForms := s.store.retiredForms.set r (.valid content) } }) ∧
    (∀ k : RootKey, p.write = .key k → s.resetAsserted = true →
      exec (.programVerify true) s = .next { s with
        keyCommitHeld := true, store := next { s.store with keyForm := .valid k } }) ∧
    (∀ k : RootKey, p.write = .key k → s.resetAsserted = false → s.port.stream ≠ .resumePending →
      ∃ t, exec (.programVerify true) s = .next t ∧ t.key = .present k ∧
        t.store = next { s.store with keyForm := .valid k } ∧ t.port = s.port ∧ t.policy = s.policy ∧
        t.refill = s.refill ∧ t.agent = s.agent ∧
        ∀ n : Slot,
          ((s.slot n).bindingState ≠ .unverified → t.slot n = s.slot n) ∧
          ((s.slot n).bindingState = .unverified → (s.slot n).record.identity ≠ none → (s.slot n).current = none →
            (s.slot n).queue = [] → (s.slot n).supply = .off →
            t.slot n = waitsFor .verify .auto
              { s.slot n with record := { (s.slot n).record with sinceVerify := 0 } })) ∧
    (∀ k : RootKey, p.write = .key k → s.resetAsserted = false → s.port.stream ≠ .resumePending → SlotsWf s →
      exec (.programVerify true) s = .next (overSlots State.verifyAsked
        { s with key := .present k, store := next { s.store with keyForm := .valid k } })) ∧
    (p.attempt = 1 →
      exec (.programVerify false) s = .next { s with
        store := { s.store with program := some { write := p.write, attempt := 2 } } }) ∧
    (p.attempt ≠ 1 → s.resetAsserted = false →
      exec (.programVerify false) s = .next { s with
        store := next (storeInvalid p.write.pos s.store),
        key := if p.write.pos = .key then .absent else s.key,
        agent := { s.agent with sticky := s.agent.sticky ||| Condition.mask .storeWriteFail } }) ∧
    (p.attempt ≠ 1 → s.resetAsserted = true →
      exec (.programVerify false) s = .next { s with
        store := next (storeInvalid p.write.pos { s.store with heldFailure := true }),
        key := if p.write.pos = .key then .absent else s.key })

/-- O52 (R148). An addition with a serial, generation, final count and reason takes the next sequence number and becomes the
newest entry of a sound list: in the place of the entry of its serial, at that entry's position, where the serial is listed;
else, below 48 entries, at the lowest-numbered free position; else with the oldest entry evicted, at its position. The other
entries keep their order. One record is committed, with the new content at the position written, and the next sequence
number grows by 1, held at 2^32 - 1. -/
def Obligations.RetiredAddition : Prop :=
  ∀ (serial : Serial) (generation finalCount : Nat) (reason : RetiredReason) (l : List RetiredEntry)
    (content : RetiredContent) (s : State), RetiredWf s.refill → l = s.refill.retired →
    content =
      { serial := serial, generation := generation, finalCount := finalCount, reason := reason,
        sequence := s.refill.nextSeq } →
    ∃ (kept : List RetiredEntry) (p : RetiredPosition),
      addRetired serial generation finalCount reason s = commit (.retired p (some content))
        { s with
            refill := { s.refill with
              retired := kept ++ [{ content := content, position := p }],
              nextSeq := min (s.refill.nextSeq + 1) 4294967295 } } ∧
      (∀ e ∈ l, e.content.serial = serial →
        kept = l.filter (fun f => decide (f.content.serial ≠ serial)) ∧ p = e.position) ∧
      ((∀ e ∈ l, e.content.serial ≠ serial) → l.length < 48 →
        kept = l ∧ (∀ e ∈ l, e.position ≠ p) ∧ ∀ q : RetiredPosition, q < p → ∃ e ∈ l, e.position = q) ∧
      ((∀ e ∈ l, e.content.serial ≠ serial) → l.length = 48 →
        kept = l.tail ∧ l.head?.map (·.position) = some p)

/-- O53 (R3, R18, R22, R34, R42, R43, R68, R83, R92, R135, R184, R187). For every state in which they hold, every step keeps: at
most 4 frames in the input buffer and in the output queue, 8 replies and 2 reports; every setting in its range (lane table,
slot configuration, thresholds ascending, limits, sequence, allowance, fault mask), the skipped-trigger count within 32
bits, and no bit among the sticky conditions that names none; every lane counter within 48 bits; every residue below Q_IU,
every count of a slot, its failed-attempt count included, within 32 bits, and every raw and worst evidence value within 16
bits. -/
def Obligations.BoundsKept : Prop :=
  ∀ s t : State, PortWf s → SettingsWf s → (∀ n : Slot, MeterWf (s.slot n)) →
    (∀ l : Lane, LaneCountersWf s.lanes.counters[l]) → step s = .next t →
    PortWf t ∧ SettingsWf t ∧ (∀ n : Slot, MeterWf (t.slot n)) ∧ ∀ l : Lane, LaneCountersWf t.lanes.counters[l]

/-- O54 (R147, R148, R149, R175, R176, R178, R179). For every state in which they hold, every step keeps the store sound (at
most 16 writes queued, no two to one position, none waiting while no program runs, attempt 1 or 2) and the retired list
sound (at most 48 entries, no serial and no position twice, oldest first by sequence number, none numbered above the next
number, the next number between 1 and 2^32 - 1). -/
def Obligations.RecordsKept : Prop :=
  ∀ s t : State, StoreWf s.store → RetiredWf s.refill → step s = .next t → StoreWf t.store ∧ RetiredWf t.refill

/-- O55 (R106, R108, R122, R123, R124, R125, R131, R134, R173, R181). For every state in which key state and Record Store agree,
they agree after every step: PRESENT with the content of a VALID key record and no write of one under way, PROVISIONING with
exactly one under way or one committed at a VALID position and held for the release of RESET_N, ABSENT with none. A root key
that is PRESENT is the same after every step that does not take the power away. And with sound slots, as long as the key is
not PRESENT no step leaves a binding PENDING_AUTH, VERIFIED or identified and LINK_LOST, nor an operation current but a BIND
that asks for the identity. That the key state is ABSENT without power and while RESTORING lasts, a clause of the agreement,
is the model's choice (log entry 32). -/
def Obligations.KeyKept : Prop :=
  ∀ s t : State, KeyWf s → step s = .next t →
    KeyWf t ∧ (∀ k : RootKey, s.powered = true → s.key = .present k → t.powered = true → t.key = .present k) ∧
      (SlotsWf s → ProofWf s → ProofWf t)

/-- O56 (R80, R81, R83, R89, R91, R95, R97, R99, R100, R103, R142, R145). For every state whose slots are sound, every step
leaves them sound: operation, queue, supply, timers and attempt agree, the operation stands at a step its binding state
allows, at most one queued entry of each kind; identity, U_bind, last_written, verified-once and failure reason agree with
the binding state, last_written is never above U_est; no slot works while the part does not, no binding exists in RESTORING,
and no checkpoint stands with A above E or E above 2^32 - 1. -/
def Obligations.SlotsKept : Prop :=
  ∀ s t : State, SlotsWf s → step s = .next t → SlotsWf t

/-- O57 (R84, R88, R106, R130, R139). For every state whose slots are sound and in which no two slots hold one serial, no two
slots hold one serial after any step: a second binding of a held serial fails DUPLICATE, and no step gives a FAILED or
RELEASED binding its serial back. And where no two CHALLENGE attempts in flight carry one nonce and none carries that of a
failed attempt, it is so after any step: slots challenged together have different nonces, and a failed attempt's nonce is
not used again. That holds while fewer than 2^128 - 8 nonces have been spent since the last reset, there being 2^128 in all;
how the model steps a drawn value past those in use is its choice (log entry 4). -/
def Obligations.SerialsKeptDistinct : Prop :=
  ∀ s t : State, SlotsWf s → step s = .next t → (SerialsDistinct s → SerialsDistinct t) ∧
    (NoncesWf s → s.spentNonces.length + 8 < 2 ^ 128 → NoncesWf t)

/-- O58 (R14, R15, R16, R17, R165, R166, R168, R169, R172). For every state in which they agree, every step keeps: the
hold-cause list is empty unless the stream is HELD or RESUME_PENDING and is ordered by lane; in HELD and RESUME_PENDING the
held SWATH_START stands at the head of the input buffer with control-class frames alone behind it; and no frame behind the
head is marked as already checked. And with sound slots, the stream is RESUME_PENDING after a step only while a mapped lane
waits: its binding PENDING_ID or PENDING_AUTH, an operation current or queued there, and the lane listed or its action HOLD. -/
def Obligations.HoldKept : Prop :=
  ∀ s t : State, step s = .next t → (HoldWf s → HoldWf t) ∧ (SlotsWf s → WaitWf s → WaitWf t)

/-- O59 (R162, R163, R172). From a state with the lock flag set, no command but a pin reset, a loss of power or a power-on
changes the policy table, the unverified allowance or the lock flag. -/
def Obligations.PolicyLock : Prop :=
  ∀ (c : Instr) (s t : State), exec c s = .next t → s.policy.locked = true → c ≠ .pinResetAsserted → c ≠ .lossOfPower →
    (∀ decayed, c ≠ .powerOn decayed) →
    t.policy.actions = s.policy.actions ∧ t.policy.allowance = s.policy.allowance ∧ t.policy.locked = true

/-- O60 (R87, R104, R119, R129, R131, R132, R133, R155, R156, R157). If a command takes a slot's binding from another state to
VERIFIED, the command is a response on that slot's bus to the CHALLENGE attempt in flight, the key is PRESENT, and the
response carries as its tag the keyed digest of the attempt's nonce, the bound serial, and the response's used count and
generation, under the cartridge key of that serial. And a lane's condition is the first of the twelve, in their order, whose
test holds, each test on the inputs as they stand, the unverified allowance among them, which bars an unproved binding at
unverified_units equal to it; a slot's condition is that of a lane mapped to it whose input is not over its limit; and it is
GENUINE, LOW, EMPTY, REFILL_SUSPECT or REFILL_CONFIRMED only if the slot's binding is VERIFIED. -/
def Obligations.OnlyAMatchingTagVerifies : Prop :=
  (∀ (c : Instr) (n : Slot) (s t : State), exec c s = .next t → (s.slot n).bindingState ≠ .verified →
    (t.slot n).bindingState = .verified →
    ∃ (response : List Byte) (op : CurrentOp) (a : Attempt) (nonce : Nonce) (root : RootKey) (i : Identity),
      c = .cartridgeResponse n response ∧ (s.slot n).current = some op ∧ op.step = .challenge ∧
      (s.slot n).attempt = some a ∧ a.nonce = some nonce ∧ s.key = .present root ∧
      (s.slot n).record.identity = some i ∧ 23 ≤ response.length ∧
      (response.drop 6).take 16 =
        keyedDigest (keyedDigest (beBytes 32 root.toNat) (beBytes 8 i.serial.toNat))
          (beBytes 16 nonce.toNat ++ beBytes 8 i.serial.toNat ++ (response.drop 1).take 5)) ∧
  ∀ (l : Lane) (s : State),
    (∀ (before after : List LaneCondition) (k : LaneCondition), conditionOrder = before ++ k :: after →
      (s.laneCondition l = k ↔ ConditionTest s l k ∧ ∀ j ∈ before, ¬ConditionTest s l j)) ∧
    (∀ n : Slot, (s.laneEntry l).slot = some n → ¬ConditionTest s l .overtemp →
      s.laneCondition l = slotCondition s.policy.allowance (s.slot n)) ∧
    (s.laneCondition l ∈ ([.genuine, .low, .empty, .refillSuspect, .refillConfirmed] : List LaneCondition) →
      ∃ n : Slot, (s.laneEntry l).slot = some n ∧ (s.slot n).bindingState = .verified)
end

