-- ==== Sys2Proof/Laws/Bytes.lean ====
section
/-! SUPPORT. Byte order and the two checks: what is written most significant byte first is read back, and a message carries the
check it was built with. -/

namespace Sys2Proof.Machine

@[simp] theorem beBytes_length (k n : Nat) : (beBytes k n).length = k := by
  induction k with
  | zero => rfl
  | succ k ih => simp [beBytes, ih]

/-- The fold of `beNat` from any start. -/
theorem beNat_from (bs : List Byte) (acc : Nat) :
    bs.foldl (fun acc b => acc * 256 + b.toNat) acc = acc * 256 ^ bs.length + beNat bs := by
  induction bs generalizing acc with
  | nil => simp [beNat]
  | cons b bs ih =>
    simp only [List.foldl_cons, List.length_cons, beNat]
    rw [ih (acc * 256 + b.toNat), ih (0 * 256 + b.toNat)]
    ring

theorem beNat_cons (b : Byte) (bs : List Byte) : beNat (b :: bs) = b.toNat * 256 ^ bs.length + beNat bs := by
  have h := beNat_from bs b.toNat
  simpa [beNat] using h

theorem beNat_append (xs ys : List Byte) : beNat (xs ++ ys) = beNat xs * 256 ^ ys.length + beNat ys := by
  have h := beNat_from ys (beNat xs)
  simpa [beNat, List.foldl_append] using h

/-- `k` bytes of a number are read back as the number modulo 256^k. -/
theorem beNat_beBytes (k n : Nat) : beNat (beBytes k n) = n % 256 ^ k := by
  induction k with
  | zero => simp [beBytes, beNat, Nat.mod_one]
  | succ k ih =>
    have h := Nat.mod_mul (x := n) (a := 256 ^ k) (b := 256)
    rw [beBytes, beNat_cons, ih, beBytes_length, BitVec.toNat_ofNat, pow_succ 256 k, h]
    ring

/-- A number that fits is read back whole. -/
theorem beNat_beBytes_of_lt {k n : Nat} (h : n < 256 ^ k) : beNat (beBytes k n) = n := by
  rw [beNat_beBytes, Nat.mod_eq_of_lt h]

theorem beNat_lt (bs : List Byte) : beNat bs < 256 ^ bs.length := by
  induction bs with
  | nil => simp [beNat]
  | cons b bs ih =>
    have hb : b.toNat < 256 := b.isLt
    rw [beNat_cons, List.length_cons, pow_succ]
    nlinarith [Nat.pos_of_ne_zero (pow_ne_zero bs.length (by decide : (256 : Nat) ≠ 0))]

/-- A field in the middle of a message is read at its place. -/
theorem fieldAt_append (pre bytes post : List Byte) : fieldAt (pre ++ bytes ++ post) pre.length bytes.length = beNat bytes := by
  simp [fieldAt, List.append_assoc]

@[simp] theorem withCrc16_length (bs : List Byte) : (withCrc16 bs).length = bs.length + 2 := by simp [withCrc16]

@[simp] theorem withCrc8_length (bs : List Byte) : (withCrc8 bs).length = bs.length + 1 := by simp [withCrc8]

/-- A message built with its CRC-16 passes the CRC check of R6. -/
theorem crcPasses_withCrc16 (bs : List Byte) : crcPasses (withCrc16 bs) = true := by
  have h : fieldAt (withCrc16 bs) bs.length 2 = (crc16 bs).toNat := by
    have hf := fieldAt_append bs (beBytes 2 (crc16 bs).toNat) []
    rw [beBytes_length, List.append_nil] at hf
    rw [withCrc16, hf, beNat_beBytes_of_lt]
    exact (crc16 bs).isLt
  have ht : (withCrc16 bs).take bs.length = bs := by simp [withCrc16]
  simp [crcPasses, h, ht]

/-! ### A frame of the swath link -/

section Frame
variable (kind shape seq count : Byte) (payload : List Byte)

theorem linkFrame_length : (linkFrame kind shape seq count payload).length = payload.length + 8 := by
  simp [linkFrame]; omega

theorem linkFrame_kind : kindCode (linkFrame kind shape seq count payload) = kind := rfl

theorem linkFrame_shape : byteAt (linkFrame kind shape seq count payload) 1 = shape := rfl

theorem linkFrame_sequence : frameSequence (linkFrame kind shape seq count payload) = seq := rfl

theorem linkFrame_count : frameCount (linkFrame kind shape seq count payload) = count.toNat := rfl

theorem linkFrame_lane : frameLane (linkFrame kind shape seq count payload) = laneOfShape shape := rfl

theorem linkFrame_payload : framePayload (linkFrame kind shape seq count payload) = payload := by
  rw [framePayload, linkFrame_length]
  simp [linkFrame, withCrc16, beBytes]

theorem linkFrame_crc : crcPasses (linkFrame kind shape seq count payload) = true := crcPasses_withCrc16 _

theorem linkFrame_header (h : payload.length < 65536) :
    headerLength (linkFrame kind shape seq count payload) = payload.length := by
  have hf := fieldAt_append [kind, shape, seq, count] (beBytes 2 payload.length)
    (payload ++ beBytes 2 (crc16 ([kind, shape, seq, count] ++ beBytes 2 payload.length ++ payload)).toNat)
  rw [beBytes_length, beNat_beBytes_of_lt (by simpa using h)] at hf
  simpa [headerLength, linkFrame, withCrc16] using hf

end Frame

/-! ### The keyed digest -/

theorem sha256_length (m : List Byte) : (sha256 m).length = 32 := by simp [sha256]

/-- A keyed digest has 16 bytes (R128). -/
theorem keyedDigest_length (key message : List Byte) : (keyedDigest key message).length = 16 := by
  simp [keyedDigest, sha256_length]

end Sys2Proof.Machine
end

