-- ==== Sys2Proof/Laws/Nonces.lean ====
section
/-! SUPPORT. What the drawing of a nonce gives: a value that none of the nonces in flight or spent has. -/

namespace Sys2Proof.Machine

/-- Stepping past a list ends outside it, where the steps are not fewer than the values of the list still to come. -/
theorem stepPast_spec (k : Nat) (used : List Nonce) (v : Nonce) :
    (∃ j, j ≤ k ∧ stepPast k used v = v + BitVec.ofNat 128 j ∧ (j < k → stepPast k used v ∉ used) ∧
      ∀ i, i < j → v + BitVec.ofNat 128 i ∈ used) := by
  induction k generalizing v with
  | zero => exact ⟨0, Nat.le_refl 0, by simp [stepPast], by simp, by simp⟩
  | succ k ih =>
    unfold stepPast
    split
    · next h =>
      obtain ⟨j, hj, he, hn, hi⟩ := ih (v + 1)
      have step : ∀ i, v + 1 + BitVec.ofNat 128 i = v + BitVec.ofNat 128 (i + 1) := fun i => by
        rw [BitVec.add_assoc, BitVec.add_comm 1, show (1 : BitVec 128) = BitVec.ofNat 128 1 from rfl, ← BitVec.ofNat_add]
      refine ⟨j + 1, by omega, by rw [he, step], fun h => hn (by omega), fun i hij => ?_⟩
      cases i with
      | zero => simpa using h
      | succ i => rw [← step]; exact hi i (by omega)
    · next h => exact ⟨0, by omega, by simp, fun _ => by simpa using h, by simp⟩

/-- As many steps as a list is long lead outside it, for any list of fewer values than there are nonces. -/
theorem stepPast_not_mem (used : List Nonce) (v : Nonce) (h : used.length < 2 ^ 128) : stepPast used.length used v ∉ used := by
  obtain ⟨j, hj, he, hn, hi⟩ := stepPast_spec used.length used v
  by_cases hlt : j < used.length
  · exact hn hlt
  · have hjl : j = used.length := by omega
    subst hjl
    intro hm
    have hall : ∀ i, i < used.length + 1 → v + BitVec.ofNat 128 i ∈ used := fun i hlt => by
      rcases Nat.lt_succ_iff_lt_or_eq.mp hlt with hl | rfl
      · exact hi i hl
      · rw [← he]; exact hm
    have hnd : ((List.range (used.length + 1)).map fun i => v + BitVec.ofNat 128 i).Nodup := by
      refine List.Nodup.map_on (fun a ha b hb hab => ?_) List.nodup_range
      rw [List.mem_range] at ha hb
      have := congrArg BitVec.toNat ((BitVec.add_right_inj v).mp hab)
      simp only [BitVec.toNat_ofNat] at this
      rwa [Nat.mod_eq_of_lt (by omega), Nat.mod_eq_of_lt (by omega)] at this
    have hsub := (hnd.subperm (l₂ := used) fun x hx => by
      obtain ⟨i, hi, rfl⟩ := List.mem_map.mp hx
      exact hall i (List.mem_range.mp hi)).length_le
    simp at hsub

/-- A nonce is drawn unlike any in flight (R130) and any spent (R84). -/
theorem freshNonce_spec (s : State) (h : s.spentNonces.length + s.noncesInFlight.length < 2 ^ 128) :
    s.freshNonce ∉ s.spentNonces ∧ s.freshNonce ∉ s.noncesInFlight := by
  have := stepPast_not_mem (s.spentNonces ++ s.noncesInFlight) (Config.nonce s.nonceCount) (by simpa using h)
  simpa [State.freshNonce] using this

end Sys2Proof.Machine
end

