-- ==== Sys2Proof/Laws/State.lean ====
section
/-! SUPPORT. One lemma for each field under each update of the state, so that no proof unfolds a record update. -/

namespace Sys2Proof.Machine

/-! ### A slot replaced -/

@[simp] theorem State.setSlot_powered (n : Slot) (c : SlotContext) (s : State) : (s.setSlot n c).powered = s.powered := rfl

@[simp] theorem State.setSlot_restoring (n : Slot) (c : SlotContext) (s : State) : (s.setSlot n c).restoring = s.restoring := rfl

@[simp] theorem State.setSlot_resetAsserted (n : Slot) (c : SlotContext) (s : State) : (s.setSlot n c).resetAsserted = s.resetAsserted := rfl

@[simp] theorem State.setSlot_restoreEndedInReset (n : Slot) (c : SlotContext) (s : State) : (s.setSlot n c).restoreEndedInReset = s.restoreEndedInReset := rfl

@[simp] theorem State.setSlot_keyCommitHeld (n : Slot) (c : SlotContext) (s : State) : (s.setSlot n c).keyCommitHeld = s.keyCommitHeld := rfl

@[simp] theorem State.setSlot_port (n : Slot) (c : SlotContext) (s : State) : (s.setSlot n c).port = s.port := rfl

@[simp] theorem State.setSlot_lanes (n : Slot) (c : SlotContext) (s : State) : (s.setSlot n c).lanes = s.lanes := rfl

@[simp] theorem State.setSlot_monitor (n : Slot) (c : SlotContext) (s : State) : (s.setSlot n c).monitor = s.monitor := rfl

@[simp] theorem State.setSlot_slots (n : Slot) (c : SlotContext) (s : State) :
    (s.setSlot n c).slots = s.slots.set n c := rfl

@[simp] theorem State.setSlot_key (n : Slot) (c : SlotContext) (s : State) : (s.setSlot n c).key = s.key := rfl

@[simp] theorem State.setSlot_nonceCount (n : Slot) (c : SlotContext) (s : State) : (s.setSlot n c).nonceCount = s.nonceCount := rfl

@[simp] theorem State.setSlot_spentNonces (n : Slot) (c : SlotContext) (s : State) : (s.setSlot n c).spentNonces = s.spentNonces := rfl

@[simp] theorem State.setSlot_refill (n : Slot) (c : SlotContext) (s : State) : (s.setSlot n c).refill = s.refill := rfl

@[simp] theorem State.setSlot_policy (n : Slot) (c : SlotContext) (s : State) : (s.setSlot n c).policy = s.policy := rfl

@[simp] theorem State.setSlot_store (n : Slot) (c : SlotContext) (s : State) : (s.setSlot n c).store = s.store := rfl

@[simp] theorem State.setSlot_agent (n : Slot) (c : SlotContext) (s : State) : (s.setSlot n c).agent = s.agent := rfl

@[simp] theorem State.setSlot_pending (n : Slot) (c : SlotContext) (s : State) : (s.setSlot n c).pending = s.pending := rfl

/-! ### A slot changed -/

@[simp] theorem State.modSlot_powered (n : Slot) (f : SlotContext → SlotContext) (s : State) : (s.modSlot n f).powered = s.powered := rfl

@[simp] theorem State.modSlot_restoring (n : Slot) (f : SlotContext → SlotContext) (s : State) : (s.modSlot n f).restoring = s.restoring := rfl

@[simp] theorem State.modSlot_resetAsserted (n : Slot) (f : SlotContext → SlotContext) (s : State) : (s.modSlot n f).resetAsserted = s.resetAsserted := rfl

@[simp] theorem State.modSlot_restoreEndedInReset (n : Slot) (f : SlotContext → SlotContext) (s : State) : (s.modSlot n f).restoreEndedInReset = s.restoreEndedInReset := rfl

@[simp] theorem State.modSlot_keyCommitHeld (n : Slot) (f : SlotContext → SlotContext) (s : State) : (s.modSlot n f).keyCommitHeld = s.keyCommitHeld := rfl

@[simp] theorem State.modSlot_port (n : Slot) (f : SlotContext → SlotContext) (s : State) : (s.modSlot n f).port = s.port := rfl

@[simp] theorem State.modSlot_lanes (n : Slot) (f : SlotContext → SlotContext) (s : State) : (s.modSlot n f).lanes = s.lanes := rfl

@[simp] theorem State.modSlot_monitor (n : Slot) (f : SlotContext → SlotContext) (s : State) : (s.modSlot n f).monitor = s.monitor := rfl

@[simp] theorem State.modSlot_slots (n : Slot) (f : SlotContext → SlotContext) (s : State) :
    (s.modSlot n f).slots = s.slots.set n (f (s.slot n)) := rfl

@[simp] theorem State.modSlot_key (n : Slot) (f : SlotContext → SlotContext) (s : State) : (s.modSlot n f).key = s.key := rfl

@[simp] theorem State.modSlot_nonceCount (n : Slot) (f : SlotContext → SlotContext) (s : State) : (s.modSlot n f).nonceCount = s.nonceCount := rfl

@[simp] theorem State.modSlot_spentNonces (n : Slot) (f : SlotContext → SlotContext) (s : State) : (s.modSlot n f).spentNonces = s.spentNonces := rfl

@[simp] theorem State.modSlot_refill (n : Slot) (f : SlotContext → SlotContext) (s : State) : (s.modSlot n f).refill = s.refill := rfl

@[simp] theorem State.modSlot_policy (n : Slot) (f : SlotContext → SlotContext) (s : State) : (s.modSlot n f).policy = s.policy := rfl

@[simp] theorem State.modSlot_store (n : Slot) (f : SlotContext → SlotContext) (s : State) : (s.modSlot n f).store = s.store := rfl

@[simp] theorem State.modSlot_agent (n : Slot) (f : SlotContext → SlotContext) (s : State) : (s.modSlot n f).agent = s.agent := rfl

@[simp] theorem State.modSlot_pending (n : Slot) (f : SlotContext → SlotContext) (s : State) : (s.modSlot n f).pending = s.pending := rfl

/-! ### Every slot changed -/

@[simp] theorem State.mapSlots_powered (f : SlotContext → SlotContext) (s : State) : (s.mapSlots f).powered = s.powered := rfl

@[simp] theorem State.mapSlots_restoring (f : SlotContext → SlotContext) (s : State) : (s.mapSlots f).restoring = s.restoring := rfl

@[simp] theorem State.mapSlots_resetAsserted (f : SlotContext → SlotContext) (s : State) : (s.mapSlots f).resetAsserted = s.resetAsserted := rfl

@[simp] theorem State.mapSlots_restoreEndedInReset (f : SlotContext → SlotContext) (s : State) : (s.mapSlots f).restoreEndedInReset = s.restoreEndedInReset := rfl

@[simp] theorem State.mapSlots_keyCommitHeld (f : SlotContext → SlotContext) (s : State) : (s.mapSlots f).keyCommitHeld = s.keyCommitHeld := rfl

@[simp] theorem State.mapSlots_port (f : SlotContext → SlotContext) (s : State) : (s.mapSlots f).port = s.port := rfl

@[simp] theorem State.mapSlots_lanes (f : SlotContext → SlotContext) (s : State) : (s.mapSlots f).lanes = s.lanes := rfl

@[simp] theorem State.mapSlots_monitor (f : SlotContext → SlotContext) (s : State) : (s.mapSlots f).monitor = s.monitor := rfl

@[simp] theorem State.mapSlots_slots (f : SlotContext → SlotContext) (s : State) :
    (s.mapSlots f).slots = Vector.ofFn fun n => f s.slots[n] := rfl

@[simp] theorem State.mapSlots_key (f : SlotContext → SlotContext) (s : State) : (s.mapSlots f).key = s.key := rfl

@[simp] theorem State.mapSlots_nonceCount (f : SlotContext → SlotContext) (s : State) : (s.mapSlots f).nonceCount = s.nonceCount := rfl

@[simp] theorem State.mapSlots_spentNonces (f : SlotContext → SlotContext) (s : State) : (s.mapSlots f).spentNonces = s.spentNonces := rfl

@[simp] theorem State.mapSlots_refill (f : SlotContext → SlotContext) (s : State) : (s.mapSlots f).refill = s.refill := rfl

@[simp] theorem State.mapSlots_policy (f : SlotContext → SlotContext) (s : State) : (s.mapSlots f).policy = s.policy := rfl

@[simp] theorem State.mapSlots_store (f : SlotContext → SlotContext) (s : State) : (s.mapSlots f).store = s.store := rfl

@[simp] theorem State.mapSlots_agent (f : SlotContext → SlotContext) (s : State) : (s.mapSlots f).agent = s.agent := rfl

@[simp] theorem State.mapSlots_pending (f : SlotContext → SlotContext) (s : State) : (s.mapSlots f).pending = s.pending := rfl

/-! ### Lane counters changed -/

@[simp] theorem State.modCounters_powered (l : Lane) (f : LaneCounters → LaneCounters) (s : State) : (s.modCounters l f).powered = s.powered := rfl

@[simp] theorem State.modCounters_restoring (l : Lane) (f : LaneCounters → LaneCounters) (s : State) : (s.modCounters l f).restoring = s.restoring := rfl

@[simp] theorem State.modCounters_resetAsserted (l : Lane) (f : LaneCounters → LaneCounters) (s : State) : (s.modCounters l f).resetAsserted = s.resetAsserted := rfl

@[simp] theorem State.modCounters_restoreEndedInReset (l : Lane) (f : LaneCounters → LaneCounters) (s : State) : (s.modCounters l f).restoreEndedInReset = s.restoreEndedInReset := rfl

@[simp] theorem State.modCounters_keyCommitHeld (l : Lane) (f : LaneCounters → LaneCounters) (s : State) : (s.modCounters l f).keyCommitHeld = s.keyCommitHeld := rfl

@[simp] theorem State.modCounters_port (l : Lane) (f : LaneCounters → LaneCounters) (s : State) : (s.modCounters l f).port = s.port := rfl

@[simp] theorem State.modCounters_lanes (l : Lane) (f : LaneCounters → LaneCounters) (s : State) :
    (s.modCounters l f).lanes = { s.lanes with counters := s.lanes.counters.set l (f s.lanes.counters[l]) } := rfl

@[simp] theorem State.modCounters_monitor (l : Lane) (f : LaneCounters → LaneCounters) (s : State) : (s.modCounters l f).monitor = s.monitor := rfl

@[simp] theorem State.modCounters_slots (l : Lane) (f : LaneCounters → LaneCounters) (s : State) : (s.modCounters l f).slots = s.slots := rfl

@[simp] theorem State.modCounters_key (l : Lane) (f : LaneCounters → LaneCounters) (s : State) : (s.modCounters l f).key = s.key := rfl

@[simp] theorem State.modCounters_nonceCount (l : Lane) (f : LaneCounters → LaneCounters) (s : State) : (s.modCounters l f).nonceCount = s.nonceCount := rfl

@[simp] theorem State.modCounters_spentNonces (l : Lane) (f : LaneCounters → LaneCounters) (s : State) : (s.modCounters l f).spentNonces = s.spentNonces := rfl

@[simp] theorem State.modCounters_refill (l : Lane) (f : LaneCounters → LaneCounters) (s : State) : (s.modCounters l f).refill = s.refill := rfl

@[simp] theorem State.modCounters_policy (l : Lane) (f : LaneCounters → LaneCounters) (s : State) : (s.modCounters l f).policy = s.policy := rfl

@[simp] theorem State.modCounters_store (l : Lane) (f : LaneCounters → LaneCounters) (s : State) : (s.modCounters l f).store = s.store := rfl

@[simp] theorem State.modCounters_agent (l : Lane) (f : LaneCounters → LaneCounters) (s : State) : (s.modCounters l f).agent = s.agent := rfl

@[simp] theorem State.modCounters_pending (l : Lane) (f : LaneCounters → LaneCounters) (s : State) : (s.modCounters l f).pending = s.pending := rfl

/-! ### A lane entry replaced -/

@[simp] theorem State.setLane_powered (l : Lane) (e : LaneEntry) (s : State) : (s.setLane l e).powered = s.powered := rfl

@[simp] theorem State.setLane_restoring (l : Lane) (e : LaneEntry) (s : State) : (s.setLane l e).restoring = s.restoring := rfl

@[simp] theorem State.setLane_resetAsserted (l : Lane) (e : LaneEntry) (s : State) : (s.setLane l e).resetAsserted = s.resetAsserted := rfl

@[simp] theorem State.setLane_restoreEndedInReset (l : Lane) (e : LaneEntry) (s : State) : (s.setLane l e).restoreEndedInReset = s.restoreEndedInReset := rfl

@[simp] theorem State.setLane_keyCommitHeld (l : Lane) (e : LaneEntry) (s : State) : (s.setLane l e).keyCommitHeld = s.keyCommitHeld := rfl

@[simp] theorem State.setLane_port (l : Lane) (e : LaneEntry) (s : State) : (s.setLane l e).port = s.port := rfl

@[simp] theorem State.setLane_lanes (l : Lane) (e : LaneEntry) (s : State) :
    (s.setLane l e).lanes = { s.lanes with table := s.lanes.table.set l e } := rfl

@[simp] theorem State.setLane_monitor (l : Lane) (e : LaneEntry) (s : State) : (s.setLane l e).monitor = s.monitor := rfl

@[simp] theorem State.setLane_slots (l : Lane) (e : LaneEntry) (s : State) : (s.setLane l e).slots = s.slots := rfl

@[simp] theorem State.setLane_key (l : Lane) (e : LaneEntry) (s : State) : (s.setLane l e).key = s.key := rfl

@[simp] theorem State.setLane_nonceCount (l : Lane) (e : LaneEntry) (s : State) : (s.setLane l e).nonceCount = s.nonceCount := rfl

@[simp] theorem State.setLane_spentNonces (l : Lane) (e : LaneEntry) (s : State) : (s.setLane l e).spentNonces = s.spentNonces := rfl

@[simp] theorem State.setLane_refill (l : Lane) (e : LaneEntry) (s : State) : (s.setLane l e).refill = s.refill := rfl

@[simp] theorem State.setLane_policy (l : Lane) (e : LaneEntry) (s : State) : (s.setLane l e).policy = s.policy := rfl

@[simp] theorem State.setLane_store (l : Lane) (e : LaneEntry) (s : State) : (s.setLane l e).store = s.store := rfl

@[simp] theorem State.setLane_agent (l : Lane) (e : LaneEntry) (s : State) : (s.setLane l e).agent = s.agent := rfl

@[simp] theorem State.setLane_pending (l : Lane) (e : LaneEntry) (s : State) : (s.setLane l e).pending = s.pending := rfl

/-! ### The eligible frame's place freed -/

@[simp] theorem freePlace_powered (s : State) : (freePlace s).powered = s.powered := rfl

@[simp] theorem freePlace_restoring (s : State) : (freePlace s).restoring = s.restoring := rfl

@[simp] theorem freePlace_resetAsserted (s : State) : (freePlace s).resetAsserted = s.resetAsserted := rfl

@[simp] theorem freePlace_restoreEndedInReset (s : State) : (freePlace s).restoreEndedInReset = s.restoreEndedInReset := rfl

@[simp] theorem freePlace_keyCommitHeld (s : State) : (freePlace s).keyCommitHeld = s.keyCommitHeld := rfl

@[simp] theorem freePlace_port (s : State) :
    (freePlace s).port = { s.port with buffer := withoutEligible s.port } := rfl

@[simp] theorem freePlace_lanes (s : State) : (freePlace s).lanes = s.lanes := rfl

@[simp] theorem freePlace_monitor (s : State) : (freePlace s).monitor = s.monitor := rfl

@[simp] theorem freePlace_slots (s : State) : (freePlace s).slots = s.slots := rfl

@[simp] theorem freePlace_key (s : State) : (freePlace s).key = s.key := rfl

@[simp] theorem freePlace_nonceCount (s : State) : (freePlace s).nonceCount = s.nonceCount := rfl

@[simp] theorem freePlace_spentNonces (s : State) : (freePlace s).spentNonces = s.spentNonces := rfl

@[simp] theorem freePlace_refill (s : State) : (freePlace s).refill = s.refill := rfl

@[simp] theorem freePlace_policy (s : State) : (freePlace s).policy = s.policy := rfl

@[simp] theorem freePlace_store (s : State) : (freePlace s).store = s.store := rfl

@[simp] theorem freePlace_agent (s : State) : (freePlace s).agent = s.agent := rfl

@[simp] theorem freePlace_pending (s : State) : (freePlace s).pending = s.pending := rfl

/-! ### A frame on the output queue -/

@[simp] theorem pushOut_powered (bs : List Byte) (s : State) : (pushOut bs s).powered = s.powered := rfl

@[simp] theorem pushOut_restoring (bs : List Byte) (s : State) : (pushOut bs s).restoring = s.restoring := rfl

@[simp] theorem pushOut_resetAsserted (bs : List Byte) (s : State) : (pushOut bs s).resetAsserted = s.resetAsserted := rfl

@[simp] theorem pushOut_restoreEndedInReset (bs : List Byte) (s : State) : (pushOut bs s).restoreEndedInReset = s.restoreEndedInReset := rfl

@[simp] theorem pushOut_keyCommitHeld (bs : List Byte) (s : State) : (pushOut bs s).keyCommitHeld = s.keyCommitHeld := rfl

@[simp] theorem pushOut_port (bs : List Byte) (s : State) :
    (pushOut bs s).port = { s.port with outQueue := s.port.outQueue ++ [bs] } := rfl

@[simp] theorem pushOut_lanes (bs : List Byte) (s : State) : (pushOut bs s).lanes = s.lanes := rfl

@[simp] theorem pushOut_monitor (bs : List Byte) (s : State) : (pushOut bs s).monitor = s.monitor := rfl

@[simp] theorem pushOut_slots (bs : List Byte) (s : State) : (pushOut bs s).slots = s.slots := rfl

@[simp] theorem pushOut_key (bs : List Byte) (s : State) : (pushOut bs s).key = s.key := rfl

@[simp] theorem pushOut_nonceCount (bs : List Byte) (s : State) : (pushOut bs s).nonceCount = s.nonceCount := rfl

@[simp] theorem pushOut_spentNonces (bs : List Byte) (s : State) : (pushOut bs s).spentNonces = s.spentNonces := rfl

@[simp] theorem pushOut_refill (bs : List Byte) (s : State) : (pushOut bs s).refill = s.refill := rfl

@[simp] theorem pushOut_policy (bs : List Byte) (s : State) : (pushOut bs s).policy = s.policy := rfl

@[simp] theorem pushOut_store (bs : List Byte) (s : State) : (pushOut bs s).store = s.store := rfl

@[simp] theorem pushOut_agent (bs : List Byte) (s : State) : (pushOut bs s).agent = s.agent := rfl

@[simp] theorem pushOut_pending (bs : List Byte) (s : State) : (pushOut bs s).pending = s.pending := rfl

/-! ### A reply queued -/

@[simp] theorem queueReply_powered (f : ReturnFrame) (s : State) : (queueReply f s).powered = s.powered := rfl

@[simp] theorem queueReply_restoring (f : ReturnFrame) (s : State) : (queueReply f s).restoring = s.restoring := rfl

@[simp] theorem queueReply_resetAsserted (f : ReturnFrame) (s : State) : (queueReply f s).resetAsserted = s.resetAsserted := rfl

@[simp] theorem queueReply_restoreEndedInReset (f : ReturnFrame) (s : State) : (queueReply f s).restoreEndedInReset = s.restoreEndedInReset := rfl

@[simp] theorem queueReply_keyCommitHeld (f : ReturnFrame) (s : State) : (queueReply f s).keyCommitHeld = s.keyCommitHeld := rfl

@[simp] theorem queueReply_port (f : ReturnFrame) (s : State) : (queueReply f s).port = s.port := rfl

@[simp] theorem queueReply_lanes (f : ReturnFrame) (s : State) : (queueReply f s).lanes = s.lanes := rfl

@[simp] theorem queueReply_monitor (f : ReturnFrame) (s : State) : (queueReply f s).monitor = s.monitor := rfl

@[simp] theorem queueReply_slots (f : ReturnFrame) (s : State) : (queueReply f s).slots = s.slots := rfl

@[simp] theorem queueReply_key (f : ReturnFrame) (s : State) : (queueReply f s).key = s.key := rfl

@[simp] theorem queueReply_nonceCount (f : ReturnFrame) (s : State) : (queueReply f s).nonceCount = s.nonceCount := rfl

@[simp] theorem queueReply_spentNonces (f : ReturnFrame) (s : State) : (queueReply f s).spentNonces = s.spentNonces := rfl

@[simp] theorem queueReply_refill (f : ReturnFrame) (s : State) : (queueReply f s).refill = s.refill := rfl

@[simp] theorem queueReply_policy (f : ReturnFrame) (s : State) : (queueReply f s).policy = s.policy := rfl

@[simp] theorem queueReply_store (f : ReturnFrame) (s : State) : (queueReply f s).store = s.store := rfl

@[simp] theorem queueReply_agent (f : ReturnFrame) (s : State) :
    (queueReply f s).agent = { s.agent with returnQueue := s.agent.returnQueue ++ [f] } := rfl

@[simp] theorem queueReply_pending (f : ReturnFrame) (s : State) : (queueReply f s).pending = s.pending := rfl

/-! ### A condition raised: the sticky conditions alone can change -/

@[simp] theorem State.raise_powered (c : Condition) (s : State) : (s.raise c).powered = s.powered := by
  unfold State.raise; split <;> rfl

@[simp] theorem State.raise_restoring (c : Condition) (s : State) : (s.raise c).restoring = s.restoring := by
  unfold State.raise; split <;> rfl

@[simp] theorem State.raise_resetAsserted (c : Condition) (s : State) : (s.raise c).resetAsserted = s.resetAsserted := by
  unfold State.raise; split <;> rfl

@[simp] theorem State.raise_restoreEndedInReset (c : Condition) (s : State) : (s.raise c).restoreEndedInReset = s.restoreEndedInReset := by
  unfold State.raise; split <;> rfl

@[simp] theorem State.raise_keyCommitHeld (c : Condition) (s : State) : (s.raise c).keyCommitHeld = s.keyCommitHeld := by
  unfold State.raise; split <;> rfl

@[simp] theorem State.raise_port (c : Condition) (s : State) : (s.raise c).port = s.port := by
  unfold State.raise; split <;> rfl

@[simp] theorem State.raise_lanes (c : Condition) (s : State) : (s.raise c).lanes = s.lanes := by
  unfold State.raise; split <;> rfl

@[simp] theorem State.raise_monitor (c : Condition) (s : State) : (s.raise c).monitor = s.monitor := by
  unfold State.raise; split <;> rfl

@[simp] theorem State.raise_slots (c : Condition) (s : State) : (s.raise c).slots = s.slots := by
  unfold State.raise; split <;> rfl

@[simp] theorem State.raise_key (c : Condition) (s : State) : (s.raise c).key = s.key := by
  unfold State.raise; split <;> rfl

@[simp] theorem State.raise_nonceCount (c : Condition) (s : State) : (s.raise c).nonceCount = s.nonceCount := by
  unfold State.raise; split <;> rfl

@[simp] theorem State.raise_spentNonces (c : Condition) (s : State) : (s.raise c).spentNonces = s.spentNonces := by
  unfold State.raise; split <;> rfl

@[simp] theorem State.raise_refill (c : Condition) (s : State) : (s.raise c).refill = s.refill := by
  unfold State.raise; split <;> rfl

@[simp] theorem State.raise_policy (c : Condition) (s : State) : (s.raise c).policy = s.policy := by
  unfold State.raise; split <;> rfl

@[simp] theorem State.raise_store (c : Condition) (s : State) : (s.raise c).store = s.store := by
  unfold State.raise; split <;> rfl

@[simp] theorem State.raise_pending (c : Condition) (s : State) : (s.raise c).pending = s.pending := by
  unfold State.raise; split <;> rfl

/-- What raising a condition does, whole (R190): nothing while RESET_N is asserted, else its bit is set. -/
theorem State.raise_cases (c : Condition) (s : State) :
    (s.resetAsserted = true ∧ s.raise c = s) ∨
      (s.resetAsserted = false ∧ s.raise c = { s with agent := { s.agent with sticky := s.agent.sticky ||| c.mask } }) := by
  unfold State.raise
  cases h : s.resetAsserted <;> simp

@[simp] theorem State.raise_returnQueue (c : Condition) (s : State) :
    (s.raise c).agent.returnQueue = s.agent.returnQueue := by
  unfold State.raise; split <;> rfl

@[simp] theorem State.raise_faultMask (c : Condition) (s : State) : (s.raise c).agent.faultMask = s.agent.faultMask := by
  unfold State.raise; split <;> rfl

/-! ### Reading a slot after an update -/

@[simp] theorem State.slot_setSlot_self (n : Slot) (c : SlotContext) (s : State) : (s.setSlot n c).slot n = c := by
  simp [State.slot]

theorem State.slot_setSlot_ne {m n : Slot} (h : m ≠ n) (c : SlotContext) (s : State) :
    (s.setSlot n c).slot m = s.slot m := by
  have hv : n.val ≠ m.val := fun e => h (Fin.ext e.symm)
  simp [State.slot, hv]

theorem State.slot_setSlot (m n : Slot) (c : SlotContext) (s : State) :
    (s.setSlot n c).slot m = if m = n then c else s.slot m := by
  by_cases h : m = n
  · subst h; simp
  · simp [h, State.slot_setSlot_ne h]

@[simp] theorem State.slot_modSlot_self (n : Slot) (f : SlotContext → SlotContext) (s : State) :
    (s.modSlot n f).slot n = f (s.slot n) := State.slot_setSlot_self n _ s

theorem State.slot_modSlot_ne {m n : Slot} (h : m ≠ n) (f : SlotContext → SlotContext) (s : State) :
    (s.modSlot n f).slot m = s.slot m := State.slot_setSlot_ne h _ s

@[simp] theorem State.slot_mapSlots (n : Slot) (f : SlotContext → SlotContext) (s : State) :
    (s.mapSlots f).slot n = f (s.slot n) := by
  simp [State.slot]

/-- A slot replaced by itself is no change. -/
@[simp] theorem State.setSlot_slot (n : Slot) (s : State) : s.setSlot n (s.slot n) = s := by
  simp [State.setSlot, State.slot]

/-- The later of two replacements of one slot stays. -/
@[simp] theorem State.setSlot_setSlot (n : Slot) (c d : SlotContext) (s : State) :
    (s.setSlot n c).setSlot n d = s.setSlot n d := by
  simp [State.setSlot]

/-- A reading of a slot does not see a change elsewhere. -/
theorem State.slot_congr {s t : State} (h : t.slots = s.slots) (n : Slot) : t.slot n = s.slot n := by
  simp [State.slot, h]

end Sys2Proof.Machine
end

