-- ==== Sys2Proof/Laws/Steps.lean ====
section
/-! SUPPORT. What the step, the taking of a frame, a request's answer and the wait test can do, each said once. -/

namespace Sys2Proof.Machine

theorem step_nil {s : State} (h : s.pending = []) : step s = .next s := by simp [step, h]

theorem step_cons {s : State} {c : Instr} {rest : List Instr} (h : s.pending = c :: rest) :
    step s = exec c { s with pending := rest } := by simp [step, h]

/-- A frame that a row takes is the eligible one, of that row, ready, with a place free where it is print-class (R3). -/
theorem takeable_spec {row : FrameRow} {s : State} {bs : List Byte} (h : takeable row s = some bs) :
    ∃ f, eligible s.port = some f ∧ f.bytes = bs ∧ f.phase = .ready ∧ s.running = true ∧ frameRow bs = row ∧
      (isControl f = true ∨ s.port.outQueue.length < outCapacity) := by
  unfold takeable at h
  split at h
  · cases h
  · rename_i f hf
    split at h
    · rename_i hc
      cases h
      exact ⟨f, hf, rfl, hc.2.1, hc.1, hc.2.2.1, hc.2.2.2⟩
    · cases h

/-- What taking a frame can do: nothing, a discard with a condition, or its handling (R2 to R6). -/
theorem takeFrame_cases (row : FrameRow) (handle : List Byte → State → State) (s : State) :
    (takeable row s = none ∧ takeFrame row handle s = s) ∨
      ∃ bs, takeable row s = some bs ∧
        ((∃ c, failedCheck s bs = some c ∧ takeFrame row handle s = (freePlace s).raise c) ∨
          (failedCheck s bs = none ∧ takeFrame row handle s = handle bs s)) := by
  unfold takeFrame
  cases ht : takeable row s with
  | none => exact .inl ⟨rfl, rfl⟩
  | some bs =>
    refine .inr ⟨bs, rfl, ?_⟩
    cases hc : failedCheck s bs with
    | none => exact .inr ⟨rfl, by simp [hc]⟩
    | some c => exact .inl ⟨c, rfl, by simp [hc]⟩

/-- The conditions a failed check raises are the three of R4 to R6. -/
theorem failedCheck_spec {s : State} {bs : List Byte} {c : Condition} (h : failedCheck s bs = some c) :
    c = .frameGuard ∨ c = .frameLength ∨ c = .frameCrc := by
  unfold failedCheck at h
  split_ifs at h <;> simp_all

/-- What the sequence check does (R7): the expected number moves on, and SEQUENCE_GAP is raised for another number. -/
theorem sequenceCheck_cases (bs : List Byte) (s : State) :
    sequenceCheck bs s = { s with port := { s.port with expected := some (frameSequence bs + 1) } } ∨
      (∃ e, s.port.expected = some e ∧ e ≠ frameSequence bs ∧
        sequenceCheck bs s =
          State.raise { s with port := { s.port with expected := some (frameSequence bs + 1) } } .sequenceGap) := by
  unfold sequenceCheck
  cases he : s.port.expected with
  | none => exact .inl rfl
  | some e =>
    by_cases hs : e = frameSequence bs
    · exact .inl (by simp [hs])
    · exact .inr ⟨e, rfl, hs, by simp [hs]⟩

/-- A request is answered by one reply, or discarded with REPLY_OVERRUN (R184). -/
theorem executeRequest_cases (handle : List Byte → State → Answer) (bs : List Byte) (s : State) :
    (s.replyQueue.length < replyCapacity ∧
      executeRequest handle bs s =
        queueReply (replyFrame bs (handle (requestArgs bs) s)) (handle (requestArgs bs) s).state) ∨
    (replyCapacity ≤ s.replyQueue.length ∧ executeRequest handle bs s = s.raise .replyOverrun) := by
  unfold executeRequest
  by_cases h : s.replyQueue.length < replyCapacity
  · exact .inl ⟨h, by simp [h]⟩
  · exact .inr ⟨Nat.le_of_not_lt h, by simp [h]⟩

/-- A report joins the report queue, in place of the oldest with REPORT_OVERRUN when two wait (R187). -/
theorem queueReport_cases (f : ReturnFrame) (s : State) :
    (s.reportQueue.length < 2 ∧
      queueReport f s = { s with agent := { s.agent with returnQueue := s.agent.returnQueue ++ [f] } }) ∨
    (2 ≤ s.reportQueue.length ∧
      queueReport f s = State.raise
        { s with agent := { s.agent with returnQueue := dropOldestReport s.agent.returnQueue ++ [f] } } .reportOverrun) := by
  unfold queueReport
  by_cases h : s.reportQueue.length < 2
  · exact .inl ⟨h, by simp [h]⟩
  · exact .inr ⟨Nat.le_of_not_lt h, by simp [h]⟩

/-- Dropping the oldest report is erasing the first frame that is one. -/
theorem dropOldestReport_eq (l : List ReturnFrame) : dropOldestReport l = l.eraseP ReturnFrame.isReport := by
  induction l with
  | nil => rfl
  | cons f fs ih => cases h : f.isReport <;> simp [dropOldestReport, h, ih]

/-- The wait test does nothing, opens the swath or holds it again; the last two only in RESUME_PENDING with no lane waiting
(R168, R169). -/
theorem waitTest_cases (s : State) :
    (waitTest s = s ∧ (s.port.stream ≠ .resumePending ∨ ∃ l ∈ allLanes, s.laneWaits l = true)) ∨
    (s.port.stream = .resumePending ∧ s.holdingLanes = [] ∧ waitTest s = openSwath s) ∨
    (s.port.stream = .resumePending ∧ s.holdingLanes ≠ [] ∧
      waitTest s =
        { s with port := { s.port with stream := .held }, policy := { s.policy with holdCauses := s.holdingLanes } }) := by
  unfold waitTest
  by_cases hp : s.port.stream = .resumePending
  · cases hw : allLanes.any s.laneWaits
    · unfold reevaluate
      cases hl : s.holdingLanes with
      | nil => simp [hp]
      | cons a l => simp [hp]
    · refine .inl ⟨by simp [hp], .inr ?_⟩
      simpa using hw
  · simp [hp]

/-- Outside RESUME_PENDING the wait test does nothing. -/
theorem waitTest_of_ne {s : State} (h : s.port.stream ≠ .resumePending) : waitTest s = s := by simp [waitTest, h]

/-- A property that each slot's treatment keeps is kept by the treatment of all eight (log 13). -/
theorem overSlots_keeps {P : State → Prop} {f : Slot → State → State} (h : ∀ n s, P s → P (f n s)) (s : State) (hs : P s) :
    P (overSlots f s) := by
  simp only [overSlots, allSlots, List.foldl_cons, List.foldl_nil]
  exact h _ _ (h _ _ (h _ _ (h _ _ (h _ _ (h _ _ (h _ _ (h _ _ hs)))))))

theorem mem_allSlots (n : Slot) : n ∈ allSlots := by revert n; decide

theorem mem_allLanes (l : Lane) : l ∈ allLanes := by revert l; decide

theorem mem_allInputs (x : ThermalInput) : x ∈ allInputs := by revert x; decide

end Sys2Proof.Machine
end

