-- ==== Sys2Proof/Laws/Records.lean ====
section
/-! SUPPORT. What the shared operations of the Record Store, of a status record and of a binding record can do. -/

namespace Sys2Proof.Machine

/-! ### The Record Store -/

/-- How a write is taken: in the place of a queued write to its position, as the newest, or not at all (R175). -/
theorem enqueueWrite_cases (w : Write) (q : List Write) :
    ((∃ x ∈ q, x.pos = w.pos) ∧ enqueueWrite w q = some (q.map fun x => if x.pos = w.pos then w else x)) ∨
    ((∀ x ∈ q, x.pos ≠ w.pos) ∧ q.length < commitCapacity ∧ enqueueWrite w q = some (q ++ [w])) ∨
    ((∀ x ∈ q, x.pos ≠ w.pos) ∧ commitCapacity ≤ q.length ∧ enqueueWrite w q = none) := by
  unfold enqueueWrite
  by_cases h : ∃ x ∈ q, x.pos = w.pos
  · exact .inl ⟨h, by simp [h]⟩
  · have h' : ∀ x ∈ q, x.pos ≠ w.pos := fun x hx hp => h ⟨x, hx, hp⟩
    have ha : q.any (fun x => decide (x.pos = w.pos)) = false := by simpa using h'
    by_cases hl : q.length < commitCapacity
    · exact .inr (.inl ⟨h', hl, by simp [ha, hl]⟩)
    · exact .inr (.inr ⟨h', Nat.le_of_not_lt hl, by simp [ha, hl]⟩)

/-- A program begins, with attempt 1, exactly when none is in flight and a write waits (R176). -/
theorem beginProgram_cases (st : RecordStore) :
    (∃ w rest, st.program = none ∧ st.commitQueue = w :: rest ∧
      beginProgram st = { st with program := some { write := w, attempt := 1 }, commitQueue := rest }) ∨
    ((st.program ≠ none ∨ st.commitQueue = []) ∧ beginProgram st = st) := by
  unfold beginProgram
  cases hp : st.program with
  | none =>
    cases hq : st.commitQueue with
    | nil => exact .inr ⟨.inr rfl, rfl⟩
    | cons w rest => exact .inl ⟨w, rest, rfl, rfl, rfl⟩
  | some p => exact .inr ⟨.inl (by simp), rfl⟩

/-- Asking for a write changes the Record Store, or raises STORE_OVERFLOW and says so (R175). -/
theorem requestWrite_cases (w : Write) (s : State) :
    (∃ q, enqueueWrite w s.store.commitQueue = some q ∧
      requestWrite w s = (true, { s with store := beginProgram { s.store with commitQueue := q } })) ∨
    (enqueueWrite w s.store.commitQueue = none ∧ requestWrite w s = (false, s.raise .storeOverflow)) := by
  unfold requestWrite
  cases h : enqueueWrite w s.store.commitQueue with
  | none => exact .inr ⟨rfl, rfl⟩
  | some q => exact .inl ⟨q, rfl, rfl⟩

/-- A commit changes nothing but the Record Store and the sticky conditions. -/
theorem commit_frame (w : Write) (s : State) :
    commit w s =
      { s with store := (commit w s).store, agent := { s.agent with sticky := (commit w s).agent.sticky } } := by
  unfold commit
  rcases requestWrite_cases w s with ⟨q, -, h⟩ | ⟨-, h⟩ <;> rw [h]
  rcases s.raise_cases .storeOverflow with ⟨-, h⟩ | ⟨-, h⟩ <;> rw [h]

/-- The record positions' forms are not touched by asking for a write. -/
theorem commit_forms (w : Write) (s : State) :
    (commit w s).store.keyForm = s.store.keyForm ∧ (commit w s).store.checkpointForms = s.store.checkpointForms ∧
      (commit w s).store.retiredForms = s.store.retiredForms := by
  unfold commit
  rcases requestWrite_cases w s with ⟨q, -, h⟩ | ⟨-, h⟩ <;> rw [h]
  · rcases beginProgram_cases { s.store with commitQueue := q } with ⟨_, _, _, _, h⟩ | ⟨_, h⟩ <;> simp [h]
  · simp

/-! ### A slot's status record -/

/-- A merge changes the pending status record alone (R118). -/
theorem mergeStatus_frame (allowance : Nat) (p : Option Primary) (e : Byte) (a : Word16) (c : SlotContext) :
    mergeStatus allowance p e a c = { c with status := (mergeStatus allowance p e a c).status } := by
  unfold mergeStatus; split <;> rfl

section Merge
variable (allowance : Nat) (p : Option Primary) (e : Byte) (a : Word16) (c : SlotContext)

@[simp] theorem mergeStatus_rawSeat : (mergeStatus allowance p e a c).rawSeat = c.rawSeat := by
  rw [mergeStatus_frame]
@[simp] theorem mergeStatus_seat : (mergeStatus allowance p e a c).seat = c.seat := by rw [mergeStatus_frame]
@[simp] theorem mergeStatus_debounce : (mergeStatus allowance p e a c).debounce = c.debounce := by rw [mergeStatus_frame]
@[simp] theorem mergeStatus_supply : (mergeStatus allowance p e a c).supply = c.supply := by rw [mergeStatus_frame]
@[simp] theorem mergeStatus_settleTimer : (mergeStatus allowance p e a c).settleTimer = c.settleTimer := by
  rw [mergeStatus_frame]
@[simp] theorem mergeStatus_idleTimer : (mergeStatus allowance p e a c).idleTimer = c.idleTimer := by
  rw [mergeStatus_frame]
@[simp] theorem mergeStatus_attempt : (mergeStatus allowance p e a c).attempt = c.attempt := by rw [mergeStatus_frame]
@[simp] theorem mergeStatus_failedAttempts : (mergeStatus allowance p e a c).failedAttempts = c.failedAttempts := by
  rw [mergeStatus_frame]
@[simp] theorem mergeStatus_bindingState : (mergeStatus allowance p e a c).bindingState = c.bindingState := by
  rw [mergeStatus_frame]
@[simp] theorem mergeStatus_record : (mergeStatus allowance p e a c).record = c.record := by rw [mergeStatus_frame]
@[simp] theorem mergeStatus_config : (mergeStatus allowance p e a c).config = c.config := by rw [mergeStatus_frame]
@[simp] theorem mergeStatus_queue : (mergeStatus allowance p e a c).queue = c.queue := by rw [mergeStatus_frame]
@[simp] theorem mergeStatus_current : (mergeStatus allowance p e a c).current = c.current := by rw [mergeStatus_frame]
@[simp] theorem mergeStatus_orphanResidue : (mergeStatus allowance p e a c).orphanResidue = c.orphanResidue := by
  rw [mergeStatus_frame]
@[simp] theorem mergeStatus_orphanCount : (mergeStatus allowance p e a c).orphanCount = c.orphanCount := by
  rw [mergeStatus_frame]
@[simp] theorem mergeStatus_swathCredited : (mergeStatus allowance p e a c).swathCredited = c.swathCredited := by
  rw [mergeStatus_frame]
@[simp] theorem mergeStatus_swathOrphaned : (mergeStatus allowance p e a c).swathOrphaned = c.swathOrphaned := by
  rw [mergeStatus_frame]

end Merge

/-- A change of the binding state touches the state, the record and the pending status alone (R89, R90). -/
theorem enterState_frame (allowance : Nat) (b : BindingState) (reason : Option FailureReason) (c : SlotContext) :
    enterState allowance b reason c =
      { c with
          bindingState := b, record := (enterState allowance b reason c).record,
          status := (enterState allowance b reason c).status } := by
  cases b <;> rfl

/-- The failure reason stands in FAILED alone once a state has been entered with one (R89). -/
theorem enterState_failure (allowance : Nat) (b : BindingState) (reason : Option FailureReason) (c : SlotContext) :
    (enterState allowance b reason c).record.failure = if b = .failed then reason else none := by
  cases b <;> rfl

/-- Apart from NO_CARTRIDGE, which has no record, a change of state keeps what was metered and proved. -/
theorem enterState_record {allowance : Nat} {b : BindingState} {reason : Option FailureReason} {c : SlotContext}
    (h : b ≠ .noCartridge) :
    (enterState allowance b reason c).record =
      { c.record with
          verifiedOnce := c.record.verifiedOnce || decide (b = .verified), failure := if b = .failed then reason else none } := by
  cases b <;> first | exact absurd rfl h | simp [enterState, refreshes, refreshSnapshot]

/-! ### A binding record -/

/-- Taking a raw value touches the evidence alone (R135). -/
theorem setRaw_frame (cfg : SlotConfig) (k : EvidenceKind) (v : Nat) (r : BindingRecord) :
    (setRaw cfg k v r).1 = { r with evidence := (setRaw cfg k v r).1.evidence } := rfl

/-- An attribute reads back what was put. -/
@[simp] theorem Evidence.get_put_self (e : Evidence) (k : EvidenceKind) (a : EvidenceAttr) : (e.put k a).get k = a := by
  cases k <;> rfl

/-- Putting one attribute leaves the others. -/
theorem Evidence.get_put_ne {k m : EvidenceKind} (h : m ≠ k) (e : Evidence) (a : EvidenceAttr) :
    (e.put k a).get m = e.get m := by
  cases k <;> cases m <;> first | exact absurd rfl h | rfl

/-- Counting touches the evidence alone (R135). -/
theorem countRaw_frame (cfg : SlotConfig) (k : EvidenceKind) (r : BindingRecord) :
    (countRaw cfg k r).1 = { r with evidence := (countRaw cfg k r).1.evidence } := rfl

/-- A judgment of the marks touches the three flags alone (R49). -/
theorem judgeMarks_frame (cfg : SlotConfig) (r : BindingRecord) :
    judgeMarks cfg r =
      { r with
          lowMark := (judgeMarks cfg r).lowMark, emptyMark := (judgeMarks cfg r).emptyMark,
          overdrawMark := (judgeMarks cfg r).overdrawMark } := rfl

/-- A silent judgment touches marks and evidence alone, so identity, U_bind and the metering stay (R50, R51). -/
theorem judgeSilently_frame (cfg : SlotConfig) (r : BindingRecord) :
    (judgeSilently cfg r).1 =
      { r with
          lowMark := (judgeSilently cfg r).1.lowMark, emptyMark := (judgeSilently cfg r).1.emptyMark,
          overdrawMark := (judgeSilently cfg r).1.overdrawMark, evidence := (judgeSilently cfg r).1.evidence } := by
  unfold judgeSilently handOverdraw
  split <;> rfl

/-- A credit keeps the residue below Q_IU (R42). -/
theorem creditRecord_residue (u m : Bool) (volume : Nat) (r : BindingRecord) :
    (creditRecord u m volume r).residue < Config.qIU := Nat.mod_lt _ (by decide)

/-- What a credit leaves: everything but the residue and the four counts (R42 to R47). -/
theorem creditRecord_frame (u m : Bool) (volume : Nat) (r : BindingRecord) :
    creditRecord u m volume r =
      { r with
          residue := (creditRecord u m volume r).residue, metered := (creditRecord u m volume r).metered,
          unverifiedUnits := (creditRecord u m volume r).unverifiedUnits,
          flaggedUnits := (creditRecord u m volume r).flaggedUnits,
          sinceVerify := (creditRecord u m volume r).sinceVerify } := rfl

end Sys2Proof.Machine
end

