-- ==== Sys2Proof/Laws/Slots.lean ====
section
/-! SUPPORT. The reach of the work at one slot: operations, attempts, evaluations and the end of a binding touch that slot, the
nonces drawn and spent, the Refill Monitor, the Record Store and the sticky conditions, and nothing else. -/

namespace Sys2Proof.Machine

/-- From s to t only slot n, the nonces drawn and spent, the working copies, the Record Store and the sticky conditions
changed. -/
structure SlotWork (n : Slot) (s t : State) : Prop where
  frame : t =
    { s with
        slots := t.slots, nonceCount := t.nonceCount, spentNonces := t.spentNonces, refill := t.refill, store := t.store,
        agent := { s.agent with sticky := t.agent.sticky } }
  others : ∀ m : Slot, m ≠ n → t.slot m = s.slot m

theorem SlotWork.refl (n : Slot) (s : State) : SlotWork n s s := ⟨rfl, fun _ _ => rfl⟩

theorem SlotWork.trans {n : Slot} {s t u : State} (h : SlotWork n s t) (g : SlotWork n t u) : SlotWork n s u :=
  ⟨by rw [g.frame, h.frame], fun m hm => (g.others m hm).trans (h.others m hm)⟩

theorem slotWork_setSlot (n : Slot) (c : SlotContext) (s : State) : SlotWork n s (s.setSlot n c) :=
  ⟨rfl, fun _ hm => State.slot_setSlot_ne hm c s⟩

theorem slotWork_modSlot (n : Slot) (f : SlotContext → SlotContext) (s : State) : SlotWork n s (s.modSlot n f) :=
  slotWork_setSlot n _ s

theorem slotWork_commit (n : Slot) (w : Write) (s : State) : SlotWork n s (commit w s) := by
  have h := commit_frame w s
  refine ⟨?_, fun m _ => ?_⟩ <;> rw [h]
  rfl

/-- Work after a change of the working copies is work. -/
theorem slotWork_refill (n : Slot) (r : RefillMonitor) (s : State) : SlotWork n s { s with refill := r } :=
  ⟨rfl, fun _ _ => rfl⟩

theorem slotWork_addRetired (n : Slot) (serial : Serial) (g f : Nat) (r : RetiredReason) (s : State) :
    SlotWork n s (addRetired serial g f r s) := (slotWork_refill n _ s).trans (slotWork_commit n _ _)

theorem slotWork_removeRetired (n : Slot) (e : RetiredEntry) (s : State) : SlotWork n s (removeRetired e s) :=
  (slotWork_refill n _ s).trans (slotWork_commit n _ _)

theorem slotWork_writeCheckpoint (n : Slot) (s : State) : SlotWork n s (writeCheckpoint n s) := by
  unfold writeCheckpoint
  split
  · exact (slotWork_refill n _ s).trans (slotWork_commit n _ _)
  · exact .refl n s

theorem slotWork_judgeRetirement (n : Slot) (s : State) : SlotWork n s (judgeRetirement n s) := by
  unfold judgeRetirement
  dsimp only
  split
  · exact slotWork_addRetired n _ _ _ _ s
  · exact .refl n s

theorem slotWork_endBinding (n : Slot) (s : State) : SlotWork n s (endBinding n s) := by
  unfold endBinding
  split
  · exact (slotWork_writeCheckpoint n s).trans (slotWork_judgeRetirement n _)
  · exact .refl n s

theorem slotWork_startAttempt (n : Slot) (k : Nat) (s : State) : SlotWork n s (startAttempt n k s) := by
  unfold startAttempt
  dsimp only
  split
  · exact .refl n s
  · split
    · exact (slotWork_setSlot n _ s).trans ⟨rfl, fun _ _ => rfl⟩
    · exact slotWork_setSlot n _ s

theorem slotWork_requestBus (n : Slot) (s : State) : SlotWork n s (requestBus n s) := by
  unfold requestBus
  split
  · exact slotWork_startAttempt n 1 s
  · exact .refl n s
  · exact slotWork_modSlot n _ s

theorem slotWork_finishOp (n : Slot) (r : OpResult) (why : Option FailureReason) (e : Byte) (a : Word16) (s : State) :
    SlotWork n s (finishOp n r why e a s) := slotWork_modSlot n _ s

theorem slotWork_setBinding (n : Slot) (b : BindingState) (why : Option FailureReason) (s : State) :
    SlotWork n s (setBinding n b why s) := slotWork_modSlot n _ s

theorem slotWork_finishRelease (n : Slot) (a : Word16) (s : State) : SlotWork n s (finishRelease n a s) :=
  ((slotWork_endBinding n s).trans (slotWork_modSlot n (fun c => supplyOff (closeRecord c)) _)).trans
    ((slotWork_setBinding n .released none _).trans (slotWork_finishOp n .released none 0 a _))

theorem slotWork_beginOp (n : Slot) (e : QueueEntry) (s : State) : SlotWork n s (beginOp n e s) := by
  unfold beginOp
  extract_lets op s1 s2
  have h1 : SlotWork n s s1 := slotWork_modSlot n _ s
  refine h1.trans ?_
  split
  · split
    · exact (slotWork_modSlot n _ _).trans (slotWork_requestBus n _)
    · have h2 : SlotWork n s1 s2 := slotWork_modSlot n _ s1
      refine h2.trans ?_
      split
      · exact slotWork_requestBus n _
      · exact slotWork_finishOp n _ _ _ _ _
    · exact slotWork_requestBus n _
    · split
      · exact slotWork_requestBus n _
      · exact slotWork_finishRelease n _ _
  · exact slotWork_finishOp n _ _ _ _ _

theorem slotWork_runQueue (k : Nat) (n : Slot) (s : State) : SlotWork n s (runQueue k n s) := by
  induction k generalizing s with
  | zero => exact .refl n s
  | succ k ih =>
    unfold runQueue
    split
    · exact ((slotWork_modSlot n _ s).trans (slotWork_beginOp n _ _)).trans (ih _)
    · exact .refl n s

theorem slotWork_pump (n : Slot) (s : State) : SlotWork n s (pump n s) := slotWork_runQueue _ n s

theorem slotWork_joinOp (n : Slot) (k : OpKind) (o : Origin) (s : State) : SlotWork n s (joinOp n k o s) :=
  (slotWork_modSlot n _ s).trans (slotWork_pump n _)

theorem slotWork_askAuto (n : Slot) (k : OpKind) (s : State) : SlotWork n s (askAuto n k s) := by
  unfold askAuto
  split
  · exact slotWork_joinOp n k .auto s
  · exact .refl n s

theorem slotWork_endOp (n : Slot) (r : OpResult) (why : Option FailureReason) (e : Byte) (a : Word16) (s : State) :
    SlotWork n s (endOp n r why e a s) := (slotWork_finishOp n r why e a s).trans (slotWork_pump n _)

theorem slotWork_bindAuto (n : Slot) (s : State) : SlotWork n s (bindAuto n s) :=
  (slotWork_modSlot n beginBinding s).trans (slotWork_askAuto n .bind _)

theorem slotWork_failBinding (n : Slot) (why : FailureReason) (al : Alert) (s : State) :
    SlotWork n s (failBinding n why al s) :=
  (slotWork_setBinding n .failed _ s).trans (slotWork_endOp n .failed _ 0 _ _)

theorem slotWork_goOnToChallenge (n : Slot) (s : State) : SlotWork n s (goOnToChallenge n s) := by
  unfold goOnToChallenge
  split
  · exact slotWork_endOp n _ _ _ _ s
  · exact (slotWork_modSlot n _ s).trans (slotWork_requestBus n _)

theorem slotWork_judgeIdentity (n : Slot) (msg : List Byte) (s : State) : SlotWork n s (judgeIdentity n msg s) := by
  unfold judgeIdentity
  extract_lets i s1
  have h1 : SlotWork n s s1 := slotWork_modSlot n _ s
  split
  · exact slotWork_failBinding n _ _ s
  · refine h1.trans ?_
    split
    · exact slotWork_failBinding n _ _ _
    · split
      · exact slotWork_failBinding n _ _ _
      · split
        · exact (slotWork_setBinding n _ _ _).trans (slotWork_goOnToChallenge n _)
        · exact (slotWork_setBinding n _ _ _).trans (slotWork_endOp n _ _ _ _ _)

theorem slotWork_evaluateBind (n : Slot) (used g : Nat) (s : State) : SlotWork n s (evaluateBind n used g s).1 := by
  unfold evaluateBind
  split
  · exact .refl n s
  · extract_lets b finding cfg r0 r p s1
    have h1 : SlotWork n s s1 := slotWork_modSlot n _ s
    clear_value s1 p finding
    cases finding with
    | authorisedRefill e => exact h1.trans (slotWork_removeRetired n e _)
    | notListed | refilled | emptyCartridge => exact h1

theorem slotWork_becomeVerified (n : Slot) (e : SlotEvent) (j : Bool) (a : Word16) (s : State) :
    SlotWork n s (becomeVerified n e j a s) :=
  ((slotWork_setBinding n .verified none s).trans (slotWork_modSlot n _ _)).trans (slotWork_endOp n _ _ _ _ _)

theorem slotWork_judgeChallenge (n : Slot) (a : Attempt) (msg : List Byte) (s : State) :
    SlotWork n s (judgeChallenge n a msg s) := by
  unfold judgeChallenge
  dsimp only
  split
  · split
    · exact (slotWork_evaluateBind n _ _ s).trans (slotWork_becomeVerified n _ _ _ _)
    · exact (slotWork_modSlot n _ s).trans (slotWork_becomeVerified n _ _ _ _)
  · exact slotWork_failBinding n _ _ s

theorem slotWork_judgeAdvance (n : Slot) (msg : List Byte) (s : State) : SlotWork n s (judgeAdvance n msg s) := by
  unfold judgeAdvance
  extract_lets c
  split
  · exact .refl n s
  · extract_lets e s1 s2 p s3
    have h1 : SlotWork n s s1 := slotWork_modSlot n _ s
    have h2 : SlotWork n s1 s2 := by
      unfold s2
      split
      · exact slotWork_writeCheckpoint n s1
      · exact .refl n s1
    have h3 : SlotWork n s2 s3 := slotWork_modSlot n _ s2
    refine (h1.trans h2).trans (h3.trans ?_)
    split
    · split
      · exact slotWork_endOp n _ _ _ _ _
      · exact (slotWork_finishRelease n _ _).trans (slotWork_pump n _)
    · exact slotWork_endOp n _ _ _ _ _

theorem slotWork_handResponse (n : Slot) (op : CurrentOp) (a : Attempt) (msg : List Byte) (s : State) :
    SlotWork n s (handResponse n op a msg s) := by
  unfold handResponse
  split
  · exact slotWork_judgeIdentity n msg s
  · exact slotWork_judgeChallenge n a msg s
  · exact slotWork_judgeAdvance n msg s

theorem slotWork_linkOutcome (n : Slot) (s : State) : SlotWork n s (linkOutcome n s) :=
  ((slotWork_modSlot n _ s).trans (slotWork_setBinding n .linkLost none _)).trans (slotWork_finishOp n _ _ _ _ _)

theorem slotWork_spendNonce (n : Slot) (a : Attempt) (s : State) : SlotWork n s (spendNonce a s) := ⟨rfl, fun _ _ => rfl⟩

theorem slotWork_failAttempt (n : Slot) (a : Attempt) (s : State) : SlotWork n s (failAttempt n a s) := by
  unfold failAttempt
  extract_lets s1
  have h1 : SlotWork n s s1 := (slotWork_spendNonce n a s).trans (slotWork_modSlot n _ _)
  refine h1.trans ?_
  split
  · exact slotWork_startAttempt n _ _
  · exact slotWork_linkOutcome n _

/-- A response or a failed attempt, before the wait test that follows it, is work at its slot (R83). -/
theorem slotWork_judgeResponse (n : Slot) (a : Attempt) (op : CurrentOp) (msg : List Byte) (s : State) :
    SlotWork n s (judgeResponse n a op msg s) := by
  unfold judgeResponse
  split
  · exact (slotWork_modSlot n _ s).trans (slotWork_handResponse n op a msg _)
  · exact slotWork_failAttempt n a s

theorem slotWork_removeCartridge (n : Slot) (s : State) : SlotWork n s (removeCartridge n s) := by
  have hb : ∀ (p : Prop) [Decidable p] (t : State), SlotWork n t (if p then t else endBinding n t) := fun p _ t => by
    split
    · exact .refl n t
    · exact slotWork_endBinding n t
  exact ((slotWork_modSlot n _ s).trans (hb _ _)).trans (slotWork_setBinding n .noCartridge none _)

theorem slotWork_creditBinding (n : Slot) (m : Bool) (v : Nat) (s : State) : SlotWork n s (creditBinding n m v s) := by
  have ha : ∀ (d : SlotContext → Bool) (k : OpKind) (t : State), SlotWork n t (askIfDue d k n t) := fun d k t => by
    unfold askIfDue
    split
    · exact slotWork_askAuto n k t
    · exact .refl n t
  exact ((slotWork_modSlot n _ s).trans (ha _ _ _)).trans (ha _ _ _)

/-- A credit with its effects, or one to the orphan accumulator, is work at the report's slot (R41). -/
theorem slotWork_handleReport {r : DropReport} {n : Slot} (h : r.slot = some n) (s : State) :
    SlotWork n s (handleReport r s) := by
  unfold handleReport
  rw [h]
  dsimp only
  split
  all_goals first | exact slotWork_modSlot n _ s | exact slotWork_creditBinding n _ _ s

end Sys2Proof.Machine
end

