-- ==== Sys2Proof/Laws/Sound.lean ====
section
/-! SUPPORT. Sound slots and sound states, built from the few facts that a slot at rest needs. -/

namespace Sys2Proof.Machine

/-- A slot at rest agrees with itself in its operations, supply and timers. -/
theorem ControlWf.of_idle {c : SlotContext} (h : SlotIdle c) : ControlWf c where
  kinds := by simp [h.queue]
  idle := fun _ => ⟨h.queue, h.attempt⟩
  waiting := fun hc => absurd h.current hc
  running := fun ha => absurd h.attempt ha
  number := fun a ha => by simp [h.attempt] at ha
  step := fun op ho => by simp [h.current] at ho
  target := fun op ho => by simp [h.current] at ho
  settle := by simp [h.timers.1, h.supply]
  idleTimer := by simp [h.timers.2, h.supply]
  unpowered := fun _ => h.supply

/-- A slot context as power-on leaves it is at rest. -/
theorem SlotIdle.initial (raw : Seat) : SlotIdle (SlotContext.initial raw) := ⟨rfl, rfl, rfl, rfl, rfl, rfl⟩

/-- A slot without a binding agrees with itself. -/
theorem BindingWf.starting {c : SlotContext} (hb : c.bindingState = .noCartridge) (hr : c.record = .starting) :
    BindingWf c := by
  constructor <;> simp [hb, hr, BindingRecord.starting, BindingRecord.uEst]

/-- The slots of a state are sound when each rests and agrees with its binding, a part that is unpowered or RESTORING has no
binding, and no checkpoint stands with A above E or E above 2^32 - 1. -/
theorem SlotsWf.of_idle {s : State} (hi : ∀ n : Slot, SlotIdle (s.slot n)) (hb : ∀ n : Slot, BindingWf (s.slot n))
    (hu : s.powered = false ∨ s.restoring = true → ∀ n : Slot, (s.slot n).bindingState = .noCartridge)
    (hc : ∀ (n : Slot) (c : Checkpoint), s.refill.checkpoints[n] = some c →
      c.acknowledged ≤ c.estimate ∧ c.estimate ≤ Config.max32) : SlotsWf s :=
  ⟨fun n => .of_idle (hi n), hb, fun _ => hi, hu, hc⟩

/-- Replacing one slot of a running part by a sound one leaves its slots sound. -/
theorem SlotsWf.setSlot {s : State} {c : SlotContext} (h : SlotsWf s) (hr : s.running = true) (n : Slot) (hc : ControlWf c)
    (hb : BindingWf c) : SlotsWf (s.setSlot n c) where
  control m := by
    rw [State.slot_setSlot]
    split
    · exact hc
    · exact h.control m
  binding m := by
    rw [State.slot_setSlot]
    split
    · exact hb
    · exact h.binding m
  stopped hs := by
    have hs' : s.running = false := hs
    simp [hr] at hs'
  unbound hu := by
    have hu' : s.powered = false ∨ s.restoring = true := hu
    simp only [State.running, State.alive, Bool.and_eq_true] at hr
    rcases hu' with hu' | hu' <;> simp [hu'] at hr
  checkpoints := h.checkpoints

end Sys2Proof.Machine
end

