-- ==== Sys2Proof/WellFormed.lean ====
section
/-! DEFINITION. Which commands are well formed: operands that the event named can carry. -/

namespace Sys2Proof

/-- A command whose operands can come with its event. A response has the length of one of the three transactions (R197),
a timeout finds fewer bytes than the longest response (R83), and a position decays once (R173). -/
def Instr.wellFormed : Instr → Bool
  | .powerOn decayed => decide decayed.Nodup
  | .cartridgeResponse _ response => response.length == 6 || response.length == 17 || response.length == 23
  | .attemptTimeout _ received => decide (received < 23)
  | .endOfRestoring | .lossOfPower | .pinResetAsserted | .pinResetReleased | .frameArrivalBegins _
  | .frameArrivalEnds _ | .unknownKindFrame | .fire | .spit | .swathStart | .swathEnd | .streamReset
  | .heldSwathStartForwarded | .headTransferBegins _ | .headTransferCompletes | .returnTransmissionBegins
  | .returnTransmissionCompletes | .seatChange _ _ | .debounceExpiry _ | .settleTimerExpiry _ | .idleTimerExpiry _
  | .conversionComplete _ | .programVerify _ | .unknownRequest | .readSummary | .readSlot | .collectStatus
  | .startOperation | .haltSlot | .writeSlotConfig | .readSlotConfig | .writeLane | .readLane | .readLaneCounters
  | .writePolicy | .readPolicy | .lockPolicy | .writeSequence | .setSampleMode | .sampleNext | .sampleInput
  | .readSamples | .writeLimits | .readRetired | .forgetRetired | .provisionKey | .resumeStream | .clearConditions
  | .writeFaultMask => true

end Sys2Proof
end

