-- ==== Sys2Proof/Tests/Slice0.lean ====
section
/-! SUPPORT. Tests: ill-formed commands are refused by the check, published check values and the worked cases of the spec come
out, and every statement with hypotheses has a state and operands that meet them. -/

namespace Sys2Proof.Tests

open Sys2Proof Sys2Proof.Machine

-- One theorem at a time: each of many kernel evaluations in a thread of its own would take too much memory.
set_option Elab.async false

/-! ### WellFormed -/

theorem test_powerOn_refuses_a_position_named_twice : (Instr.powerOn [.key, .key]).wellFormed = false := by decide

theorem test_powerOn_takes_distinct_positions : (Instr.powerOn [.key, .checkpoint 0]).wellFormed = true := by decide

theorem test_cartridgeResponse_refuses_a_length_of_no_transaction :
    (Instr.cartridgeResponse 0 (List.replicate 7 0)).wellFormed = false := by decide

theorem test_attemptTimeout_refuses_a_full_response : (Instr.attemptTimeout 0 23).wellFormed = false := by decide

/-! ### States -/

/-- A running part with an empty Swath Port and every slot in NO_CARTRIDGE. -/
def up : State := { State.reset with restoring := false }

/-- The same with a committed key. -/
def keyed : State := { up with key := .present 5 }

/-- A state of the stream. -/
def inStream (st : StreamState) (s : State) : State := { s with port := { s.port with stream := st } }

/-- A frame alone in the input buffer, ready. -/
def taking (bs : List Byte) (s : State) : State := { s with port := { s.port with buffer := [{ bytes := bs, phase := .ready }] } }

/-- A frame behind a held SWATH_START. -/
def takingHeld (bs : List Byte) (s : State) : State :=
  { s with
      port := { s.port with
        buffer := [{ bytes := linkFrame 0x31 0x80 0 0 [], phase := .checked }, { bytes := bs, phase := .ready }],
        stream := .held } }

/-- A CONTROL frame with tag 11h alone in the input buffer. -/
def asking (code : Byte) (args : List Byte) (s : State) : State := taking (linkFrame 0xA5 0 0 0 (code :: 0x11 :: args)) s

/-- A CONTROL frame with tag 11h behind a held SWATH_START. -/
def askingHeld (code : Byte) (args : List Byte) (s : State) : State :=
  takingHeld (linkFrame 0xA5 0 0 0 (code :: 0x11 :: args)) s

/-- The state a command leaves. -/
def after (c : Instr) (s : State) : State :=
  match exec c s with
  | .next t => t
  | .fault _ => s
  | .refused _ => s

/-- The identity of the tests' cartridge. -/
def inkOf (capacity : Nat) : Identity := { serial := 7, inkType := 1, capacity := capacity, generation := 2 }

/-- A VERIFIED binding at rest: capacity C, U_bind u, last_written w. -/
def bound (capacity u w : Nat) : SlotContext :=
  { SlotContext.initial .seated with
      bindingState := .verified,
      record := { BindingRecord.starting with
        identity := some (inkOf capacity), uBind := some u, lastWritten := some w, verifiedOnce := true } }

/-- A slot with a binding state and a record, at rest. -/
def resting (b : BindingState) (r : BindingRecord) : SlotContext :=
  { SlotContext.initial .seated with bindingState := b, record := r }

/-- An operation of origin REQUESTED at a step. -/
def requested (k : OpKind) (t : Transaction) : CurrentOp :=
  { kind := k, origin := .requested, step := t, target := some 100, haltPending := false }

/-- Attempt `k` of a CHALLENGE or of another transaction. -/
def attempt (k : Nat) : Attempt := { number := k, nonce := some 9, request := [], timer := 25 }

/-- The slot with an attempt of an operation in flight. -/
def onBus (op : CurrentOp) (k : Nat) (c : SlotContext) : SlotContext :=
  { c with supply := .poweredOn, current := some op, attempt := some (attempt k) }

/-- The key and the tag of the tests' cartridge for a used count and a generation. -/
def tagFor (used : Nat) (generation : Byte) : List Byte :=
  keyedDigest (keyedDigest (beBytes 32 (5 : RootKey).toNat) (beBytes 8 (7 : Serial).toNat))
    (beBytes 16 (9 : Nonce).toNat ++ beBytes 8 (7 : Serial).toNat ++ beBytes 4 used ++ [generation])

/-! ### The premises that many statements share -/

/-- Frames can be taken: the part runs, the stream is IDLE or OPEN, the output queue has a place. -/
abbrev Ready (s : State) : Prop :=
  s.running = true ∧ (s.port.stream = .idle ∨ s.port.stream = .opened) ∧ s.port.outQueue.length < 4

theorem takenNext {bs : List Byte} {s : State} (h : Ready s) : TakenNext bs (taking bs s) :=
  ⟨h.1, by rcases h.2.1 with h | h <;> simp [eligible, taking, h], .inr h.2.2⟩

theorem takenNextHeld {bs : List Byte} {s : State} (h : s.running = true) (hc : controlClass (kindCode bs) = true) :
    TakenNext bs (takingHeld bs s) := by
  refine ⟨h, ?_, .inl hc⟩
  have hp : isControl { bytes := linkFrame 0x31 0x80 0 0 [], phase := .checked } = false := rfl
  have hq : isControl { bytes := bs, phase := .ready } = true := hc
  simp only [eligible, takingHeld, List.find?_cons, hp, hq]

theorem printNext {kind shape seq count : Byte} {payload : List Byte} {s : State} (h : Ready s) (hg : shape.msb = true)
    (hl : payload.length < 65536) :
    PrintNext kind shape seq count payload (taking (linkFrame kind shape seq count payload) s) :=
  ⟨takenNext h, hg, hl⟩

theorem requestNext {code : Byte} {args : List Byte} {s : State} (h : Ready s) (hr : s.replyQueue.length < 8)
    (ha : args.length ≤ 64) : RequestNext code 0x11 args 0 0 0 (asking code args s) :=
  ⟨takenNext h, rfl, ha, hr⟩

theorem requestNextHeld {code : Byte} {args : List Byte} {s : State} (h : s.running = true) (hr : s.replyQueue.length < 8)
    (ha : args.length ≤ 64) : RequestNext code 0x11 args 0 0 0 (askingHeld code args s) :=
  ⟨takenNextHeld h rfl, rfl, ha, hr⟩

theorem bound_control (capacity u w : Nat) : ControlWf (bound capacity u w) := .of_idle ⟨rfl, rfl, rfl, rfl, rfl, rfl⟩

theorem bound_binding {capacity u w : Nat} (h : w ≤ u) (hu : u ≤ 4294967295) : BindingWf (bound capacity u w) := by
  constructor <;> simp [bound, BindingRecord.starting, BindingRecord.uEst, satAdd32, satAdd, Config.max32, SlotContext.initial]
  · omega
  · omega

/-- The binding of a slot is sound whatever operation runs there. -/
theorem binding_onBus {op : CurrentOp} {k : Nat} {c : SlotContext} (h : BindingWf c) : BindingWf (onBus op k c) :=
  ⟨h.failure, h.noBinding, h.unidentified, h.identified, h.verified, h.evaluated, h.acknowledged, h.notAbove, h.stored⟩

theorem up_slot (n : Slot) : up.slot n = SlotContext.initial .empty := by simp [up, State.slot, State.reset]

theorem up_sound : SlotsWf up :=
  .of_idle (fun n => by rw [up_slot]; exact .initial .empty)
    (fun n => by rw [up_slot]; exact .starting rfl rfl) (fun _ n => by rw [up_slot]; rfl)
    (fun n c h => by simp [up, State.reset, RefillMonitor.initial] at h)

theorem keyed_sound : SlotsWf keyed :=
  ⟨up_sound.control, up_sound.binding, up_sound.stopped, up_sound.unbound, up_sound.checkpoints⟩

/-- The running part with one sound slot is sound. -/
theorem upWith_sound {n : Slot} {c : SlotContext} (hc : ControlWf c) (hb : BindingWf c) : SlotsWf (up.setSlot n c) :=
  up_sound.setSlot rfl n hc hb

/-! ### Witnesses: power and reset -/

/-- A part whose store holds two retired records of one serial and a program in flight. -/
def stored : State :=
  { State.reset with
      store := { RecordStore.initial with
        keyForm := .valid 5,
        retiredForms := (RecordStore.initial.retiredForms.set 3 (.valid (some ⟨7, 0, 10, .emptied, 1⟩))).set 47
          (.valid (some ⟨7, 1, 20, .refill, 4294967295⟩)) } }

theorem witness_PowerLossAndReturn :
    State.powered { stored with store := { stored.store with program := some { write := .key 6, attempt := 1 } } } = true ∧
      State.powered { stored with powered := false } = false := by decide

theorem stored_slot (n : Slot) : stored.slot n = SlotContext.initial .empty := by simp [stored, State.slot, State.reset]

theorem stored_sound (seats : Seat) (asserted : Bool) :
    SlotsWf { stored with slots := Vector.replicate 8 (.initial seats), resetAsserted := asserted } := by
  have hs : ∀ n : Slot,
      State.slot { stored with slots := Vector.replicate 8 (.initial seats), resetAsserted := asserted } n =
        SlotContext.initial seats := fun n => by simp [State.slot]
  refine .of_idle (fun n => ?_) (fun n => ?_) (fun _ n => ?_) (fun n c h => ?_)
  · rw [hs]; exact .initial seats
  · rw [hs]; exact .starting rfl rfl
  · rw [hs]; rfl
  · simp [stored, State.reset, RefillMonitor.initial] at h

/-- Both a part with RESET_N released and seated cartridges and one with RESET_N asserted. -/
theorem witness_EndOfRestoring :
    (∃ s : State, s.powered = true ∧ s.restoring = true ∧ SlotsWf s ∧ s.resetAsserted = false ∧ (s.slot 0).seat = .seated) ∧
      ∃ s : State, s.powered = true ∧ s.restoring = true ∧ SlotsWf s ∧ s.resetAsserted = true :=
  ⟨⟨_, rfl, rfl, stored_sound .seated false, rfl, by decide +kernel⟩, ⟨_, rfl, rfl, stored_sound .empty true, rfl⟩⟩

theorem witness_RestoredRetiredList : stored.powered = true ∧ stored.restoring = true := by decide

theorem witness_PinResetAsserted : up.powered = true ∧ up.resetAsserted = false := by decide

/-- The record of a slot in LINK_LOST or waiting for its proof, identified. -/
def identified : BindingRecord := { BindingRecord.starting with identity := some (inkOf 1000) }

/-- A part with a stored key held in reset, with the slots given. -/
def inReset (slots : Vector SlotContext 8) : State :=
  { keyed with resetAsserted := true, slots := slots, store := { keyed.store with keyForm := .valid 5 } }

/-- An empty seat at rest with a binding. -/
def unseated (c : SlotContext) : SlotContext := { c with rawSeat := .empty, debounce := some 50 }

/-- The eight cases of the release: empty without and with a binding, then seated in each binding state that is proved again or
bound anew. -/
def releasedSlots : Vector SlotContext 8 :=
  #v[.initial .empty, unseated (bound 1000 100 100), .initial .seated, resting .pendingId .starting,
    resting .linkLost .starting, resting .pendingAuth identified, bound 1000 100 100, resting .linkLost identified]

/-- The states that the release leaves as they are. -/
def keptSlots : Vector SlotContext 8 :=
  #v[resting .unverified identified, resting .failed { identified with failure := some .auth }, resting .released identified,
    .initial .empty, .initial .empty, .initial .empty, .initial .empty, .initial .empty]

theorem resting_sound (b : BindingState) (r : BindingRecord) (h : BindingWf (resting b r)) :
    SlotIdle (resting b r) ∧ BindingWf (resting b r) := ⟨⟨rfl, rfl, rfl, rfl, rfl, rfl⟩, h⟩

theorem inReset_sound {slots : Vector SlotContext 8} (h : ∀ n : Slot, SlotIdle slots[n] ∧ BindingWf slots[n]) :
    SlotsWf (inReset slots) :=
  .of_idle (fun n => (h n).1) (fun n => (h n).2) (fun hu => by rcases hu with hu | hu <;> cases hu)
    (fun n c h => by simp [inReset, keyed, up, State.reset, RefillMonitor.initial] at h)

theorem releasedSlots_sound : SlotsWf (inReset releasedSlots) := by
  refine inReset_sound fun n => ?_
  fin_cases n <;> refine ⟨⟨rfl, rfl, rfl, rfl, rfl, rfl⟩, ?_⟩ <;>
    constructor <;> simp [releasedSlots, unseated, bound, resting, SlotContext.initial, identified, BindingRecord.starting,
      BindingRecord.uEst, satAdd32, satAdd, Config.max32]

theorem keptSlots_sound : SlotsWf (inReset keptSlots) := by
  refine inReset_sound fun n => ?_
  fin_cases n <;> refine ⟨⟨rfl, rfl, rfl, rfl, rfl, rfl⟩, ?_⟩ <;>
    constructor <;> simp [keptSlots, resting, SlotContext.initial, identified, BindingRecord.starting, BindingRecord.uEst]

theorem withKey_proof {s : State} (h : s.keyPresent = true) : ProofWf s :=
  ⟨fun hk => absurd (h.symm.trans hk) Bool.noConfusion, fun hk => absurd (h.symm.trans hk) Bool.noConfusion⟩

theorem inReset_key (slots : Vector SlotContext 8) : KeyWf (inReset slots) where
  present k hk := by cases hk; exact ⟨rfl, rfl, rfl⟩
  provisioning hk := by cases hk
  absent hk := by cases hk
  unsettled h := by rcases h with h | h <;> cases h

/-- With a key: each binding state that the release changes, and each that it leaves. -/
theorem witness_PinResetReleased :
    ∀ slots ∈ [releasedSlots, keptSlots],
      (inReset slots).powered = true ∧ (inReset slots).resetAsserted = true ∧ (inReset slots).restoring = false ∧
        KeyWf (inReset slots) ∧ SlotsWf (inReset slots) ∧ ProofWf (inReset slots) := by
  intro slots hs
  simp only [List.mem_cons, List.not_mem_nil, or_false] at hs
  rcases hs with rfl | rfl
  · exact ⟨rfl, rfl, rfl, inReset_key _, releasedSlots_sound, withKey_proof rfl⟩
  · exact ⟨rfl, rfl, rfl, inReset_key _, keptSlots_sound, withKey_proof rfl⟩

/-- The slots of `keptSlots` without a PRESENT key: none, or one committed in the assertion; with both held flags set or clear. -/
def keyless (key : KeyState) (held flags : Bool) : State :=
  { inReset keptSlots with
      key := key, keyCommitHeld := held, restoreEndedInReset := flags,
      store := { (inReset keptSlots).store with heldFailure := flags, invalidCount := flags.toNat } }

theorem keyless_proof (key : KeyState) (held flags : Bool) : ProofWf (keyless key held flags) := by
  have hn : ∀ n : Slot, keptSlots[n].bindingState ≠ .pendingAuth ∧ keptSlots[n].bindingState ≠ .verified ∧
      (keptSlots[n].bindingState = .linkLost → keptSlots[n].record.identity = none) ∧ keptSlots[n].current = none := by decide
  exact ⟨fun _ n => ⟨(hn n).1, (hn n).2.1, (hn n).2.2.1⟩,
    fun _ n op h => absurd ((hn n).2.2.2.symm.trans h) (Option.some_ne_none op).symm⟩

/-- No key, a key commit that was held with an UNVERIFIED binding at slot 0, and RESTORING. -/
theorem witness_PinResetReleased_keyless :
    (∀ flags : Bool, ∃ s, s = keyless .absent false flags ∧ KeyWf s ∧ SlotsWf s ∧ ProofWf s ∧ s.store.heldFailure = flags ∧
      s.restoreEndedInReset = flags) ∧
    (∃ s, s = keyless .provisioning true false ∧ KeyWf s ∧ SlotsWf s ∧ ProofWf s ∧ s.keyCommitHeld = true ∧
      s.store.keyForm = .valid 5 ∧ (s.slot 0).rawSeat = .seated ∧ (s.slot 0).bindingState = .unverified) ∧
    ∃ s : State, s.powered = true ∧ s.resetAsserted = true ∧ s.restoring = true ∧ KeyWf s ∧ SlotsWf s ∧ ProofWf s := by
  have hs (key : KeyState) (held flags : Bool) : SlotsWf (keyless key held flags) :=
    ⟨keptSlots_sound.control, keptSlots_sound.binding, keptSlots_sound.stopped, keptSlots_sound.unbound,
      keptSlots_sound.checkpoints⟩
  refine ⟨fun flags => ⟨_, rfl, ⟨?_, ?_, fun _ => ⟨rfl, rfl⟩, fun _ => rfl⟩, hs _ _ _, keyless_proof _ _ _, rfl, rfl⟩,
    ⟨_, rfl, ⟨?_, fun _ => .inr ⟨by decide, rfl, rfl, 5, rfl⟩, ?_, ?_⟩, hs _ _ _, keyless_proof _ _ _, rfl, rfl, rfl, rfl⟩,
    { State.reset with resetAsserted := true }, rfl, rfl, rfl, ⟨?_, ?_, fun _ => ⟨by decide, rfl⟩, fun _ => rfl⟩, ?_, ?_⟩
  all_goals first
    | exact fun _ h => KeyState.noConfusion h
    | exact fun h => KeyState.noConfusion h
    | exact fun h => by rcases h with h | h <;> cases h
    | skip
  · exact .of_idle (fun n => by simp [State.slot, State.reset]; exact .initial .empty)
      (fun n => by simp [State.slot, State.reset]; exact .starting rfl rfl)
      (fun _ n => by simp [State.slot, State.reset, SlotContext.initial])
      (fun n c h => by simp [State.reset, RefillMonitor.initial] at h)
  · exact ⟨fun _ n => by simp [State.slot, State.reset, SlotContext.initial],
      fun _ n op h => by simp [State.slot, State.reset, SlotContext.initial] at h⟩

/-! ### Witnesses: frames and the links -/

/-- The input buffer with `k` ready frames. -/
def buffered (k : Nat) (s : State) : State :=
  { s with port := { s.port with buffer := List.replicate k { bytes := [0xA5], phase := .ready } } }

/-- Three frames leave a place, four do not; a print-class frame is refused in HELD. -/
theorem witness_FrameAdmission_begins :
    ∀ s ∈ [buffered 3 up, buffered 4 up, buffered 3 (inStream .held up)],
      s.running = true ∧ isArriving s.port.buffer = false := by decide +kernel

theorem witness_FrameAdmission_lost :
    ∀ s ∈ [{ up with resetAsserted := true }, State.reset, { State.reset with restoring := false, powered := false }],
      s.resetAsserted = true ∨ s.restoring = true ∨ s.powered = false := by decide +kernel

theorem witness_FrameAdmission_ends :
    ∃ (first : List Byte) (before : List BufferedFrame) (s : State), s.running = true ∧
      s.port.buffer = before ++ [{ bytes := first, phase := .arriving }] ∧ ∀ f ∈ before, f.phase ≠ .arriving :=
  ⟨[0x21], [{ bytes := [0xA5], phase := .ready }],
    { up with port := { up.port with buffer := [{ bytes := [0xA5], phase := .ready }, { bytes := [0x21], phase := .arriving }] } },
    rfl, rfl, by decide⟩

/-- Seven bytes; eight of an unknown kind; a guard bit that equals the kind's top bit. -/
theorem witness_FailedChecks_guard :
    ∀ bs ∈ [List.replicate 7 0x31, [0x30, 0x80, 0, 0, 0, 0, 0, 0], [0xA5, 0x80, 0, 0, 0, 2, 1, 1, 0, 0]],
      TakenNext bs (taking bs up) ∧ GuardFails bs :=
  fun bs hb => ⟨takenNext (by decide), by unfold GuardFails; revert bs; decide +kernel⟩

theorem witness_FailedChecks_unknown_kind :
    ∀ bs ∈ [[0x20], [0x30, 0x80, 0, 0, 0, 0, 0, 0]],
      TakenNext bs (taking bs up) ∧ ∀ kind ∈ [0x21, 0x22, 0x31, 0x32, 0xA5, 0xC3], byteAt bs 0 ≠ kind :=
  fun bs hb => ⟨takenNext (by decide), by revert bs; decide +kernel⟩

/-- A payload length that is not the bytes received; a SPIT of size 0; a FIRE of 65 columns. -/
theorem witness_FailedChecks_length :
    ∀ bs ∈ [[0x31, 0x80, 0, 0, 0, 1, 0, 0], linkFrame 0x22 0x80 0 1 [], linkFrame 0x21 0x80 0 65 (List.replicate 1040 0)],
      TakenNext bs (taking bs up) ∧ ¬GuardFails bs ∧ LengthFails up bs :=
  fun bs hb => ⟨takenNext (by decide), by unfold GuardFails; revert bs; decide +kernel,
    by unfold LengthFails; revert bs; decide +kernel⟩

theorem witness_FailedChecks_crc :
    ∃ bs, TakenNext bs (taking bs up) ∧ ¬GuardFails bs ∧ ¬LengthFails up bs ∧ CrcFails bs :=
  ⟨[0x31, 0x80, 0, 0, 0, 0, 0, 0], takenNext (by decide), by unfold GuardFails; decide +kernel,
    by unfold LengthFails; decide +kernel, by unfold CrcFails; decide +kernel⟩

/-- A part whose UNMAPPED lanes have an action. -/
def unmappedTo (a : Action) (s : State) : State := { s with policy := { s.policy with actions := s.policy.actions.set 0 a } }

/-- A FIRE frame of one column on lane 0, which has 64 nozzles. -/
def column : List Byte := List.replicate 16 0x1B

theorem column_taken (a : Action) (st : StreamState) (h : st = .idle ∨ st = .opened) :
    PrintNext 0x21 0x80 0 1 column (taking (linkFrame 0x21 0x80 0 1 column) (inStream st (unmappedTo a up))) :=
  printNext ⟨rfl, h, Nat.zero_lt_succ _⟩ rfl (by decide)

theorem witness_FireBlanked :
    ∃ s, PrintNext 0x21 0x80 0 1 column s ∧ s.port.stream = .opened ∧ s.laneAction (laneOfShape 0x80) = .blank ∧
      column.length = (1 : Byte).toNat * (s.laneEntry (laneOfShape 0x80)).nozzles / 4 :=
  ⟨_, column_taken .blank .opened (.inr rfl), rfl, by decide +kernel, by decide +kernel⟩

/-- The frame in IDLE, and in OPEN with each action but BLANK. -/
theorem witness_FireCounted :
    (∃ s, PrintNext 0x21 0x80 0 1 column s ∧ s.port.stream = .idle ∧
      column.length = (1 : Byte).toNat * (s.laneEntry (laneOfShape 0x80)).nozzles / 4) ∧
    ∀ a ∈ [Action.pass, .mark, .hold], ∃ s, PrintNext 0x21 0x80 0 1 column s ∧ s.port.stream = .opened ∧
      s.laneAction (laneOfShape 0x80) = a ∧
      column.length = (1 : Byte).toNat * (s.laneEntry (laneOfShape 0x80)).nozzles / 4 := by
  refine ⟨⟨_, column_taken .pass .idle (.inl rfl), rfl, by decide +kernel⟩, fun a ha => ?_⟩
  simp only [List.mem_cons, List.not_mem_nil, or_false] at ha
  rcases ha with rfl | rfl | rfl
  · exact ⟨_, column_taken .pass .opened (.inr rfl), rfl, by decide +kernel, by decide +kernel⟩
  · exact ⟨_, column_taken .mark .opened (.inr rfl), rfl, by decide +kernel, by decide +kernel⟩
  · exact ⟨_, column_taken .hold .opened (.inr rfl), rfl, by decide +kernel, by decide +kernel⟩

/-- Sizes 1 and 3, in IDLE and OPEN, with a count of 1. -/
theorem witness_Spit :
    ∀ shape ∈ [(0x90 : Byte), 0xB0], ∀ st ∈ [StreamState.idle, .opened],
      ∃ (s : State) (n : Nat → Nat), PrintNext 0x22 shape 0 1 [] s ∧ s.port.stream = st ∧ 1 ≤ shape.toNat / 16 % 8 ∧
        shape.toNat / 16 % 8 ≤ 3 ∧
        ∀ size, n size =
          if shape.toNat / 16 % 8 = size then (1 : Byte).toNat * (s.laneEntry (laneOfShape shape)).nozzles else 0 := by
  intro shape hs st ht
  have hg : shape.msb = true := by revert shape; decide
  have hz : 1 ≤ shape.toNat / 16 % 8 ∧ shape.toNat / 16 % 8 ≤ 3 := by revert shape; decide
  have ho : st = .idle ∨ st = .opened := by revert st; decide
  exact ⟨_, _, printNext (s := inStream st up) ⟨rfl, ho, Nat.zero_lt_succ _⟩ hg (by decide), rfl, hz.1, hz.2, fun _ => rfl⟩

/-- A part whose lane 0 is mapped to the empty slot 0, whose action is HOLD. -/
def holding (s : State) : State := s.setLane 0 { s.laneEntry 0 with slot := some 0 }

theorem up_noLaneHolds (st : StreamState) (bs : List Byte) : NoLaneHolds (taking bs (inStream st up)) := by
  intro l h
  have hn : ∀ l : Lane, (up.laneEntry l).slot = none := by decide +kernel
  exact absurd (hn l) h

theorem holding_holds (st : StreamState) (bs : List Byte) : ¬NoLaneHolds (taking bs (inStream st (holding up))) :=
  fun h => h 0 (by decide +kernel : ((holding up).laneEntry 0).slot ≠ none)
    (by decide +kernel : (holding up).laneAction 0 = .hold)

theorem witness_SwathStartOpens :
    ∃ s, PrintNext 0x31 0x80 0 0 [] s ∧ s.port.stream = .idle ∧ NoLaneHolds s :=
  ⟨_, printNext (s := inStream .idle up) ⟨rfl, .inl rfl, by decide⟩ rfl (by decide), rfl, up_noLaneHolds _ _⟩

theorem witness_SwathStartHeld :
    ∃ s, PrintNext 0x31 0x80 0 0 [] s ∧ s.port.stream = .idle ∧ ¬NoLaneHolds s :=
  ⟨_, printNext (s := inStream .idle (holding up)) ⟨rfl, .inl rfl, by decide⟩ rfl (by decide), rfl, holding_holds _ _⟩

theorem witness_SwathClosed :
    (∃ s, PrintNext 0x32 0x80 0 0 [] s ∧ s.port.stream = .opened) ∧
    (∃ s, PrintNext 0x32 0x80 0 0 [] s ∧ s.port.stream = .idle) ∧
    (∃ s, PrintNext 0x31 0x80 0 0 [] s ∧ s.port.stream = .opened ∧ NoLaneHolds s) ∧
    ∃ s, PrintNext 0x31 0x80 0 0 [] s ∧ s.port.stream = .opened ∧ ¬NoLaneHolds s :=
  ⟨⟨_, printNext (s := inStream .opened up) ⟨rfl, .inr rfl, by decide⟩ rfl (by decide), rfl⟩,
    ⟨_, printNext (s := up) (by decide) rfl (by decide), rfl⟩,
    ⟨_, printNext (s := inStream .opened up) ⟨rfl, .inr rfl, by decide⟩ rfl (by decide), rfl, up_noLaneHolds _ _⟩,
    ⟨_, printNext (s := inStream .opened (holding up)) ⟨rfl, .inr rfl, by decide⟩ rfl (by decide), rfl, holding_holds _ _⟩⟩

/-- Taken in IDLE and behind a held SWATH_START. -/
theorem witness_StreamReset :
    (∃ s, TakenNext (linkFrame 0xC3 0 0 0 []) s ∧ s.port.stream = .idle) ∧
      (∃ s, TakenNext (linkFrame 0xC3 0 0 0 []) s ∧ s.port.stream = .held) ∧ (0 : Byte).msb = false :=
  ⟨⟨_, takenNext (s := up) (by decide), rfl⟩, ⟨_, takenNextHeld (s := up) rfl rfl, rfl⟩, rfl⟩

/-- The part with frames on its links. -/
def linked (out : List (List Byte)) (back : List ReturnFrame) (s : State) : State :=
  { s with port := { s.port with outQueue := out }, agent := { s.agent with returnQueue := back } }

theorem witness_Links_held :
    ∃ (f : BufferedFrame) (rest : List BufferedFrame) (s : State), s.running = true ∧ s.port.stream = .opened ∧
      s.port.buffer = f :: rest ∧ f.phase = .checked ∧ s.port.outQueue.length < 4 :=
  ⟨_, _, inStream .opened (takingHeld [0xA5] (linked [[1], [2], [3]] [] up)), rfl, rfl, rfl, rfl, by decide⟩

theorem witness_Links_head :
    (∃ (f : List Byte) (rest : List (List Byte)) (s : State), s.alive = true ∧ s.port.headTransfer = none ∧
      s.port.outQueue = f :: rest) ∧
    ∃ s : State, s.port.outQueue = [] := ⟨⟨_, _, linked [[1]] [] up, rfl, rfl, rfl⟩, up, rfl⟩

theorem witness_Links_back :
    (∀ f ∈ [ReturnFrame.reply 1 1 .ok [] 0, .report false 0 [] 0], ∃ (rest : List ReturnFrame) (s : State), s.alive = true ∧
      s.port.returnTransmission = none ∧ s.agent.returnQueue = f :: rest) ∧
    ∃ s : State, s.port.returnTransmission ≠ none :=
  ⟨fun f _ => ⟨[], linked [] [f] up, rfl, rfl, rfl⟩, { up with port := { up.port with returnTransmission := some [1] } },
    by decide⟩

/-! ### Witnesses: metering -/

/-- A drop report on lane 4 for a slot, with the volumes of chapter 3's worked cases. -/
def report (slot : Option Slot) (n1 n2 n3 k : Nat) (marked : Bool) : DropReport :=
  { lane := 4, slot := slot, n1 := n1, n2 := n2, n3 := n3, v1 := 180, v2 := 420, v3 := 1200, thermal := 2, defaultBand := 3,
    k := Vector.replicate 8 k, marked := marked }

theorem witness_DropReportDestinations :
    (report none 1 2 3 1024 false).slot = none ∧
    (∀ c ∈ [SlotContext.initial .empty, resting .released identified],
      (report (some 2) 1 2 3 1024 false).slot = some 2 ∧ ¬Charged ((up.setSlot 2 c).slot 2)) ∧
    Charged ((up.setSlot 2 (bound 1000 100 100)).slot 2) := by
  unfold Charged
  decide +kernel

theorem resting_binding_pending : BindingWf (resting .pendingId .starting) := by
  constructor <;> simp [resting, SlotContext.initial, BindingRecord.starting, BindingRecord.uEst]

theorem resting_binding_lost : BindingWf (resting .linkLost .starting) := by
  constructor <;> simp [resting, SlotContext.initial, BindingRecord.starting, BindingRecord.uEst]

theorem resting_control (b : BindingState) (r : BindingRecord) : ControlWf (resting b r) :=
  .of_idle ⟨rfl, rfl, rfl, rfl, rfl, rfl⟩

/-- VERIFIED, PENDING_ID and LINK_LOST before any proof; the verify interval reached and not reached. -/
theorem witness_CreditArithmetic :
    (∃ s : State, SlotsWf s ∧ s.slot 2 = bound 10000 1500 1500 ∧ Charged (s.slot 2)) ∧
    (∃ s : State, SlotsWf s ∧ s.slot 2 = resting .pendingId .starting ∧ Charged (s.slot 2)) ∧
    (∃ s : State, SlotsWf s ∧ s.slot 2 = resting .linkLost .starting ∧ Charged (s.slot 2)) := by
  refine ⟨⟨_, upWith_sound (bound_control 10000 1500 1500) (bound_binding (by decide) (by decide)),
      State.slot_setSlot_self 2 _ _, ?_⟩,
    ⟨_, upWith_sound (resting_control .pendingId .starting) resting_binding_pending, State.slot_setSlot_self 2 _ _, ?_⟩,
    ⟨_, upWith_sound (resting_control .linkLost .starting) resting_binding_lost, State.slot_setSlot_self 2 _ _, ?_⟩⟩ <;>
    rw [State.slot_setSlot_self] <;> exact ⟨by decide, by decide⟩

/-- A credit without a whole IU and one with some; C reached exactly, as EMPTY asks. -/
theorem witness_CreditMarksAndEvidence :
    ∃ (s : State) (i : Identity) (u : Nat), SlotsWf s ∧ Charged (s.slot 2) ∧ (s.slot 2).record.identity = some i ∧
      (s.slot 2).record.uBind = some u ∧
      ((s.slot 2).record.residue + frameVolume s.monitor (report (some 2) 1 0 0 1024 false)) / 10240000000 = 0 ∧
      ((s.slot 2).record.residue + frameVolume s.monitor (report (some 2) 0 0 8334 1024 false)) / 10240000000 = 1 ∧
      i.capacity = u + 1 := by
  refine ⟨_, inkOf 1000, 999, upWith_sound (n := 2) (bound_control 1000 999 900) (bound_binding (by decide) (by decide)), ?_⟩
  unfold Charged
  decide +kernel

/-- The three outcomes of the two tests, each interval reached exactly or missed by one. -/
theorem witness_AutomaticOperations :
    ∀ p ∈ [(1000, 0), (999, 10000), (999, 9999)], ∃ (s : State) (c : SlotContext), SlotsWf s ∧ s.keyPresent = true ∧
      c = s.slot 2 ∧ c.bindingState = .verified ∧ c.current = none ∧ c.supply = .off ∧ c.record.uBind = some p.1 ∧
      c.record.lastWritten = some 0 ∧ c.config.writeBack = 1000 ∧ c.config.verify = 10000 ∧ c.record.sinceVerify = p.2 := by
  intro p hp
  have hb : p.1 ≤ 4294967295 := by revert p; decide
  have h := bound_binding (capacity := 10000) (Nat.zero_le p.1) hb
  refine ⟨State.setSlot keyed 2 { bound 10000 p.1 0 with
      record := { (bound 10000 p.1 0).record with sinceVerify := p.2 } }, _, ?_, rfl, rfl, ?_⟩
  · exact keyed_sound.setSlot rfl 2 (.of_idle ⟨rfl, rfl, rfl, rfl, rfl, rfl⟩)
      ⟨h.failure, fun hn => BindingState.noConfusion hn, h.unidentified, h.identified, h.verified, h.evaluated, h.acknowledged, h.notAbove, h.stored⟩
  · rw [State.slot_setSlot_self]
    exact ⟨rfl, rfl, rfl, rfl, rfl, rfl, rfl, rfl⟩

/-- A slot without an operation is sound where its supply and its timers agree. -/
theorem idle_control {c : SlotContext} (hc : c.current = none) (hq : c.queue = []) (ha : c.attempt = none)
    (hs : c.settleTimer.isSome = decide (c.supply = .settling))
    (hi : c.idleTimer = if c.supply = .poweredOn ∧ c.attempt = none then idleStart c.config else none)
    (hb : c.bindingState ≠ .noCartridge ∧ c.bindingState ≠ .released) : ControlWf c :=
  ⟨by simp [hq], fun _ => ⟨hq, ha⟩, fun h => absurd hc h, fun h => absurd ha h, by simp [ha], by simp [hc], by simp [hc], hs, hi,
    fun h => absurd h (not_or.mpr hb)⟩

/-- The slot with an operation that waits for the supply, and a queue. -/
def waiting (op : CurrentOp) (q : List QueueEntry) (c : SlotContext) : SlotContext :=
  { c with supply := .settling, settleTimer := some 5, current := some op, queue := q }

theorem waiting_control {op : CurrentOp} {q : List QueueEntry} {c : SlotContext} (hq : (q.map QueueEntry.kind).Nodup)
    (ha : c.attempt = none) (hi : c.idleTimer = none) (hs : stepAllowed op c)
    (hb : c.bindingState ≠ .noCartridge ∧ c.bindingState ≠ .released) : ControlWf (waiting op q c) where
  kinds := hq
  idle h := by cases h
  waiting _ _ := rfl
  running h := absurd ha h
  number a h := by rw [waiting, ha] at h; cases h
  step o h := by cases h; exact hs
  target o _ _ h := absurd ha h
  settle := rfl
  idleTimer := by simp [waiting, hi]
  unpowered h := absurd h (not_or.mpr hb)

/-- A sound binding stays sound at other units since verify, under another supply, and behind another operation. -/
theorem binding_ofRecord {c d : SlotContext} (h : BindingWf c) (hb : d.bindingState = c.bindingState)
    (hn : c.bindingState ≠ .noCartridge) (v : Nat) (hr : d.record = { c.record with sinceVerify := v }) : BindingWf d := by
  refine ⟨?_, fun k => absurd (hb ▸ k) hn, ?_, ?_, ?_, ?_, ?_, ?_, ?_⟩ <;> rw [hr] <;> try rw [hb]
  · exact h.failure
  · exact h.unidentified
  · exact h.identified
  · exact h.verified
  · exact h.evaluated
  · exact h.acknowledged
  · exact h.notAbove
  · exact h.stored

/-- The general clause: a VERIFIED binding behind each operation it can have, its queue empty, with the entry of the kind asked
for, or barred by a RELEASE; at an idle slot with each supply, each interval reached exactly or missed by one; LINK_LOST with
an identity and without. -/
theorem witness_AutomaticOperations_general :
    (∀ k ∈ [OpKind.verify, .writeBack, .release], ∀ e ∈ [OpKind.verify, .writeBack, .release], ∃ (s : State) (c : SlotContext),
      SlotsWf s ∧ s.keyPresent = true ∧ c = s.slot 2 ∧ Charged c ∧ c.current = some (newOp k .requested) ∧
        c.queue = [{ kind := e, origin := .requested }] ∧ c.record.uBind = some 1000 ∧ c.record.lastWritten = some 0) ∧
    (∀ p ∈ [(1000, 10000), (1000, 9999), (999, 10000), (999, 9999)], ∀ supply ∈ [ContactSupply.off, .settling, .poweredOn],
      ∃ (s : State) (c : SlotContext), SlotsWf s ∧ s.keyPresent = true ∧ c = s.slot 2 ∧ Charged c ∧ c.current = none ∧
        c.supply = supply ∧ c.record.uBind = some p.1 ∧ c.record.lastWritten = some 0 ∧ c.config.writeBack = 1000 ∧
        c.config.verify = 10000 ∧ c.record.sinceVerify = p.2) ∧
    ∀ identity ∈ [none, some (inkOf 1000)], ∃ (s : State) (c : SlotContext), SlotsWf s ∧ s.keyPresent = true ∧ c = s.slot 2 ∧
      Charged c ∧ c.current = none ∧ c.bindingState = .linkLost ∧ c.record.identity = identity ∧ c.record.sinceVerify = 10000 := by
  have hb := bound_binding (capacity := 10000) (u := 1000) (w := 0) (by decide) (by decide)
  refine ⟨fun k hk e _ => ⟨State.setSlot keyed 2 (waiting (newOp k .requested) [{ kind := e, origin := .requested }]
      (bound 10000 1000 0)), _, ?_, rfl, rfl, ?_⟩, fun p hp supply hs => ?_, fun identity hi => ?_⟩
  · refine keyed_sound.setSlot rfl 2 (waiting_control (List.nodup_singleton _) rfl rfl ?_ (by decide))
      (binding_ofRecord hb rfl (by decide) 0 rfl)
    simp only [List.mem_cons, List.not_mem_nil, or_false] at hk
    rcases hk with rfl | rfl | rfl
    · exact ⟨by decide, by decide⟩
    · rfl
    · rfl
  · rw [State.slot_setSlot_self]; exact ⟨⟨BindingState.noConfusion, BindingState.noConfusion⟩, rfl, rfl, rfl, rfl⟩
  · have hw : p.1 ≤ 4294967295 := by revert p; decide
    refine ⟨State.setSlot keyed 2 { bound 10000 p.1 0 with
        supply := supply, settleTimer := if supply = .settling then some 5 else none,
        idleTimer := if supply = .poweredOn then idleStart .initial else none,
        record := { (bound 10000 p.1 0).record with sinceVerify := p.2 } }, _, ?_, rfl, rfl, ?_⟩
    · refine keyed_sound.setSlot rfl 2 (idle_control rfl rfl rfl ?_ ?_ ⟨BindingState.noConfusion, BindingState.noConfusion⟩)
        (binding_ofRecord (bound_binding (Nat.zero_le _) hw) rfl BindingState.noConfusion _ rfl)
      · simp only [List.mem_cons, List.not_mem_nil, or_false] at hs
        rcases hs with rfl | rfl | rfl <;> rfl
      · simp only [List.mem_cons, List.not_mem_nil, or_false] at hs
        rcases hs with rfl | rfl | rfl <;> rfl
    · rw [State.slot_setSlot_self]
      exact ⟨⟨BindingState.noConfusion, BindingState.noConfusion⟩, rfl, rfl, rfl, rfl, rfl, rfl, rfl⟩
  · refine ⟨State.setSlot keyed 2 (resting .linkLost { BindingRecord.starting with identity := identity, sinceVerify := 10000 }),
      _, keyed_sound.setSlot rfl 2 (resting_control _ _) ?_, rfl, rfl, ?_⟩
    · constructor <;> simp [resting, SlotContext.initial, BindingRecord.starting, BindingRecord.uEst]
    · rw [State.slot_setSlot_self]; exact ⟨⟨BindingState.noConfusion, BindingState.noConfusion⟩, rfl, rfl, rfl, rfl⟩

/-- The reset thresholds ascend; without a sample, and with one at a threshold. -/
theorem witness_BandOfASample :
    Monitor.initial.thresholds.toList.Pairwise (· < ·) ∧ Monitor.initial.samples[(2 : ThermalInput)] = none ∧
      ({ Monitor.initial with samples := Monitor.initial.samples.set 2 (some 2048) } : Monitor).samples[(2 : ThermalInput)] =
        some 2048 := by decide +kernel

/-! ### Witnesses: requests -/

/-- Eight replies wait. -/
def answered : State := linked [] (List.replicate 8 (.reply 1 1 .ok [] 0)) up

theorem witness_EveryRequestHasOneReply :
    (∃ s, TakenNext (linkFrame 0xA5 0 0 0 (0x01 :: 0x11 :: [])) s ∧ s.replyQueue.length < 8) ∧
      (∃ s, TakenNext (linkFrame 0xA5 0 0 0 (0x01 :: 0x11 :: List.replicate 64 0)) s ∧ 8 ≤ s.replyQueue.length) :=
  ⟨⟨_, takenNext (s := up) (by decide), by decide⟩, ⟨_, takenNext (s := answered) (by decide), by decide⟩⟩

/-- A request with these arguments can be taken in the running part. -/
theorem asks (code : Byte) (args : List Byte) (h : args.length ≤ 64) : RequestNext code 0x11 args 0 0 0 (asking code args up) :=
  requestNext (by decide) (by decide) h

theorem witness_ReadRequests :
    RequestNext 0x01 0x11 [] 0 0 0 (asking 0x01 [] up) ∧
    (∀ n : Slot, RequestNext 0x02 0x11 [byteOf n.val] 0 0 0 (asking 0x02 [byteOf n.val] up)) ∧
    (∀ n : Slot, RequestNext 0x07 0x11 [byteOf n.val] 0 0 0 (asking 0x07 [byteOf n.val] up)) ∧
    (∀ l : Lane, RequestNext 0x09 0x11 [byteOf l.val] 0 0 0 (asking 0x09 [byteOf l.val] up)) ∧
    RequestNext 0x0C 0x11 [] 0 0 0 (asking 0x0C [] up) ∧
    (∀ p ∈ [0, 47], RequestNext 0x14 0x11 [byteOf p] 0 0 0 (asking 0x14 [byteOf p] up)) ∧
    (∀ (l : Lane) (clear : Byte),
      RequestNext 0x0A 0x11 [byteOf l.val, clear] 0 0 0 (asking 0x0A [byteOf l.val, clear] up)) ∧
    ∀ clear : Byte, RequestNext 0x12 0x11 [clear] 0 0 0 (asking 0x12 [clear] up) :=
  ⟨asks _ _ (by decide), fun n => asks _ _ (Nat.le_of_ble_eq_true rfl), fun n => asks _ _ (Nat.le_of_ble_eq_true rfl),
    fun l => asks _ _ (Nat.le_of_ble_eq_true rfl), asks _ _ (by decide), fun p _ => asks _ _ (Nat.le_of_ble_eq_true rfl),
    fun l c => asks _ _ (Nat.le_of_ble_eq_true rfl), fun c => asks _ _ (Nat.le_of_ble_eq_true rfl)⟩

/-- Codes 0 and 26; a READ SUMMARY with an argument; a READ SLOT of slot 8. -/
theorem witness_RefusedRequests :
    (∀ code ∈ [(0 : Byte), 26], RequestNext code 0x11 [] 0 0 0 (asking code [] up) ∧ (code = 0 ∨ 26 ≤ code.toNat)) ∧
    RequestNext 0x01 0x11 [0] 0 0 0 (asking 0x01 [0] up) ∧ RequestNext 0x02 0x11 [8] 0 0 0 (asking 0x02 [8] up) :=
  ⟨fun code h => ⟨asks _ _ (by decide), by revert code; decide⟩, asks _ _ (by decide), asks _ _ (by decide)⟩

/-- Each way to miss the form of START OPERATION, WRITE LANE, WRITE SLOT CONFIG, WRITE POLICY and WRITE SEQUENCE. -/
theorem witness_RefusedRequests_form :
    (∀ args ∈ [[2, 0], [2, 5]], RequestNext 0x04 0x11 args 0 0 0 (asking 0x04 args up) ∧
      ((byteAt args 1).toNat = 0 ∨ 4 < (byteAt args 1).toNat)) ∧
    (∀ args ∈ [[4, 0], [16, 0, 1, 2], [4, 0x80, 0], [4, 0, 1]], RequestNext 0x08 0x11 args 0 0 0 (asking 0x08 args up) ∧
      (args.length < 3 ∨ 15 < (byteAt args 0).toNat ∨ fieldAt args 1 2 % 32768 = 0 ∨
        args.length ≠ 3 + selectedLength laneWidths (fieldAt args 1 2))) ∧
    (∀ args ∈ [[2], [8, 1, 3], [2, 0], [2, 1, 3, 3]], RequestNext 0x06 0x11 args 0 0 0 (asking 0x06 args up) ∧
      (args.length < 2 ∨ 7 < (byteAt args 0).toNat ∨ byteAt args 1 = 0 ∨
        args.length ≠ 2 + selectedLength slotConfigWidths (byteAt args 1).toNat)) ∧
    (∀ args ∈ [[0], [0x20, 0], [0, 0], [0, 1]], RequestNext 0x0B 0x11 args 0 0 0 (asking 0x0B args up) ∧
      (args.length < 2 ∨ 8192 ≤ fieldAt args 0 2 ∨ fieldAt args 0 2 = 0 ∨
        args.length ≠ 2 + selectedLength policyWidths (fieldAt args 0 2))) ∧
    ∀ args ∈ [[], [2, 5]], RequestNext 0x0E 0x11 args 0 0 0 (asking 0x0E args up) ∧
      (args = [] ∨ args.length ≠ 1 + (byteAt args 0).toNat) := by
  refine ⟨fun a h => ⟨asks _ _ ?_, ?_⟩, fun a h => ⟨asks _ _ ?_, ?_⟩, fun a h => ⟨asks _ _ ?_, ?_⟩, fun a h => ⟨asks _ _ ?_, ?_⟩,
    fun a h => ⟨asks _ _ ?_, ?_⟩⟩ <;> revert a <;> decide

/-- A hot input below its limit and one at its limit. -/
def heated (code : Code) : State :=
  { up with
      monitor := { up.monitor with samples := up.monitor.samples.set 0 (some code), limits := up.monitor.limits.set 0 2000 },
      agent := { up.agent with sticky := Condition.mask (.overtemp 0) } }

theorem witness_StatusRequests :
    (∀ code ∈ [(1999 : Code), 2000], RequestNext 0x18 0x11 (beBytes 4 (0x00010000 : Word32).toNat) 0 0 0
      (asking 0x18 (beBytes 4 (0x00010000 : Word32).toNat) (heated code))) ∧
    RequestNext 0x19 0x11 (beBytes 4 (0xFFFFFFFF : Word32).toNat) 0 0 0
      (asking 0x19 (beBytes 4 (0xFFFFFFFF : Word32).toNat) up) ∧
    ∀ n : Slot, RequestNext 0x03 0x11 [byteOf n.val] 0 0 0 (asking 0x03 [byteOf n.val] up) :=
  ⟨fun code _ => requestNext ⟨rfl, .inl rfl, Nat.zero_lt_succ _⟩ (Nat.zero_lt_succ _) (by decide), asks _ _ (by decide),
    fun n => asks _ _ (Nat.le_of_ble_eq_true rfl)⟩

theorem witness_StatusMerge :
    (some nothingActivePrimary ≠ none ∨ (0 : Byte) ≠ 0 ∨ (0 : Word16) ≠ 0) ∧
    ((none : Option Primary) ≠ none ∨ SlotEvent.bound.bits ≠ 0 ∨ (0 : Word16) ≠ 0) ∧
    ((none : Option Primary) ≠ none ∨ (0 : Byte) ≠ 0 ∨ Alert.keyAbsent.bits ≠ 0) := by decide

/-- The running part with slot 2, and a request to it. -/
theorem asksAt {c : SlotContext} {code : Byte} {args : List Byte} (h : args.length ≤ 64) (k : KeyState) :
    RequestNext code 0x11 args 0 0 0 (asking code args (State.setSlot { up with key := k } 2 c)) :=
  requestNext ⟨rfl, .inl rfl, Nat.zero_lt_succ _⟩ (Nat.zero_lt_succ _) h

/-- The clauses of START OPERATION: no cartridge; a kind that may not join; a current operation, with the kind queued and not;
an idle slot with each kind. -/
theorem witness_StartOperation :
    (∃ s, RequestNext 0x04 0x11 [2, byteOf OpKind.bind.code] 0 0 0 s ∧ (s.slot 2).bindingState = .noCartridge) ∧
    (∃ s, RequestNext 0x04 0x11 [2, byteOf OpKind.bind.code] 0 0 0 s ∧ (s.slot 2).bindingState ≠ .noCartridge ∧
      ¬MayJoin .bind (s.slot 2)) ∧
    (∀ q ∈ [[], [({ kind := .writeBack, origin := .auto } : QueueEntry)]], ∃ s,
      RequestNext 0x04 0x11 [2, byteOf OpKind.writeBack.code] 0 0 0 s ∧ (s.slot 2).current ≠ none ∧ (s.slot 2).queue = q ∧
        MayJoin .writeBack (s.slot 2) ∧ s.port.stream ≠ .resumePending) := by
  refine ⟨⟨_, asksAt (c := .initial .empty) (by decide) .absent, by decide +kernel⟩,
    ⟨_, asksAt (c := bound 1000 100 100) (by decide) .absent, by decide +kernel, ?_⟩, fun q hq => ?_⟩
  · unfold MayJoin MeetsCondition; decide +kernel
  · refine ⟨_, asksAt (c := { onBus (requested .verify .challenge) 1 (bound 1000 100 100) with queue := q }) (by decide)
      (.present 5), ?_⟩
    unfold MayJoin MeetsCondition
    simp only [List.mem_cons, List.not_mem_nil, or_false] at hq
    rcases hq with rfl | rfl <;> decide +kernel

/-- BIND at PENDING_ID and at a FAILED binding; VERIFY, WRITE_BACK and RELEASE of a VERIFIED one; the supply in each state. -/
theorem witness_StartOperation_idle :
    ∀ p ∈ [(OpKind.bind, resting .pendingId .starting), (.bind, resting .failed { identified with failure := some .auth }),
        (.verify, bound 1000 100 100), (.writeBack, bound 1000 100 100), (.release, bound 1000 100 100)],
      ∀ supply ∈ [ContactSupply.off, .settling, .poweredOn],
        ∃ s, RequestNext 0x04 0x11 [2, byteOf p.1.code] 0 0 0 s ∧ (s.slot 2).current = none ∧ (s.slot 2).queue = [] ∧
          (readied p.1 (s.slot 2)).supply = supply ∧ MayJoin p.1 (s.slot 2) ∧ s.keyPresent = true ∧
          s.port.stream ≠ .resumePending ∧
          (p.1 = .writeBack ∨ p.1 = .release → (readied p.1 (s.slot 2)).record.uBind = some 100) := by
  intro p hp supply hs
  refine ⟨_, asksAt (c := { p.2 with supply := supply }) (Nat.le_of_ble_eq_true rfl) (.present 5), ?_⟩
  unfold MayJoin MeetsCondition
  revert p supply
  decide +kernel

/-- A RELEASE of a binding that is not VERIFIED, with U_bind where the binding was evaluated. -/
theorem witness_OperationsThatEndAtOnce_release :
    ∀ c ∈ [resting .pendingAuth (bound 1000 100 100).record, resting .linkLost (bound 1000 1000 900).record,
        resting .failed { (bound 1000 100 100).record with failure := some .auth }, resting .unverified identified,
        resting .pendingId .starting],
      ∃ s, RequestNext 0x04 0x11 [byteOf (2 : Slot).val, 0x04] 0 0 0 s ∧ s.slot 2 = c ∧ c.current = none ∧ c.queue = [] ∧
        s.port.stream ≠ .resumePending ∧ MayJoin .release c ∧ BindingWf c ∧ c.bindingState ≠ .verified := by
  intro c hc
  refine ⟨_, asksAt (c := c) (by decide) .absent, State.slot_setSlot_self 2 c _, ?_⟩
  simp only [List.mem_cons, List.not_mem_nil, or_false] at hc
  rcases hc with rfl | rfl | rfl | rfl | rfl
  all_goals
    refine ⟨rfl, rfl, fun h => StreamState.noConfusion h, by unfold MayJoin MeetsCondition; decide, ?_, by decide⟩
    constructor <;> simp [bound, resting, SlotContext.initial, identified, BindingRecord.starting, BindingRecord.uEst, satAdd32,
      satAdd, Config.max32]

theorem witness_OperationsThatEndAtOnce :
    (∃ s, (s.slot 2).current = none ∧ (s.slot 2).queue = [] ∧ s.port.stream ≠ .resumePending ∧
      RequestNext 0x04 0x11 [byteOf (2 : Slot).val, 0x02] 0 0 0 s ∧ MayJoin .verify (s.slot 2) ∧ s.keyPresent = false) ∧
    ∃ s, (s.slot 2).current = none ∧ (s.slot 2).queue = [] ∧ s.port.stream ≠ .resumePending ∧
      RequestNext 0x04 0x11 [byteOf (2 : Slot).val, 0x04] 0 0 0 s ∧ MayJoin .release (s.slot 2) ∧
      (s.slot 2).bindingState ≠ .verified ∧ (s.slot 2).record.uBind = none := by
  refine ⟨⟨_, ?_, ?_, ?_, asksAt (c := resting .unverified identified) (by decide) .absent, ?_⟩,
    ⟨_, ?_, ?_, ?_, asksAt (c := resting .unverified identified) (by decide) .absent, ?_⟩⟩
  all_goals first | decide +kernel | (unfold MayJoin MeetsCondition; decide +kernel)

/-- No operation; one that waits for the supply; one with an attempt in flight; with a queued entry. -/
theorem witness_HaltSlot :
    ∀ c ∈ [bound 1000 100 100,
        { bound 1000 100 100 with
            supply := .settling, settleTimer := some 5, current := some (requested .verify .challenge),
            queue := [{ kind := .release, origin := .auto }] },
        onBus (requested .writeBack .advance) 1 (bound 1000 100 100)],
      ∃ s, RequestNext 0x05 0x11 [byteOf (2 : Slot).val] 0 0 0 s ∧ s.port.stream ≠ .resumePending ∧ s.slot 2 = c :=
  fun c _ => ⟨_, asksAt (c := c) (by decide) (.present 5), fun h => StreamState.noConfusion h, State.slot_setSlot_self 2 c _⟩

/-- A write of the idle delay alone, and one of the low mark: at a binding with U_est, a RELEASED one, one without U_est, and
without a binding. -/
theorem witness_WriteSlotConfig :
    ∀ v ∈ [[none, none, none, none, none, none, some 255, none], [none, some 65535, none, none, none, none, none, none]],
      ∀ c ∈ [bound 1000 900 900, resting .released (bound 1000 900 900).record, resting .unverified identified,
          SlotContext.initial .empty],
        ∃ s, SelectionFits slotConfigWidths v ∧ (∃ x, some x ∈ v) ∧
          RequestNext 0x06 0x11 ([byteOf (2 : Slot).val, byteOf (selectionBits v)] ++ selectionBytes slotConfigWidths v) 0 0 0 s ∧
          s.slot 2 = c ∧ c.config.lowMark = 100 := by
  intro v hv c hc
  have h100 : c.config.lowMark = 100 := by revert c; decide
  simp only [List.mem_cons, List.not_mem_nil, or_false] at hv
  rcases hv with rfl | rfl
  · exact ⟨_, by simp [SelectionFits, slotConfigWidths], ⟨255, by decide⟩, asksAt (c := c) (by decide) .absent,
      State.slot_setSlot_self 2 c _, h100⟩
  · exact ⟨_, by simp [SelectionFits, slotConfigWidths], ⟨65535, by decide⟩, asksAt (c := c) (by decide) .absent,
      State.slot_setSlot_self 2 c _, h100⟩

/-- A lane selection with the slot, the thermal input and the default band alone. -/
def laneChoice (slot thermal band : Option Nat) : List (Option Nat) :=
  [slot, none, none, none, none, thermal, band] ++ List.replicate 8 none

/-- Slot bytes 8 and 0FEh and an input and a band of 8 are refused; 7 and 0FFh are taken in IDLE, and turned away in OPEN. -/
theorem witness_WriteLane :
    (∀ v ∈ [laneChoice (some 8) none none, laneChoice (some 254) none none, laneChoice none (some 8) none,
        laneChoice none none (some 8)],
      SelectionFits laneWidths v ∧ (∃ x ∈ [8, 254], some x ∈ v) ∧ ∃ s,
      RequestNext 0x08 0x11 ([byteOf (15 : Lane).val] ++ beBytes 2 (selectionBits v) ++ selectionBytes laneWidths v) 0 0 0 s) ∧
    (∀ v ∈ [laneChoice (some 7) (some 7) (some 7), laneChoice (some 255) none none], ∀ st ∈ [StreamState.idle, .opened],
      SelectionFits laneWidths v ∧ (∃ x ∈ [7, 255], some x ∈ v) ∧ (fieldOf v 0 ≠ none) ∧ ∃ s, s.port.stream = st ∧
      RequestNext 0x08 0x11 ([byteOf (0 : Lane).val] ++ beBytes 2 (selectionBits v) ++ selectionBytes laneWidths v) 0 0 0 s) := by
  constructor
  · intro v hv
    simp only [List.mem_cons, List.not_mem_nil, or_false] at hv
    rcases hv with rfl | rfl | rfl | rfl
    all_goals exact ⟨by simp [SelectionFits, laneWidths, laneChoice], by decide, _, asks _ _ (by decide)⟩
  · intro v hv st ht
    have ho : st = .idle ∨ st = .opened := by revert st; decide
    simp only [List.mem_cons, List.not_mem_nil, or_false] at hv
    rcases hv with rfl | rfl
    all_goals exact ⟨by simp [SelectionFits, laneWidths, laneChoice], by decide, by decide, _, rfl,
      requestNext (s := inStream st up) ⟨rfl, ho, Nat.zero_lt_succ _⟩ (Nat.zero_lt_succ _) (by decide)⟩

/-- Actions 3 and 4 for GENUINE, the policy unlocked and locked. -/
theorem witness_PolicyRequests :
    (∀ x ∈ [3, 4], ∀ locked ∈ [true, false], ∃ (v : List (Option Nat)) (s : State), v = List.replicate 11 none ++ [some x, none] ∧
      SelectionFits policyWidths v ∧ s.policy.locked = locked ∧ s.port.stream ≠ .resumePending ∧
      RequestNext 0x0B 0x11 (beBytes 2 (selectionBits v) ++ selectionBytes policyWidths v) 0 0 0 s) ∧
    RequestNext 0x0D 0x11 [] 0 0 0 (asking 0x0D [] up) := by
  refine ⟨fun x hx locked _ => ⟨_, _, rfl, ?_, rfl, ?_,
    requestNext (s := { up with policy := { up.policy with locked := locked } }) ⟨rfl, .inl rfl, Nat.zero_lt_succ _⟩
      (Nat.zero_lt_succ _) ?_⟩, asks _ _ (by decide)⟩
  · simp only [List.mem_cons, List.not_mem_nil, or_false] at hx
    rcases hx with rfl | rfl <;> simp [SelectionFits, policyWidths, List.replicate]
  · exact fun h => StreamState.noConfusion h
  · simp only [List.mem_cons, List.not_mem_nil, or_false] at hx
    rcases hx with rfl | rfl <;> decide

/-- The held part whose lane 0 waits: its slot is PENDING_ID with a BIND current. -/
def waitingLane : State :=
  State.setSlot (holding up) 0
    { resting .pendingId .starting with supply := .settling, settleTimer := some 5, current := some (autoOp .bind) }

theorem witness_ResumeStream :
    (∃ s, RequestNext 0x17 0x11 [] 0 0 0 s ∧ s.port.stream ≠ .held) ∧
    (∃ s, RequestNext 0x17 0x11 [] 0 0 0 s ∧ s.port.stream = .held ∧ NoLaneHolds s ∧ ∀ l, (s.laneEntry l).slot = none) ∧
    (∃ s, RequestNext 0x17 0x11 [] 0 0 0 s ∧ s.port.stream = .held ∧ ¬NoLaneHolds s ∧
      ∀ n : Slot, (s.slot n).bindingState = .noCartridge) ∧
    ∃ s, RequestNext 0x17 0x11 [] 0 0 0 s ∧ s.port.stream = .held ∧ (s.laneEntry 0).slot = some 0 ∧
      (s.slot 0).bindingState = .pendingId ∧ (s.slot 0).current ≠ none ∧ s.laneAction 0 = .pass ∧
      ∃ h ∈ s.policy.holdCauses, h.lane = 0 := by
  have hn : ∀ l : Lane, (up.laneEntry l).slot = none := by decide +kernel
  refine ⟨⟨_, asks _ _ (by decide), by decide⟩,
    ⟨_, requestNextHeld (s := up) rfl (by decide) (by decide), rfl, fun l h => absurd (hn l) h, hn⟩,
    ⟨_, requestNextHeld (s := holding up) rfl (by decide) (by decide), rfl, fun h => h 0
      (by decide +kernel : ((holding up).laneEntry 0).slot ≠ none) (by decide +kernel : (holding up).laneAction 0 = .hold),
      by decide +kernel⟩,
    ⟨_, requestNextHeld (s := { waitingLane with
        policy := { waitingLane.policy with holdCauses := [{ lane := 0, condition := .noCartridge }] } })
      rfl (by decide) (by decide), rfl, by decide +kernel⟩⟩

/-- Lane 0 waits for the last attempt at an identity in slot 0, whose binding has credited some units; the stream is
RESUME_PENDING. -/
def resuming (units : Nat) : State :=
  let s := State.setSlot (holding up) 0
    (onBus (autoOp .bind) 3 (resting .pendingId { BindingRecord.starting with unverifiedUnits := units }))
  { s with
      port := { s.port with
        stream := .resumePending, buffer := [{ bytes := linkFrame 0x31 0x80 0 0 [], phase := .checked }] },
      policy := { s.policy with holdCauses := [{ lane := 0, condition := .noCartridge }] } }

/-- The attempt's failure ends the wait: below the unverified allowance the swath opens, at it the stream is HELD again. -/
theorem witness_ResumeStream_exit :
    ∀ p ∈ [(19, StreamState.opened), (20, .held)], ∃ (c : Instr) (s t : State), exec c s = .next t ∧
      s.port.stream = .resumePending ∧ t.port.stream = p.2 ∧ p.2 ≠ .resumePending ∧ c ≠ .streamReset ∧ c ≠ .pinResetAsserted ∧
      c ≠ .lossOfPower ∧ ∀ decayed, c ≠ .powerOn decayed := by
  intro p hp
  refine ⟨.attemptTimeout 0 0, resuming p.1, _, rfl, rfl, ?_, ?_, by decide, by decide, by decide,
    fun _ h => Instr.noConfusion h⟩
  all_goals revert p; decide +kernel

/-- A mode of the Condition Monitor, with a conversion in flight or none. -/
def sampling (m : SampleMode) (cv : Option Conversion) : State :=
  { up with monitor := { up.monitor with mode := m, conversion := cv } }

theorem sampling_asks (m : SampleMode) (cv : Option Conversion) {code : Byte} {args : List Byte} (h : args.length ≤ 64) :
    RequestNext code 0x11 args 0 0 0 (asking code args (sampling m cv)) :=
  requestNext ⟨rfl, .inl rfl, Nat.zero_lt_succ _⟩ (Nat.zero_lt_succ _) h

/-- No entry, nine entries and an input 8; eight entries in OFF and in a paced mode; each mode. -/
theorem witness_SampleSettings :
    (∀ entries ∈ [[], List.replicate 9 0, [(8 : Byte)]],
      RequestNext 0x0E 0x11 (byteOf entries.length :: entries) 0 0 0 (asking 0x0E (byteOf entries.length :: entries) up) ∧
        (entries = [] ∨ 8 < entries.length ∨ ∃ b ∈ entries, 7 < b.toNat)) ∧
    (∀ m ∈ [SampleMode.off, .swathPaced], ∃ s, RequestNext 0x0E 0x11 (byteOf 8 :: List.replicate 8 7) 0 0 0 s ∧
      s.monitor.mode = m) ∧
    ∀ mode : SampleMode, ∃ s, RequestNext 0x0F 0x11 [byteOf mode.code] 0 0 0 s ∧
      s.monitor.conversion = some { input := 0, origin := .sequence true } := by
  refine ⟨fun e he => ?_, fun m _ => ⟨_, sampling_asks m none (by decide), rfl⟩,
    fun mode => ⟨_, sampling_asks .off (some { input := 0, origin := .sequence true }) (by cases mode <;> decide), rfl⟩⟩
  simp only [List.mem_cons, List.not_mem_nil, or_false] at he
  rcases he with rfl | rfl | rfl
  all_goals exact ⟨asks _ _ (by decide), by decide⟩

/-- Each mode with the converter free and busy. -/
theorem witness_SampleTriggers :
    ∀ m ∈ [SampleMode.off, .swathPaced, .requestPaced], ∀ cv ∈ [none, some ({ input := 1, origin := .direct } : Conversion)],
      ∃ s, RequestNext 0x10 0x11 [] 0 0 0 s ∧ s.monitor.mode = m ∧ s.monitor.conversion = cv ∧
        s.monitor.sequence[s.monitor.position]? = some 0 ∧
        ∃ s, RequestNext 0x11 0x11 [byteOf (7 : ThermalInput).val] 0 0 0 s ∧ s.monitor.mode = m ∧ s.monitor.conversion = cv :=
  fun m _ cv _ => ⟨_, sampling_asks m cv (by decide), rfl, rfl, rfl, _, sampling_asks m cv (by decide), rfl, rfl⟩

/-- Seven thresholds from a start on. -/
def risingFrom (start : Nat) : Vector Nat 7 := Vector.ofFn fun i => start + i.val

/-- Thresholds up to 4096 and one above; equal thresholds; no pair; input 8; a limit at the sample and one above it. -/
theorem witness_WriteLimits :
    (∀ t ∈ [risingFrom 4090, risingFrom 4091, Vector.replicate 7 5],
      RequestNext 0x13 0x11 (0x01 :: t.toList.flatMap (beBytes 2)) 0 0 0 (asking 0x13 (0x01 :: t.toList.flatMap (beBytes 2)) up)) ∧
    RequestNext 0x13 0x11 [0x02, 0x00] 0 0 0 (asking 0x13 [0x02, 0x00] up) ∧
    RequestNext 0x13 0x11 [0x00] 0 0 0 (asking 0x13 [0x00] up) ∧
    RequestNext 0x13 0x11 ([0x02, 0x01, 8] ++ beBytes 2 0) 0 0 0 (asking 0x13 ([0x02, 0x01, 8] ++ beBytes 2 0) up) ∧
    ∀ limit ∈ [2000, 2001], ∃ s, RequestNext 0x13 0x11 ([0x02, 0x01, byteOf (0 : ThermalInput).val] ++ beBytes 2 limit) 0 0 0 s ∧
      s.monitor.samples[(0 : ThermalInput)] = some 2000 ∧ s.port.stream ≠ .resumePending := by
  refine ⟨fun t _ => asks _ _ ?_, asks _ _ (by decide), asks _ _ (by decide), asks _ _ (by decide), fun limit _ =>
    ⟨_, requestNext (s := heated 2000) ⟨rfl, .inl rfl, Nat.zero_lt_succ _⟩ (Nat.zero_lt_succ _) (by simp), ?_, ?_⟩⟩
  · simp
  · show (heated 2000).monitor.samples[(0 : ThermalInput)] = some 2000
    decide +kernel
  · exact fun h => StreamState.noConfusion h

/-- Two pairs of one input, and a pair beside thresholds; a pair count that says too much, and a byte too many. -/
theorem witness_WriteLimits_parts :
    (∀ parts ∈ [(0x02 : Byte), 0x03], ∃ (t : Vector Nat 7) (pairs : List (Byte × Nat)), pairs.length = 2 ∧
      (∀ p ∈ pairs, p.2 < 65536) ∧ (∀ x ∈ t.toList, x ≤ 4096) ∧ t.toList.Pairwise (· < ·) ∧ (∀ p ∈ pairs, p.1.toNat ≤ 7) ∧
      RequestNext 0x13 0x11 (parts :: ((if parts.getLsbD 0 then t.toList.flatMap (beBytes 2) else []) ++
        (if parts.getLsbD 1 then byteOf pairs.length :: pairs.flatMap (fun p => p.1 :: beBytes 2 p.2) else []))) 0 0 0
        (asking 0x13 (parts :: ((if parts.getLsbD 0 then t.toList.flatMap (beBytes 2) else []) ++
          (if parts.getLsbD 1 then byteOf pairs.length :: pairs.flatMap (fun p => p.1 :: beBytes 2 p.2) else [])))
          (heated 2000))) ∧
    ∀ rest ∈ [[2, 0, 0x07, 0xD0], [1, 0, 0x07, 0xD0, 0]], RequestNext 0x13 0x11 (0x02 :: rest) 0 0 0 (asking 0x13 (0x02 :: rest) up) ∧
      rest.length ≠ 0 + (1 + 3 * (byteAt rest 0).toNat) := by
  refine ⟨fun parts h => ⟨risingFrom 5, [(0, 2000), (0, 4097)], rfl, by decide, by decide, by decide, by decide,
    requestNext ⟨rfl, .inl rfl, Nat.zero_lt_succ _⟩ (Nat.zero_lt_succ _) ?_⟩, fun rest h => ⟨asks _ _ ?_, ?_⟩⟩
  · revert parts; decide
  all_goals revert rest; decide

/-- The clauses of FORGET RETIRED and of PROVISION KEY. -/
theorem witness_StoredRecordRequests :
    (∀ locked ∈ [true, false], ∀ l ∈ [[], [({ content := ⟨7, 0, 10, .emptied, 1⟩, position := 3 } : RetiredEntry)]],
      ∃ s, RequestNext 0x15 0x11 (beBytes 8 (7 : Serial).toNat) 0 0 0 s ∧ s.policy.locked = locked ∧ s.refill.retired = l) ∧
    (∀ k ∈ [KeyState.absent, .provisioning, .present 5], ∀ w ∈ [0, 15, 16], ∃ s,
      RequestNext 0x16 0x11 (beBytes 32 (1 : RootKey).toNat) 0 0 0 s ∧ s.key = k ∧
        s.store.program = some { write := .checkpoint 0 none, attempt := 1 } ∧
        s.store.commitQueue = List.replicate w (.checkpoint 1 none)) ∧
    RequestNext 0x16 0x11 (beBytes 32 (0 : RootKey).toNat) 0 0 0 (asking 0x16 (beBytes 32 (0 : RootKey).toNat) up) ∧
    RequestNext 0x16 0x11 (beBytes 32 (1 : RootKey).toNat) 0 0 0 (asking 0x16 (beBytes 32 (1 : RootKey).toNat) up) :=
  ⟨fun locked _ l _ => ⟨_, requestNext
      (s := { up with policy := { up.policy with locked := locked }, refill := { up.refill with retired := l } })
      ⟨rfl, .inl rfl, Nat.zero_lt_succ _⟩ (Nat.zero_lt_succ _) (by decide), rfl, rfl⟩,
    fun k _ w _ => ⟨_, requestNext
      (s := { up with
        key := k,
        store := { up.store with
          program := some { write := .checkpoint 0 none, attempt := 1 },
          commitQueue := List.replicate w (.checkpoint 1 none) } })
      ⟨rfl, .inl rfl, Nat.zero_lt_succ _⟩ (Nat.zero_lt_succ _) (by decide), rfl, rfl, rfl⟩,
    asks _ _ (by decide), asks _ _ (by decide)⟩

/-- The widest selections of the three requests. -/
theorem witness_SelectionRoundTrip :
    SelectionFits laneWidths ([some 255] ++ List.replicate 4 (some 65535) ++ [some 255, some 255] ++ List.replicate 8 (some 65535)) ∧
    SelectionFits policyWidths (List.replicate 12 (some 255) ++ [some 65535]) ∧
    SelectionFits slotConfigWidths (List.replicate 8 none) := by
  simp [SelectionFits, laneWidths, policyWidths, slotConfigWidths, List.replicate]

/-! ### Witnesses: sampling, seats, supply and the cartridge bus -/

/-- A SEQUENCE conversion with its advancing flag and a DIRECT one. -/
theorem witness_ConversionComplete :
    ∀ cv ∈ [({ input := 7, origin := .sequence true } : Conversion), { input := 0, origin := .direct }],
      ∃ s : State, s.alive = true ∧ s.monitor.conversion = some cv ∧ s.port.stream ≠ .resumePending :=
  fun cv _ => ⟨sampling .off (some cv), rfl, rfl, fun h => StreamState.noConfusion h⟩

/-- A slot whose debounce timer runs, between two seat states. -/
def debouncing (raw seat : Seat) (c : SlotContext) : SlotContext :=
  { c with rawSeat := raw, seat := seat, debounce := some 50 }

theorem witness_SeatInput :
    (∃ (n : Slot) (s : State), s.alive = true ∧ (s.slot n).debounce ≠ none ∧ (s.slot n).rawSeat = (s.slot n).seat) ∧
    (∃ (n : Slot) (s : State), s.alive = true ∧ (s.slot n).debounce ≠ none ∧ s.restoring = true) ∧
    ∃ (n : Slot) (s : State), s.alive = true ∧ (s.slot n).debounce ≠ none ∧ s.restoring = false ∧ (s.slot n).seat = .empty ∧
      (s.slot n).rawSeat = .seated ∧ (s.slot n).bindingState = .noCartridge ∧ (s.slot n).current = none ∧
      (s.slot n).queue = [] ∧ (s.slot n).supply = .off ∧ s.port.stream ≠ .resumePending :=
  ⟨⟨2, up.setSlot 2 (debouncing .seated .seated (.initial .empty)), by decide +kernel⟩,
    ⟨2, State.reset.setSlot 2 (debouncing .seated .empty (.initial .empty)), by decide +kernel⟩,
    ⟨2, up.setSlot 2 (debouncing .seated .empty (.initial .empty)), by decide +kernel⟩⟩

/-- A cartridge pulled out: one without U_bind, a RELEASED one, one that reaches C exactly, one that does not, one whose
REGRESSION has tripped. -/
def pulled : List SlotContext :=
  [debouncing .empty .seated (resting .unverified identified), debouncing .empty .seated (resting .released identified),
    debouncing .empty .seated (bound 1000 1000 900), debouncing .empty .seated (bound 1000 999 900),
    debouncing .empty .seated
      { bound 1000 999 900 with
          record := { (bound 1000 999 900).record with
            evidence := { BindingRecord.starting.evidence with regression := { raw := 1, worst := 1, tripped := true } } } }]

theorem pulled_sound : ∀ c ∈ pulled, ControlWf c ∧ BindingWf c := by
  intro c hc
  simp only [pulled, List.mem_cons, List.not_mem_nil, or_false] at hc
  rcases hc with rfl | rfl | rfl | rfl | rfl
  all_goals
    refine ⟨.of_idle ⟨rfl, rfl, rfl, rfl, rfl, rfl⟩, ?_⟩
    constructor <;> simp [debouncing, bound, resting, SlotContext.initial, identified, BindingRecord.starting,
      BindingRecord.uEst, satAdd32, satAdd, Config.max32]

theorem witness_Removal :
    ∀ c ∈ pulled, ∃ s : State, SlotsWf s ∧ s.alive = true ∧ s.restoring = false ∧ s.port.stream ≠ .resumePending ∧
      c = s.slot 2 ∧ c.debounce ≠ none ∧ c.seat = .seated ∧ c.rawSeat = .empty ∧ c.bindingState ≠ .noCartridge := by
  intro c hc
  refine ⟨_, upWith_sound (n := 2) (pulled_sound c hc).1 (pulled_sound c hc).2, rfl, rfl,
    fun h => StreamState.noConfusion h, (State.slot_setSlot_self 2 c up).symm, ?_⟩
  revert c
  decide

/-- The three further premises of a removal with U_bind: R exactly 0, and R of 1. -/
theorem witness_Removal_counts :
    (bound 1000 1000 900).record.identity = some (inkOf 1000) ∧ (bound 1000 1000 900).record.uBind = some 1000 ∧
      (bound 1000 1000 900).record.lastWritten = some 900 ∧ min (1000 + (bound 1000 1000 900).record.metered) 4294967295 = 1000 ∧
      min (999 + (bound 1000 999 900).record.metered) 4294967295 = 999 := by decide

/-- The slot with the supply settling, for an operation at each transaction or for none. -/
def settling (op : Option CurrentOp) : SlotContext :=
  { bound 1000 100 100 with supply := .settling, settleTimer := some 5, current := op }

theorem witness_SupplyTimers :
    (∀ op ∈ [none, some (requested .bind .ident), some (requested .verify .challenge), some (requested .release .advance)],
      ∃ s : State, s.alive = true ∧ s.slot 2 = settling op ∧ (settling op).supply = .settling ∧
        (settling op).settleTimer ≠ none ∧ (settling op).current = op ∧ (settling op).record.uBind = some 100) ∧
    ∃ (s : State) (c : SlotContext), s.alive = true ∧ c = s.slot 2 ∧ c.supply = .poweredOn ∧ c.idleTimer ≠ none :=
  ⟨fun op _ => ⟨up.setSlot 2 (settling op), rfl, State.slot_setSlot_self 2 _ _, rfl, by simp [settling],
      rfl, rfl⟩,
    ⟨up.setSlot 2 { bound 1000 100 100 with supply := .poweredOn, idleTimer := some 2000 }, _, by decide, rfl, by decide +kernel⟩⟩

/-- An attempt in flight at slot 2 of a part with a key state. -/
theorem runs (key : KeyState) (op : CurrentOp) (k : Nat) (c : SlotContext) :
    AttemptRuns 2 op (attempt k) (State.setSlot { up with key := key } 2 (onBus op k c)) :=
  ⟨rfl, fun h => StreamState.noConfusion h, by rw [State.slot_setSlot_self]; rfl, by rw [State.slot_setSlot_self]; rfl⟩

/-- A part with key 5 and an attempt of an operation in flight at slot 2. -/
def running (op : CurrentOp) (c : SlotContext) : State := State.setSlot keyed 2 (onBus op 1 c)

/-- Format 2; capacity 0 with bit 31 set; ink type 0; then a good identity with another ink type expected, with a serial held
at slot 3, with no key, with a halt pending, and with none of these. -/
theorem witness_IdentityJudged :
    (∀ p ∈ [((1 : Byte), 1000, (2 : Byte)), (1, 2147483648, 1), (0, 1000, 1)], ∃ s a,
      AttemptRuns 2 (requested .bind .ident) a s ∧ (requested .bind .ident).step = .ident ∧ p.2.1 < 4294967296 ∧
        (p.2.2 ≠ 1 ∨ p.2.1 % 2147483648 = 0 ∨ p.1 = 0)) ∧
    (∀ (ink : Nat) (other : SlotContext) (key : KeyState) (halted : Bool), ∃ s a c,
      AttemptRuns 2 { requested .bind .ident with haltPending := halted } a s ∧ c = attemptOver (s.slot 2) ∧
        c.config.inkType = ink ∧ s.slot 3 = other ∧ s.key = key ∧ c.supply = .poweredOn) ∧
    holdsSerial (bound 1000 100 100) 7 ∧ ¬holdsSerial (SlotContext.initial .empty) 7 := by
  refine ⟨fun p hp => ⟨_, _, runs .absent _ 1 (resting .pendingId .starting), rfl, ?_⟩, fun ink other key halted => ?_,
    ⟨by decide, by decide, inkOf 1000, rfl, rfl⟩, ?_⟩
  · revert p; decide
  · refine ⟨State.setSlot (State.setSlot { up with key := key } 3 other) 2
      (onBus { requested .bind .ident with haltPending := halted } 1
        { resting .pendingId .starting with config := { SlotConfig.initial with inkType := ink } }),
      attempt 1, _, ?_, rfl, ?_, ?_, rfl, ?_⟩
    · exact ⟨rfl, fun h => StreamState.noConfusion h, by rw [State.slot_setSlot_self]; rfl, by rw [State.slot_setSlot_self]; rfl⟩
    · rw [State.slot_setSlot_self]; rfl
    · rw [State.slot_setSlot_ne (by decide), State.slot_setSlot_self]
    · rw [State.slot_setSlot_self]; rfl
  · rintro ⟨-, -, i, hi, -⟩
    cases hi

/-- The oldest entry of slot 2 is taken from its queue. -/
abbrev TakesNext (e : QueueEntry) (rest : List QueueEntry) (c : SlotContext) (s : State) : Prop :=
  (s.slot 2).current = none ∧ (s.slot 2).queue = e :: rest ∧ c = { s.slot 2 with queue := rest }

theorem takesNext {e : QueueEntry} {rest : List QueueEntry} {c : SlotContext} {s : State} (h : c.current = none)
    (hq : c.queue = rest) : TakesNext e rest c (s.setSlot 2 { c with queue := e :: rest }) := by
  unfold TakesNext
  rw [State.slot_setSlot_self]
  exact ⟨h, rfl, by rw [← hq]⟩

/-- How the next entry becomes current: with one that no longer holds and one behind it; one of each kind that holds, with each
supply; a VERIFY without a key; a RELEASE of a binding that is not VERIFIED. -/
theorem witness_IdentityJudged_nextEntry :
    (∃ s c, TakesNext ⟨.writeBack, .requested⟩ [⟨.verify, .requested⟩] c s ∧ ¬MeetsCondition .writeBack c) ∧
    (∀ p ∈ [(OpKind.bind, resting .pendingId .starting), (.verify, bound 1000 100 60), (.writeBack, bound 1000 100 60),
        (.release, bound 1000 100 60)],
      ∀ supply ∈ [ContactSupply.off, .settling, .poweredOn], ∀ o : Origin, ∃ s c, TakesNext ⟨p.1, o⟩ [] c s ∧
        MeetsCondition p.1 c ∧ BindingWf c ∧ c.supply = supply ∧ s.keyPresent = true ∧
        (p.1 = .release → c.bindingState = .verified)) ∧
    (∃ s c, TakesNext ⟨.verify, .auto⟩ [] c s ∧ MeetsCondition .verify c ∧ s.keyPresent = false) ∧
    ∃ s c, TakesNext ⟨.release, .requested⟩ [] c s ∧ MeetsCondition .release c ∧ BindingWf c ∧ c.bindingState ≠ .verified := by
  refine ⟨⟨_, _, takesNext (c := { resting .failed identified with queue := [⟨.verify, .requested⟩] }) (s := up) rfl rfl, ?_⟩,
    fun p hp supply hs o => ⟨_, _, takesNext (c := { p.2 with supply := supply }) (s := keyed) ?_ ?_, ?_, ?_, rfl, rfl, ?_⟩,
    ⟨_, _, takesNext (c := resting .unverified identified) (s := up) rfl rfl, ?_, rfl⟩,
    ⟨_, _, takesNext (c := resting .pendingId .starting) (s := up) rfl rfl, ?_, resting_binding_pending, by decide⟩⟩
  · unfold MeetsCondition; decide
  · show p.2.current = none; clear hs; revert p; decide
  · show p.2.queue = []; clear hs; revert p; decide
  · unfold MeetsCondition; revert p supply; decide
  · have hb := bound_binding (capacity := 1000) (u := 100) (w := 60) (by decide) (by decide)
    simp only [List.mem_cons, List.not_mem_nil, or_false] at hp
    rcases hp with rfl | rfl | rfl | rfl
    · exact binding_ofRecord resting_binding_pending rfl (by decide) 0 rfl
    · exact binding_ofRecord hb rfl (by decide) 0 rfl
    · exact binding_ofRecord hb rfl (by decide) 0 rfl
    · exact binding_ofRecord hb rfl (by decide) 0 rfl
  · show p.1 = .release → p.2.bindingState = .verified; clear hs; revert p; decide
  · unfold MeetsCondition; decide
  · unfold MeetsCondition; decide

theorem running_attempt (op : CurrentOp) (c : SlotContext) : AttemptRuns 2 op (attempt 1) (running op c) :=
  runs (.present 5) op 1 c

/-- A tag that is not the expected one, and the expected one for a BIND and for a VERIFY without U_bind. -/
theorem witness_TagComparison :
    (∃ tag : List Byte, tag.length = 16 ∧ tag ≠ tagFor 50 2) ∧
    ∀ k ∈ [OpKind.bind, .verify], ∃ (s : State) (tag : List Byte), AttemptRuns 2 (requested k .challenge) (attempt 1) s ∧
      (requested k .challenge).step = .challenge ∧ s.key = .present 5 ∧ (attempt 1).nonce = some 9 ∧
      (s.slot 2).record.identity = some (inkOf 1000) ∧ (s.slot 2).record.uBind = none ∧ tag.length = 16 ∧ tag = tagFor 50 2 ∧
      RetiredWf s.refill := by
  refine ⟨⟨List.replicate 16 0, by decide, by decide +kernel⟩, fun k _ => ⟨_, _, running_attempt _ (resting .pendingAuth identified),
    rfl, rfl, rfl, ?_, ?_, keyedDigest_length _ _, rfl, ?_⟩⟩
  · rw [running, State.slot_setSlot_self]; rfl
  · rw [running, State.slot_setSlot_self]; rfl
  · constructor <;> simp [running, keyed, up, State.reset, RefillMonitor.initial, Config.max32]

/-- Working copies with a checkpoint A = 30, E = 45 and a retired entry, both of the tests' cartridge at generation 2. -/
def witnessed : State :=
  { up with
      refill :=
        { checkpoints := up.refill.checkpoints.set 3
            (some { serial := 7, generation := 2, acknowledged := 30, estimate := 45 }),
          retired := [{ content := ⟨7, 2, 50, .emptied, 1⟩, position := 3 }], nextSeq := 2 } }

/-- A report below A and at A; a record ahead of generation 1 and none of generation 2; an entry above the report and not. -/
theorem witness_TagComparison_records :
    greatestOf (·.acknowledged) 7 2 witnessed = 30 ∧ greatestOf (·.estimate) 7 2 witnessed = 45 ∧ AheadRecord 7 1 witnessed ∧
    ¬AheadRecord 7 2 witnessed ∧ RetiredWf witnessed.refill ∧
    (∃ e ∈ witnessed.refill.retired, e.content.serial = 7 ∧ (2 : Nat) = e.content.generation ∧ 49 < e.content.finalCount) ∧
    ∀ e ∈ witnessed.refill.retired, e.content.serial = 7 → (2 : Nat) = e.content.generation ∧ e.content.finalCount ≤ 50 := by
  have hl : witnessed.refill.checkpoints.toList =
      [none, none, none, some { serial := 7, generation := 2, acknowledged := 30, estimate := 45 }, none, none, none, none] := by
    decide +kernel
  refine ⟨by decide +kernel, by decide +kernel, ⟨{ serial := 7, generation := 2, acknowledged := 30, estimate := 45 }, ?_, rfl,
    by decide⟩, ?_, ?_, by decide, by decide⟩
  · rw [hl]; decide
  · rintro ⟨c, hc, -, hg⟩
    rw [hl] at hc
    simp only [List.mem_cons, Option.some.injEq, List.not_mem_nil, or_false, reduceCtorEq, false_or] at hc
    subst hc
    exact absurd hg (by decide)
  · constructor <;> simp [witnessed, Config.max32]

/-- Reports of another generation, at last_written less 1, at last_written, at U_est and one above it. -/
theorem witness_VerifyEvaluation :
    ∃ (s : State) (c : SlotContext), AttemptRuns 2 (requested .verify .challenge) (attempt 1) s ∧ s.key = .present 5 ∧
      (attempt 1).nonce = some 9 ∧ c = s.slot 2 ∧ c.record.identity = some (inkOf 1000) ∧ c.record.uBind = some 100 ∧
      c.record.lastWritten = some 60 ∧ min (100 + c.record.metered) 4294967295 = 100 ∧
      ((1 : Byte).toNat ≠ (inkOf 1000).generation ∨ 59 < 60) ∧ (2 : Byte).toNat = (inkOf 1000).generation := by
  refine ⟨_, _, running_attempt _ (bound 1000 100 60), rfl, rfl, rfl, ?_⟩
  rw [running, State.slot_setSlot_self]
  decide

/-- A WRITE_BACK, a RELEASE and a RELEASE with a halt pending, at a VERIFIED binding with target 100. -/
theorem witness_AdvanceEvaluation :
    ∀ op ∈ [requested .writeBack .advance, requested .release .advance, { requested .release .advance with haltPending := true }],
      ∃ (s : State) (c : SlotContext), AttemptRuns 2 op (attempt 1) s ∧ op.step = .advance ∧ op.target = some 100 ∧
        c = s.slot 2 ∧ c.bindingState = .verified ∧ c.record.identity = some (inkOf 1000) ∧ c.record.uBind = some 100 ∧
        c.record.lastWritten = some 60 ∧ min (100 + c.record.metered) 4294967295 = 100 ∧ c.queue = [] ∧
        op.origin = .requested := by
  intro op ho
  simp only [List.mem_cons, List.not_mem_nil, or_false] at ho
  rcases ho with rfl | rfl | rfl
  all_goals
    refine ⟨_, _, running_attempt _ (bound 1000 100 60), rfl, rfl, rfl, ?_⟩
    rw [running, State.slot_setSlot_self]
    decide

/-- Attempts 1 to 3 of each transaction; a timeout one byte short, and a full response with a wrong code. -/
theorem witness_FailedAttempts :
    (∀ t ∈ [Transaction.ident, .challenge, .advance], ∀ k ∈ [1, 2, 3], ∃ s, AttemptRuns 2 (requested .bind t) (attempt k) s ∧
      (attempt k).number = k ∧ (requested .bind t).target = some 100) ∧
    ∀ t ∈ [Transaction.ident, .challenge, .advance], t.responseLength - 1 < t.responseLength ∧
      (List.replicate t.responseLength (0 : Byte)).length = t.responseLength ∧
      byteAt (List.replicate t.responseLength (0 : Byte)) 0 ≠ t.code :=
  ⟨fun t _ k _ => ⟨_, runs .absent (requested .bind t) k (resting .pendingId .starting), rfl, rfl⟩, by decide⟩

/-! ### Witnesses: the Record Store and the invariants -/

/-- A store with a program in flight and `k` writes to retired positions queued. -/
def programming (w : Write) (k a : Nat) : State :=
  { up with
      store := { up.store with
        program := some { write := w, attempt := a }, commitQueue := (List.range k).map fun i => .retired (Fin.ofNat 48 i) none } }

theorem programming_sound : ∀ k ∈ [0, 1, 15, 16], ∀ a ∈ [1, 2], StoreWf (programming (.key 5) k a).store := by
  intro k hk a ha
  have hq : ∀ k ∈ [0, 1, 15, 16], (programming (.key 5) k 1).store.commitQueue.length ≤ 16 ∧
      ((programming (.key 5) k 1).store.commitQueue.map Write.pos).Nodup := by decide +kernel
  refine ⟨(hq k hk).1, (hq k hk).2, fun h => by simp [programming] at h, fun p hp => ?_⟩
  cases hp
  revert a
  decide

/-- A write to a queued position; one at once; one at the end of 15; one with 16 queued. -/
theorem witness_CommitQueue :
    (∃ s : State, StoreWf s.store ∧ s.resetAsserted = false ∧ ∃ x ∈ s.store.commitQueue, x.pos = (Write.retired 0 none).pos) ∧
    (∃ s : State, StoreWf s.store ∧ (∀ x ∈ s.store.commitQueue, x.pos ≠ RecordPos.key) ∧ s.store.program = none) ∧
    (∃ s : State, StoreWf s.store ∧ (∀ x ∈ s.store.commitQueue, x.pos ≠ RecordPos.key) ∧ s.store.program ≠ none ∧
      s.store.commitQueue.length = 15) ∧
    ∃ s : State, StoreWf s.store ∧ (∀ x ∈ s.store.commitQueue, x.pos ≠ RecordPos.key) ∧ s.store.commitQueue.length = 16 :=
  ⟨⟨_, programming_sound 1 (by decide) 1 (by decide), rfl, by decide⟩,
    ⟨up, ⟨by decide, by decide, fun _ => rfl, fun p hp => by cases hp⟩, by decide, rfl⟩,
    ⟨_, programming_sound 15 (by decide) 1 (by decide), by decide, by decide, by decide⟩,
    ⟨_, programming_sound 16 (by decide) 1 (by decide), by decide, by decide⟩⟩

/-- A program of each record at its first and second attempt, with a write waiting; an UNVERIFIED slot waits for the key. -/
theorem witness_Programs :
    (∀ w ∈ [Write.key 5, .checkpoint 0 none, .retired 47 none], ∀ a ∈ [1, 2],
      (programming w 1 a).store.program = some { write := w, attempt := a } ∧ (programming w 1 a).resetAsserted = false ∧
        (programming w 1 a).port.stream ≠ .resumePending) ∧
    (∀ w ∈ [Write.key 5, .checkpoint 0 none, .retired 47 none], ∀ a ∈ [1, 2], ∃ s : State,
      s.store.program = some { write := w, attempt := a } ∧ s.resetAsserted = true) ∧
    ∃ (next : RecordStore → RecordStore) (s : State), s.store.program = some { write := .key 5, attempt := 1 } ∧
      (∀ st, next st = { st with
        program := s.store.commitQueue.head?.map (fun w => { write := w, attempt := 1 }),
        commitQueue := s.store.commitQueue.tail }) ∧
      (s.slot 2).bindingState = .unverified ∧ (s.slot 2).record.identity ≠ none ∧ (s.slot 2).current = none ∧
      (s.slot 2).queue = [] ∧ (s.slot 2).supply = .off := by
  refine ⟨by decide, fun w _ a _ => ⟨{ programming w 1 a with resetAsserted := true }, rfl, rfl⟩,
    ⟨_, State.setSlot (programming (.key 5) 1 1) 2 (resting .unverified identified), rfl, fun _ => rfl, ?_⟩⟩
  rw [State.slot_setSlot_self]
  decide

theorem programming_slots (w : Write) (k a : Nat) : SlotsWf (programming w k a) :=
  ⟨up_sound.control, up_sound.binding, up_sound.stopped, up_sound.unbound, up_sound.checkpoints⟩

theorem unverified_binding : BindingWf (resting .unverified identified) := by
  constructor <;> simp [resting, SlotContext.initial, identified, BindingRecord.starting, BindingRecord.uEst]

/-- An UNVERIFIED slot as the key is committed: idle with each supply; behind a VERIFY, the queue empty, with a VERIFY to merge
with, and with a RELEASE. -/
theorem witness_Programs_keyCommitted :
    (∀ supply ∈ [ContactSupply.off, .settling, .poweredOn], ∃ s : State,
      s.store.program = some { write := .key 5, attempt := 1 } ∧ s.resetAsserted = false ∧ s.port.stream ≠ .resumePending ∧
        SlotsWf s ∧ (s.slot 2).bindingState = .unverified ∧ (s.slot 2).record.identity ≠ none ∧ (s.slot 2).current = none ∧
        (s.slot 2).supply = supply) ∧
    ∀ q ∈ [[], [({ kind := .verify, origin := .requested } : QueueEntry)], [{ kind := .release, origin := .requested }]],
      ∃ s : State, s.store.program = some { write := .key 5, attempt := 1 } ∧ s.resetAsserted = false ∧
        s.port.stream ≠ .resumePending ∧ SlotsWf s ∧ (s.slot 2).bindingState = .unverified ∧
        (s.slot 2).record.identity ≠ none ∧ (s.slot 2).current ≠ none ∧ (s.slot 2).queue = q := by
  refine ⟨fun supply hs => ⟨State.setSlot (programming (.key 5) 1 1) 2 { resting .unverified identified with
      supply := supply, settleTimer := if supply = .settling then some 5 else none,
      idleTimer := if supply = .poweredOn then idleStart .initial else none }, rfl, rfl, StreamState.noConfusion, ?_, ?_⟩,
    fun q hq => ⟨State.setSlot (programming (.key 5) 1 1) 2 (waiting (newOp .verify .requested) q (resting .unverified identified)),
      rfl, rfl, StreamState.noConfusion, ?_, ?_⟩⟩
  · refine (programming_slots _ _ _).setSlot rfl 2 (idle_control rfl rfl rfl ?_ ?_ ⟨BindingState.noConfusion, BindingState.noConfusion⟩)
      (binding_ofRecord unverified_binding rfl (by decide) 0 rfl)
    all_goals
      simp only [List.mem_cons, List.not_mem_nil, or_false] at hs
      rcases hs with rfl | rfl | rfl <;> rfl
  · rw [State.slot_setSlot_self]
    exact ⟨rfl, Option.some_ne_none _, rfl, rfl⟩
  · refine (programming_slots _ _ _).setSlot rfl 2 (waiting_control ?_ rfl rfl ⟨Option.some_ne_none _, .inr (.inl rfl)⟩ (by decide))
      (binding_ofRecord unverified_binding rfl (by decide) 0 rfl)
    revert q; decide
  · rw [State.slot_setSlot_self]
    exact ⟨rfl, Option.some_ne_none _, Option.some_ne_none _, rfl⟩

/-- A list of `k` entries with serials, positions and sequence numbers rising. -/
def listed (k : Nat) : RefillMonitor :=
  { checkpoints := Vector.replicate 8 none, nextSeq := 49,
    retired := (List.range k).map fun i => { content := ⟨BitVec.ofNat 64 i, 0, 10, .emptied, i + 1⟩, position := Fin.ofNat 48 i } }

/-- A listed serial; a serial not listed with 47 entries and with 48. -/
theorem witness_RetiredAddition :
    ∀ k ∈ [47, 48], RetiredWf (listed k) ∧ (listed k).retired.length = k ∧ (∃ e ∈ (listed k).retired, e.content.serial = 0) ∧
      ∀ e ∈ (listed k).retired, e.content.serial ≠ 100 := by
  intro k hk
  refine ⟨⟨?_, ?_, ?_, ?_, ?_, ?_⟩, ?_⟩ <;> revert k <;> decide +kernel

theorem up_portWf : PortWf up := ⟨by decide, by decide, by decide, by decide⟩

theorem up_settingsWf : SettingsWf up where
  lanes l := by
    have h : ∀ l : Lane, (up.laneEntry l).nozzles = 64 ∧ (up.laneEntry l).v1 = 0 ∧ (up.laneEntry l).v2 = 0 ∧
        (up.laneEntry l).v3 = 0 ∧ ∀ b : Band, (up.laneEntry l).k[b] = 1024 := by decide +kernel
    obtain ⟨h0, h1, h2, h3, hk⟩ := h l
    exact ⟨by omega, by simp [h1, h2, h3], fun b => by rw [hk b]; decide⟩
  slots n := by
    rw [up_slot]
    constructor <;> simp [SlotContext.initial, SlotConfig.initial]
  monitor := ⟨by decide, by decide, by decide +kernel, by decide +kernel, by decide⟩
  allowance := by decide
  faultMask := by decide
  sticky := by decide

theorem up_meterWf (n : Slot) : MeterWf (up.slot n) := by
  rw [up_slot]
  constructor <;> decide

theorem up_lanesWf : ∀ l : Lane, LaneCountersWf up.lanes.counters[l] := by decide +kernel

/-- A step of a drawn command from a sound state. -/
theorem witness_BoundsKept :
    ∃ s t : State, PortWf s ∧ SettingsWf s ∧ (∀ n : Slot, MeterWf (s.slot n)) ∧
      (∀ l : Lane, LaneCountersWf s.lanes.counters[l]) ∧ step s = .next t :=
  ⟨{ up with pending := [.frameArrivalBegins 0xA5] }, _,
    ⟨up_portWf.buffer, up_portWf.outQueue, up_portWf.replies, up_portWf.reports⟩,
    ⟨up_settingsWf.lanes, up_settingsWf.slots, up_settingsWf.monitor, up_settingsWf.allowance, up_settingsWf.faultMask,
      up_settingsWf.sticky⟩,
    up_meterWf, up_lanesWf, rfl⟩

theorem witness_RecordsKept :
    ∃ s t : State, StoreWf s.store ∧ RetiredWf s.refill ∧ step s = .next t :=
  ⟨{ programming (.key 5) 1 1 with refill := listed 48, pending := [.programVerify true] }, _,
    programming_sound 1 (by decide) 1 (by decide), (witness_RetiredAddition 48 (by decide)).1, rfl⟩

/-- A key that is being provisioned and is committed by the step; and one that is PRESENT. -/
theorem witness_KeyKept :
    (∃ s t : State, KeyWf s ∧ s.key = .provisioning ∧ step s = .next t) ∧
      ∃ s t : State, KeyWf s ∧ step s = .next t ∧ s.powered = true ∧ s.key = .present 5 ∧ t.powered = true := by
  refine ⟨⟨{ programming (.key 5) 0 1 with key := .provisioning, pending := [.programVerify true] }, _, ⟨?_, ?_, ?_, ?_⟩, rfl, rfl⟩,
    ⟨{ keyed with store := { keyed.store with keyForm := .valid 5 }, pending := [.pinResetAsserted] }, _, ⟨?_, ?_, ?_, ?_⟩, rfl,
      rfl, rfl, rfl⟩⟩
  · intro k hk; cases hk
  · intro _; exact .inl (by decide)
  · intro hk; cases hk
  · intro h; rcases h with h | h <;> cases h
  · intro k hk; cases hk; exact ⟨rfl, by decide, rfl⟩
  · intro hk; cases hk
  · intro hk; cases hk
  · intro h; rcases h with h | h <;> cases h

/-- A part without a key, at the release of RESET_N. -/
theorem witness_KeyKept_proofs : ∃ s t : State, KeyWf s ∧ SlotsWf s ∧ ProofWf s ∧ s.keyPresent = false ∧ step s = .next t := by
  have h := keptSlots_sound
  have p := keyless_proof .absent false false
  refine ⟨{ keyless .absent false false with pending := [.pinResetReleased] }, _, ⟨?_, ?_, fun _ => ⟨rfl, rfl⟩, fun _ => rfl⟩,
    ⟨h.control, h.binding, h.stopped, h.unbound, h.checkpoints⟩, ⟨p.states, p.operations⟩, rfl, rfl⟩
  · exact fun _ h => KeyState.noConfusion h
  · exact fun h => KeyState.noConfusion h

/-- A sound state with a VERIFIED binding takes a step. -/
theorem witness_SlotsKept : ∃ s t : State, SlotsWf s ∧ (s.slot 2).bindingState = .verified ∧ step s = .next t := by
  have h := upWith_sound (n := 2) (bound_control 1000 100 100) (bound_binding (by decide) (by decide))
  refine ⟨{ up.setSlot 2 (bound 1000 100 100) with pending := [.pinResetAsserted] }, _,
    ⟨h.control, h.binding, h.stopped, h.unbound, h.checkpoints⟩, ?_, rfl⟩
  exact congrArg SlotContext.bindingState (State.slot_setSlot_self 2 _ up)

/-- One slot holds a serial, no other does. -/
theorem witness_SerialsKeptDistinct :
    ∃ s t : State, SlotsWf s ∧ SerialsDistinct s ∧ holdsSerial (s.slot 2) 7 ∧ step s = .next t := by
  have h := upWith_sound (n := 2) (bound_control 1000 100 100) (bound_binding (by decide) (by decide))
  refine ⟨{ up.setSlot 2 (bound 1000 100 100) with pending := [.pinResetAsserted] }, _,
    ⟨h.control, h.binding, h.stopped, h.unbound, h.checkpoints⟩, ?_, ?_, rfl⟩
  · have hs : ∀ m serial, holdsSerial ((up.setSlot 2 (bound 1000 100 100)).slot m) serial → m = 2 := by
      intro m serial hm
      by_contra hne
      rw [State.slot_setSlot_ne hne, up_slot] at hm
      obtain ⟨-, -, i, hi, -⟩ := hm
      cases hi
    exact fun m n serial hm hn => (hs m serial hm).trans (hs n serial hn).symm
  · show holdsSerial ((up.setSlot 2 (bound 1000 100 100)).slot 2) 7
    rw [State.slot_setSlot_self]
    exact ⟨by decide, by decide, inkOf 1000, rfl, rfl⟩

/-- A slot with an attempt of an operation in flight is sound where its binding is and the operation suits it. -/
theorem onBus_control {op : CurrentOp} {k : Nat} {c : SlotContext} (hk : 1 ≤ k ∧ k ≤ 3) (hq : c.queue = [])
    (hs : c.settleTimer = none) (hi : c.idleTimer = none) (ha : stepAllowed op c) (ht : op.step ≠ .advance)
    (hb : c.bindingState ≠ .noCartridge ∧ c.bindingState ≠ .released) : ControlWf (onBus op k c) where
  kinds := by simp [onBus, hq]
  idle h := by cases h
  waiting _ h := by cases h
  running _ := rfl
  number a h := by cases h; exact hk
  step o h := by cases h; exact ha
  target o h he := by cases h; exact absurd he ht
  settle := by simp [onBus, hs]
  idleTimer := by simp [onBus, hi]
  unpowered h := absurd h (not_or.mpr hb)

/-- A CHALLENGE attempt in flight carries nonce 9 and another one is spent. -/
theorem witness_SerialsKeptDistinct_nonces :
    ∃ s t : State, SlotsWf s ∧ NoncesWf s ∧ s.spentNonces = [7] ∧ ((s.slot 2).attempt.bind (·.nonce)) = some 9 ∧
      step s = .next t := by
  have h := up_sound.setSlot rfl 2
    (onBus_control (op := requested .verify .challenge) (k := 1) (c := bound 1000 100 100) (by decide) rfl rfl rfl
      ⟨by decide, by decide⟩ (by decide) (by decide))
    (binding_onBus (bound_binding (capacity := 1000) (u := 100) (w := 100) (by decide) (by decide)))
  have hn : ∀ (n : Slot) (a : Attempt) (v : Nonce),
      ((up.setSlot 2 (onBus (requested .verify .challenge) 1 (bound 1000 100 100))).slot n).attempt = some a →
        a.nonce = some v → n = 2 ∧ v = 9 := by
    intro n a v ha hv
    by_cases he : n = 2
    · subst he
      rw [State.slot_setSlot_self] at ha
      cases ha; cases hv
      exact ⟨rfl, rfl⟩
    · rw [State.slot_setSlot_ne he, up_slot] at ha
      cases ha
  refine ⟨{ up.setSlot 2 (onBus (requested .verify .challenge) 1 (bound 1000 100 100)) with
      spentNonces := [7], pending := [.pinResetAsserted] }, _,
    ⟨h.control, h.binding, h.stopped, h.unbound, h.checkpoints⟩, ⟨?_, ?_⟩, rfl, ?_, rfl⟩
  · intro n a v ha hv
    obtain ⟨-, rfl⟩ := hn n a v ha hv
    decide
  · exact fun m n a b v ha hb hv hw => (hn m a v ha hv).1.trans (hn n b v hb hw).1.symm
  · exact congrArg (fun c : SlotContext => c.attempt.bind (·.nonce)) (State.slot_setSlot_self 2 _ up)

/-- A part whose stream is RESUME_PENDING for lane 0 takes a step. -/
theorem witness_HoldKept_wait :
    ∃ s t : State, SlotsWf s ∧ WaitWf s ∧ s.port.stream = .resumePending ∧ step s = .next t := by
  have h := up_sound.setSlot rfl 0
    (onBus_control (op := autoOp .bind) (k := 3) (c := resting .pendingId { BindingRecord.starting with unverifiedUnits := 0 })
      (by decide) rfl rfl rfl (.inl rfl) (by decide) (by decide)) (binding_onBus resting_binding_pending)
  refine ⟨{ resuming 0 with pending := [.attemptTimeout 0 0] }, _,
    ⟨h.control, h.binding, h.stopped, h.unbound, h.checkpoints⟩, fun _ => ⟨0, 0, ?_⟩, rfl, rfl⟩
  decide +kernel

/-- A held stream with its cause takes a step. -/
theorem witness_HoldKept : ∃ s t : State, HoldWf s ∧ s.streamHeldHolds = true ∧ s.policy.holdCauses ≠ [] ∧ step s = .next t := by
  refine ⟨{ askingHeld 0x17 [] (holding up) with
      policy := { up.policy with holdCauses := [{ lane := 0, condition := .noCartridge }] }, pending := [.resumeStream] }, _,
    ⟨?_, ?_, ?_, ?_⟩, rfl, by decide, rfl⟩
  · intro h; cases h
  · exact List.pairwise_singleton _ _
  · exact fun _ => ⟨_, _, rfl, rfl, rfl, by simp [isControl, linkFrame, withCrc16, kindCode, byteAt, controlClass]⟩
  · intro f hf
    simp only [askingHeld, takingHeld, List.tail_cons, List.mem_singleton] at hf
    subst hf
    decide

theorem witness_PolicyLock :
    ∃ (c : Instr) (s t : State), exec c s = .next t ∧ s.policy.locked = true ∧ c ≠ .pinResetAsserted ∧ c ≠ .lossOfPower ∧
      ∀ decayed, c ≠ .powerOn decayed :=
  ⟨.writePolicy, { asking 0x0B ([0x08, 0x00] ++ [0x00]) up with policy := { up.policy with locked := true } }, _, rfl, rfl,
    by decide, by decide, fun _ h => Instr.noConfusion h⟩

/-- A CHALLENGE response with the matching tag takes PENDING_AUTH to VERIFIED. -/
theorem witness_OnlyAMatchingTagVerifies :
    ∃ (c : Instr) (s t : State), exec c s = .next t ∧ (s.slot 2).bindingState ≠ .verified ∧
      (t.slot 2).bindingState = .verified :=
  ⟨.cartridgeResponse 2 (challengeResponse 50 2 (tagFor 50 2)),
    running (requested .bind .challenge) (resting .pendingAuth identified), _, rfl, by decide +kernel, by decide +kernel⟩

/-- A lane whose slot is VERIFIED has the condition GENUINE; each condition has its place in the order; an input is not hot. -/
theorem witness_OnlyAMatchingTagVerifies_lane :
    (∃ s : State, s.laneCondition 0 = .genuine ∧ (s.slot 0).bindingState = .verified ∧ (s.laneEntry 0).slot = some 0 ∧
      s.monitor.samples[(s.laneEntry 0).thermal] = none) ∧
    ∀ k : LaneCondition, ∃ before after, conditionOrder = before ++ k :: after :=
  ⟨⟨(holding up).setSlot 0 (bound 1000 100 100), by decide +kernel⟩,
    fun k => by cases k <;> exact List.append_of_mem (by decide)⟩

/-- R156, R157: two causes at once show the earlier; the allowance bars at unverified_units equal to it. -/
theorem test_conditions_precede :
    let lane (c : SlotContext) : State := (holding (heated 2000)).setSlot 0 c
    (lane (bound 1000 1000 100)).laneCondition 0 = .overtemp ∧
      ((holding up).setSlot 0 (bound 1000 1000 100)).laneCondition 0 = .empty ∧
      ((holding up).setSlot 0 (resting .unverified { identified with unverifiedUnits := 19 })).laneCondition 0 = .unverified ∧
      ((holding up).setSlot 0 (resting .unverified { identified with unverifiedUnits := 20 })).laneCondition 0 =
        .unverifiedOver := by
  decide +kernel

/-! ### Published check values -/

/-- "123456789" in ASCII, the message of the published check values. -/
def digits : List Byte := [0x31, 0x32, 0x33, 0x34, 0x35, 0x36, 0x37, 0x38, 0x39]

/-- The catalogued check value of this CRC-16 (polynomial 1021h, initial value 0FFFFh). -/
theorem test_crc16_check_value : crc16 digits = 0x29B1 := by decide +kernel

/-- The catalogued check value of this CRC-8 (polynomial 07h, initial value 0). -/
theorem test_crc8_check_value : crc8 digits = 0xF4 := by decide +kernel

/-- The published hash of "abc". -/
theorem test_sha256_of_abc :
    (sha256 [0x61, 0x62, 0x63]).take 8 = [0xBA, 0x78, 0x16, 0xBF, 0x8F, 0x01, 0xCF, 0xEA] := by decide +kernel

/-- The first published HMAC vector for SHA-256 (key of twenty bytes 0Bh, message "Hi There"). -/
theorem test_keyedDigest_published_vector :
    keyedDigest (List.replicate 20 0x0B) [0x48, 0x69, 0x20, 0x54, 0x68, 0x65, 0x72, 0x65] =
      [0xB0, 0x34, 0x4C, 0x61, 0xD8, 0xDB, 0x38, 0x53, 0x5C, 0xA8, 0xAF, 0xCE, 0xAF, 0x0B, 0xF1, 0x2B] := by decide +kernel

/-! ### Power and reset -/

/-- Chapter 10: a stored position that no longer passes its check is INVALID at the next power-on. -/
theorem test_powerOn_finds_a_decayed_position :
    (after (.powerOn [.key]) { stored with powered := false }).store.keyForm = .invalid := by decide +kernel

/-- R179: of two entries of one serial the greater number is kept, and the next number is held at 2^32 - 1. -/
theorem test_endOfRestoring_keeps_the_later_entry :
    (after .endOfRestoring stored).refill.retired = [{ content := ⟨7, 1, 20, .refill, 4294967295⟩, position := 47 }] ∧
      (after .endOfRestoring stored).refill.nextSeq = 4294967295 ∧ (after .endOfRestoring stored).key = .present 5 := by
  decide +kernel

/-- Chapter 10, the power cut: the position being programmed is INVALID, a queued one keeps its form. -/
theorem test_lossOfPower_cuts_one_program :
    (after .lossOfPower (programming (.retired 7 none) 1 1)).store.retiredForms[(7 : RetiredPosition)] = .invalid ∧
      (after .lossOfPower (programming (.retired 7 none) 1 1)).store.retiredForms[(0 : RetiredPosition)] = .blank := by
  decide +kernel

/-- Chapter 6, pin reset during a write-back: the operation ends without a result, the binding stays VERIFIED. -/
theorem test_pinReset_during_a_write_back :
    let s := after .pinResetAsserted (running (requested .writeBack .advance) (bound 10000 6000 5000))
    let t := after .pinResetReleased s
    (s.slot 2).current = none ∧ (s.slot 2).bindingState = .verified ∧ (t.slot 2).bindingState = .pendingAuth ∧
      (t.slot 2).current = some (autoOp .verify) ∧ (t.slot 2).record.lastWritten = some 5000 := by decide +kernel

/-! ### The swath link (chapter 1) -/

/-- The condition vector's sticky part that a command leaves. -/
def raised (c : Instr) (s : State) : Word32 := (after c s).agent.sticky

/-- Steps 5 and 6 of the held swath: a print-class frame is refused at arrival with INPUT_OVERRUN. -/
theorem test_frameArrivalBegins_in_held :
    raised (.frameArrivalBegins 0x21) (takingHeld [0xA5] up) = Condition.mask .inputOverrun := by decide +kernel

theorem test_frameArrival_whole :
    (after (.frameArrivalEnds [0x80, 0, 0, 0, 0, 0, 0]) (after (.frameArrivalBegins 0x31) up)).port.buffer =
      [{ bytes := [0x31, 0x80, 0, 0, 0, 0, 0, 0], phase := .ready }] := by decide +kernel

theorem test_unknownKindFrame :
    raised .unknownKindFrame (taking [0x30, 0x80, 0, 0, 0, 0, 0, 0] up) = Condition.mask .frameGuard := by decide +kernel

/-- The first row of the worked sequence: seq 10 is taken under "any", 11 is expected next, the stream is OPEN. -/
theorem test_swathStart_opens :
    let t := after .swathStart (taking (linkFrame 0x31 0x80 10 0 []) up)
    t.port.expected = some 11 ∧ t.port.stream = .opened ∧ t.agent.sticky = 0 ∧ t.port.outQueue.length = 1 := by
  decide +kernel

/-- The held swath, steps 3 and 4: the frame keeps its place, the print-class frame behind it is discarded. -/
theorem test_swathStart_held :
    let s := holding up
    let t := after .swathStart { s with
      port := { s.port with
        buffer := [{ bytes := linkFrame 0x31 0x80 40 0 [], phase := .ready }, { bytes := [0x21], phase := .ready }],
        expected := some 40 } }
    t.port.stream = .held ∧ t.port.buffer.length = 1 ∧ t.port.expected = some 41 ∧
      t.agent.sticky = Condition.mask .inputOverrun ∧ t.rdy = false ∧ t.crdy = true := by decide +kernel

/-- The row of seq 16 with 15 expected: SEQUENCE_GAP, 17 expected, IDLE, a report queued. -/
theorem test_swathEnd_with_a_gap :
    let s := inStream .opened up
    let t := after .swathEnd (taking (linkFrame 0x32 0x80 16 0 []) { s with port := { s.port with expected := some 15 } })
    t.port.expected = some 17 ∧ t.port.stream = .idle ∧ t.agent.sticky = Condition.mask .sequenceGap ∧
      t.reportQueue.length = 1 := by decide +kernel

/-- The last row: a FIRE frame in IDLE passes its checks and is discarded with OUT_OF_SWATH. -/
theorem test_fire_in_idle :
    let t := after .fire (taking (linkFrame 0x21 0x80 17 1 column) up)
    t.port.expected = some 18 ∧ t.agent.sticky = Condition.mask .outOfSwath ∧ t.port.outQueue = [] := by decide +kernel

/-- Levels 0, 1, 2 and 3 in each of sixteen bytes 1Bh. -/
theorem test_fire_counts_each_level :
    (after .fire (taking (linkFrame 0x21 0x80 17 1 column) (inStream .opened up))).lanes.counters[(0 : Lane)] =
      { forwarded := 1, blanked := 0, marked := 0, drops1 := 16, drops2 := 16, drops3 := 16, unattributed := 48 } := by
  decide +kernel

/-- Chapter 2: a SPIT of size 1 and count 20 on 1024 nozzles counts 20,480 drops. -/
theorem test_spit_counts_all_nozzles :
    let s := State.setLane up 4 { up.laneEntry 4 with nozzles := 1024 }
    (after .spit (taking (linkFrame 0x22 0x94 0 20 []) s)).lanes.counters[(4 : Lane)].drops1 = 20480 := by decide +kernel

theorem test_streamReset_in_held :
    let t := after .streamReset (takingHeld (linkFrame 0xC3 0 9 0 []) up)
    t.port.stream = .idle ∧ t.port.buffer = [] ∧ t.port.expected = none ∧ t.port.outQueue.length = 1 := by decide +kernel

theorem test_links_carry_the_oldest_frame :
    let t := after (.headTransferBegins true) (linked [[1], [2]] [] up)
    t.port.headTransfer = some [1] ∧ t.port.outQueue = [[2]] ∧ (after .headTransferCompletes t).port.headTransfer = none := by
  decide +kernel

theorem test_heldSwathStartForwarded :
    (after .heldSwathStartForwarded (inStream .opened (takingHeld [0xA5] up))).port.outQueue = [linkFrame 0x31 0x80 0 0 []] := by
  decide +kernel

/-- The layout of a reply on the return lane: 0E1h, the body's length, tag, code, result, data length, summary word, CRC. -/
theorem test_returnTransmission_layout :
    let t := after .returnTransmissionBegins (linked [] [.reply 7 1 .badState [] 0x0041] up)
    t.port.returnTransmission.map (·.take 9) = some [0xE1, 0, 6, 7, 1, 4, 0, 0, 0x41] ∧
      (after .returnTransmissionCompletes t).port.returnTransmission = none := by decide +kernel

/-! ### Metering (chapter 3) -/

/-- Worked case 1 up to the frame: band 4 at sample 2100. -/
def case1 : State :=
  State.setSlot
    { inStream .opened up with monitor := { up.monitor with samples := up.monitor.samples.set 2 (some 2100) } } 2
    { bound 10000 1500 4200 with
        record := { (bound 10000 1500 4200).record with residue := 9000000000, metered := 3211, sinceVerify := 2000 },
        swathCredited := 14 }

theorem test_worked_case_1 :
    let c := (handleReport { report (some 2) 5000 2000 300 1024 false with k := (Vector.replicate 8 1024).set 4 1075 } case1).slot 2
    c.record.residue = 1017500000 ∧ c.record.metered = 3212 ∧ c.record.uEst = some 4712 ∧ c.record.remaining = some 5288 ∧
      c.record.sinceVerify = 2001 ∧ c.swathCredited = 15 ∧ c.current = none ∧ c.status = none := by decide +kernel

/-- Worked case 2: no sample, LOW crossed at R = 1000, an AUTO WRITE_BACK asked for. -/
theorem test_worked_case_2 :
    let s := State.setSlot up 5 { bound 10000 8990 8000 with
      record := { (bound 10000 8990 8000).record with residue := 10000000000, metered := 9 } }
    let c := (handleReport (report (some 5) 1500 500 100 1024 false) s).slot 5
    c.record.residue = 374400000 ∧ c.record.metered = 10 ∧ c.record.remaining = some 1000 ∧ c.record.lowMark = true ∧
      eventsOf c = 0x04 ∧ c.current = some (autoOp .writeBack) := by decide +kernel

/-- Worked case 3, the SPIT frame: overdraw 50 reaches the tolerance. -/
theorem test_worked_case_3 :
    let s := State.setSlot up 1 { bound 10000 9800 9800 with
      record := { (bound 10000 9800 9900).record with
        residue := 6560000000, metered := 681, flaggedUnits := 126, emptyMark := true } }
    let c := (handleReport (report (some 1) 0 0 204800 1100 false) s).slot 1
    c.record.residue = 416000000 ∧ c.record.metered = 708 ∧ c.record.overdraw = some 50 ∧ c.record.overdrawMark = true ∧
      c.record.flaggedUnits = 126 ∧ eventsOf c = 0x10 ∧ alertsOf c = 0x0040 ∧ slotCondition 20 c = .refillSuspect := by
  decide +kernel

/-- Worked case 4: metered and U_est saturate, flagged units do not. -/
theorem test_worked_case_4 :
    let s := State.setSlot up 6 { resting .failed
      { (bound 10000 2000 2000).record with
          residue := 1000000000, metered := 4294967290, flaggedUnits := 3000000, failure := some .auth } with swathCredited := 40 }
    let c := (handleReport (report (some 6) 0 0 64000 1024 true) (inStream .opened s)).slot 6
    c.record.metered = 4294967295 ∧ c.record.uEst = some 4294967295 ∧ c.record.residue = 7963200000 ∧
      c.record.flaggedUnits = 3000007 ∧ c.swathCredited = 47 ∧ c.record.overdraw = some 65535 ∧ c.current = none := by
  decide +kernel

/-- R49, R51: a credit of q = 0 sets a flag whose condition holds, without an event; the next credit finds it set. -/
theorem test_a_credit_without_whole_units_sets_a_flag :
    let c := (handleReport (report (some 2) 0 0 0 1024 false) (up.setSlot 2 (bound 1000 950 950))).slot 2
    c.record.lowMark = true ∧ eventsOf c = 0 ∧
      eventsOf ((handleReport (report (some 2) 0 0 8534 1024 false) (up.setSlot 2 c)).slot 2) = 0 := by decide +kernel

/-- R48: LOW of an ended binding keeps its value over a later write of the low mark. -/
theorem test_low_of_an_ended_binding_stays :
    let t := after (.cartridgeResponse 2 (advanceResponse 950)) (running { requested .release .advance with target := some 950 }
      (bound 1000 950 950))
    let u := after .writeSlotConfig (asking 0x06 [2, 0x02, 0, 0] t)
    (t.slot 2).bindingState = .released ∧ (u.slot 2).config.lowMark = 0 ∧ lowOf (u.slot 2) = true ∧
      ((slotData 2 (u.slot 2)).getD 1 0).getLsbD 5 = true := by decide +kernel

/-! ### Slots and the cartridge bus (chapters 5 to 8) -/

theorem test_seatChange_starts_the_debounce : ((after (.seatChange 4 true) up).slot 4).debounce = some 50 := by decide +kernel

/-- Chapter 5, a cartridge arrives, at 63, 68 and 71 ms. -/
theorem test_a_cartridge_arrives :
    let s1 := after (.debounceExpiry 4) (keyed.setSlot 4 (debouncing .seated .empty (.initial .empty)))
    let s2 := after (.settleTimerExpiry 4) s1
    let s3 := after (.cartridgeResponse 4 (identResponse 7 1 10000 0 1)) s2
    (s1.slot 4).bindingState = .pendingId ∧ (s1.slot 4).supply = .settling ∧
      ((s2.slot 4).attempt.map (·.request)) = some [0x5A, crc8 [0x5A]] ∧ (s3.slot 4).bindingState = .pendingAuth ∧
      (s3.slot 4).current.map (·.step) = some .challenge := by decide +kernel

theorem test_idleTimerExpiry :
    ((after (.idleTimerExpiry 2) (up.setSlot 2 { bound 1000 1 1 with supply := .poweredOn, idleTimer := some 2000 })).slot 2).supply
      = .off := by decide +kernel

/-- Chapter 5, the write-back that loses the link: a retry keeps the target, the third failure is LINK_LOST. -/
theorem test_a_write_back_loses_the_link :
    let op := { requested .writeBack .advance with origin := .auto, target := some 9000 }
    let s := State.setSlot up 1 { onBus op 2 (bound 10000 9003 8000) with
      failedAttempts := 5, queue := [{ kind := .verify, origin := .auto }] }
    let t := after (.cartridgeResponse 1 [0x7C, 0, 0, 0, 0, 1]) s
    let u := after (.attemptTimeout 1 0) t
    ((t.slot 1).attempt.map (·.request)) = some (withCrc8 (0x7C :: beBytes 4 9000)) ∧ (t.slot 1).failedAttempts = 6 ∧
      (u.slot 1).bindingState = .linkLost ∧ (u.slot 1).queue = [] ∧ (u.slot 1).failedAttempts = 7 ∧
      (u.slot 1).status.map (·.primary) = some none ∧ alertsOf (u.slot 1) = 0x0020 := by decide +kernel

/-- Chapter 6, merging and a stale entry, from step 4 on. -/
theorem test_stale_entries_after_a_failed_tag :
    let op := { requested .verify .challenge with origin := .auto }
    let s := keyed.setSlot 2 { onBus op 1 (bound 10000 100 100) with
      queue := [{ kind := .writeBack, origin := .requested }, { kind := .verify, origin := .requested }] }
    let c := (after (.cartridgeResponse 2 (challengeResponse 100 2 (List.replicate 16 0))) s).slot 2
    c.bindingState = .failed ∧ c.current = none ∧ c.queue = [] ∧ alertsOf c = 0x0002 ∧
      c.status.bind (·.primary) = some { kind := some .verify, result := .stale, reason := none, nothingActive := false } ∧
      c.status.map (·.overwritten) = some true := by decide +kernel

/-- Chapter 6, the hot swap, step 6. -/
theorem test_a_release_ends_its_binding :
    let op := { requested .release .advance with target := some 9941 }
    let s := running op { bound 10000 9941 9400 with record := { (bound 10000 9941 9400).record with metered := 1, residue := 5 } }
    let t := after (.cartridgeResponse 2 (advanceResponse 9941)) s
    (t.slot 2).bindingState = .released ∧ (t.slot 2).supply = .off ∧ (t.slot 2).record.residue = 0 ∧
      t.refill.checkpoints[(2 : Slot)] = some { serial := 7, generation := 2, acknowledged := 9941, estimate := 9942 } ∧
      (t.slot 2).status.map (·.snapshot) = some { state := .released, condition := .noCartridge, uEst := some 9942 } := by
  decide +kernel

/-- Chapter 8, worked case 1: the reports 8,000 and 6,500 against A = 8,000, E = 8,990. -/
theorem test_a_cartridge_returns :
    let k : Checkpoint := { serial := 7, generation := 0, acknowledged := 8000, estimate := 8990 }
    bindFromCheckpoints [k] 8000 0 = (8990, 8000, false) ∧ bindFromCheckpoints [k] 6500 0 = (8990, 8000, true) := by decide

/-- Chapter 8, worked case 2: the four returns. -/
theorem test_an_emptied_cartridge_returns :
    let e (g : Nat) : RetiredEntry := { content := ⟨7, g, 10020, .emptied, 1⟩, position := 0 }
    retiredFinding [e 0] 7 10018 0 = .refilled ∧ retiredFinding [e 0] 7 10020 0 = .emptyCartridge ∧
      retiredFinding [e 0] 7 0 1 = .authorisedRefill (e 0) ∧ retiredFinding [e 1] 7 10020 0 = .refilled := by decide

/-- Chapter 8, worked case 3, first event: the oldest entry of a full list is evicted at its position. -/
theorem test_a_full_retired_list_evicts :
    (placeRetired ⟨100, 0, 10, .emptied, 49⟩ (listed 48).retired).2 = 0 ∧
      (placeRetired ⟨100, 0, 10, .emptied, 49⟩ (listed 48).retired).1.length = 48 := by decide +kernel

/-- Chapter 8, worked case 4: the third refused advance trips, the fourth answer ends the run. -/
theorem test_a_run_of_refused_advances :
    let r := { (bound 10000 4002 3000).record with
      evidence := { BindingRecord.starting.evidence with advanceRefused := { raw := 2, worst := 2, tripped := false } } }
    let o := evaluateAdvance .initial 3000 4002 r
    let p := evaluateAdvance .initial 4003 4003 { o.record with uBind := some 4003 }
    o.record.evidence.advanceRefused = { raw := 3, worst := 3, tripped := true } ∧ o.alerts = 0x0040 ∧ o.taken = false ∧
      p.record.evidence.advanceRefused = { raw := 0, worst := 3, tripped := true } ∧ p.record.lastWritten = some 4003 := by
  decide +kernel

/-! ### The Condition Monitor (chapter 4) -/

/-- The worked sequence, steps 2 to 4: a swath opens, a second opening is skipped, the completion moves the position. -/
theorem test_swath_paced_steps :
    let m : Monitor := { Monitor.initial with mode := .swathPaced, sequence := [2, 5, 2, 7] }
    let m3 := m.swathOpens.swathOpens
    let m4 := (after (.conversionComplete 2100) { up with monitor := m3 }).monitor
    m.swathOpens.conversion = some { input := 2, origin := .sequence true } ∧ m3.skipped = 1 ∧ m4.position = 1 ∧
      m4.samples[(2 : ThermalInput)] = some 2100 ∧ m4.conversion = none := by decide +kernel

/-- Moving the thresholds: 2100 is band 4 at reset and band 5 after step 4. -/
theorem test_band_after_moving_thresholds :
    bandOf Monitor.initial.thresholds 2100 = 4 ∧ bandOf #v[400, 900, 1400, 1900, 2050, 2300, 3800] 2100 = 5 := by decide

/-! ### The Record Store (chapter 10) -/

/-- At 4 and 12 ms: a write to a queued position takes its place; a failed verify at attempt 1 is tried again. -/
theorem test_programVerify_and_merging :
    let s := programming (.checkpoint 2 none) 2 1
    (commit (.retired 1 (some ⟨7, 0, 1, .emptied, 1⟩)) s).store.commitQueue =
        [.retired 0 none, .retired 1 (some ⟨7, 0, 1, .emptied, 1⟩)] ∧
      (after (.programVerify false) s).store.program = some { write := .checkpoint 2 none, attempt := 2 } ∧
      (after (.programVerify true) s).store.program = some { write := .retired 0 none, attempt := 1 } ∧
      raised (.programVerify false) (programming (.checkpoint 2 none) 2 2) = Condition.mask .storeWriteFail := by decide +kernel

/-! ### Requests (chapters 2, 4, 9 and 11) -/

/-- The result and the data of the newest reply that a command leaves. -/
def answer (c : Instr) (s : State) : Option (ResultCode × List Byte) :=
  match (after c s).agent.returnQueue.getLast? with
  | some (.reply _ _ r data _) => some (r, data)
  | _ => none

theorem test_unknownRequest : answer .unknownRequest (asking 0x1A [] up) = some (.unknownRequest, []) := by decide +kernel

/-- R186: 13 bytes; KEY_ABSENT is bit 11; the expected number after this frame is 1. -/
theorem test_readSummary :
    answer .readSummary (asking 0x01 [] up) = some (.ok, [0, 0, 0x08, 0, 0, 0, 0, 0, 0, 0, 0, 1, 0]) := by decide +kernel

theorem test_readSlot_has_101_bytes :
    (answer .readSlot (asking 0x02 [2] (up.setSlot 2 (bound 1000 100 100)))).map (fun p => (p.2.length, p.2.take 3)) =
      some (101, [2, 0x11, 4]) := by decide +kernel

theorem test_collectStatus_clears :
    let s := up.setSlot 2 (mergeStatus 20 none 0 Alert.removed.bits (.initial .empty))
    answer .collectStatus (asking 0x03 [2] s) = some (.ok, [1, 0, 0, 0, 0, 0, 1, 0, 2, 0, 0, 0, 0]) ∧
      ((after .collectStatus (asking 0x03 [2] s)).slot 2).status = none := by decide +kernel

theorem test_startOperation_release_and_its_bar :
    answer .startOperation (asking 0x04 [2, 4] (up.setSlot 2 (bound 1000 100 100))) = some (.pending, [4, 0]) ∧
      answer .startOperation (asking 0x04 [2, 2] (running (requested .release .advance) (bound 1000 100 100))) =
        some (.badState, []) := by decide +kernel

theorem test_haltSlot_in_flight :
    let s := asking 0x05 [2] (running (requested .verify .challenge) (bound 1000 100 100))
    answer .haltSlot s = some (.pending, [2, 0]) ∧
      ((after .haltSlot s).slot 2).current.map (·.haltPending) = some true := by decide +kernel

theorem test_slotConfig_clamps_and_reads_back :
    let s := asking 0x06 [2, 0x82, 0xFF, 0xFF, 4] up
    let t := after .writeSlotConfig s
    (t.slot 2).config.lowMark = 1000 ∧ (t.slot 2).config.timeout = 5 ∧
      answer .readSlotConfig (asking 0x07 [2] t) = some (.ok, [0, 0x03, 0xE8, 0, 50, 0x03, 0xE8, 0x27, 0x10, 5, 20, 5]) := by
  decide +kernel

/-- Chapter 2, steps 1 to 3: 1000 nozzles become 960, 50 dvu become 100, k 1400 becomes 1280, thermal input 9 is refused. -/
theorem test_writeLane_adjusts_and_refuses :
    let t := after .writeLane (asking 0x08 ([4, 0, 0x1F, 2] ++ beBytes 2 1000 ++ beBytes 2 180 ++ beBytes 2 420 ++ beBytes 2 1200) up)
    let u := after .writeLane (asking 0x08 ([4, 0x08, 0x06] ++ beBytes 2 1024 ++ beBytes 2 50 ++ beBytes 2 1400) t)
    (t.laneEntry 4).slot = some 2 ∧ (t.laneEntry 4).nozzles = 960 ∧ (u.laneEntry 4).nozzles = 1024 ∧ (u.laneEntry 4).v1 = 100 ∧
      (u.laneEntry 4).k[(4 : Band)] = 1280 ∧
      answer .writeLane (asking 0x08 ([4, 0x08, 0x24] ++ beBytes 2 180 ++ [9] ++ beBytes 2 1075) u) = some (.badArgument, []) := by
  decide +kernel

theorem test_readLane :
    (answer .readLane (asking 0x09 [15] up)).map (fun p => (p.2.length, p.2.take 3, (p.2.drop 9).take 4)) =
      some (27, [0xFF, 0, 64], [7, 3, 4, 0]) := by decide +kernel

theorem test_readLaneCounters_clears :
    let s := up.modCounters 3 fun c => { c with drops2 := 258 }
    ((answer .readLaneCounters (asking 0x0A [3, 1] s)).map fun p => (p.2.length, (p.2.drop 24).take 6)) =
        some (42, [0, 0, 0, 0, 1, 2]) ∧
      (after .readLaneCounters (asking 0x0A [3, 1] s)).lanes.counters[(3 : Lane)] = .zero := by decide +kernel

/-- Chapter 9, worked case 3, steps 1 to 4. -/
theorem test_a_locked_policy :
    let s := after .lockPolicy (asking 0x0D [] up)
    s.policy.locked = true ∧ answer .writePolicy (asking 0x0B [0x08, 0x00, 4] s) = some (.badArgument, []) ∧
      answer .writePolicy (asking 0x0B [0x00, 0x40, 0] s) = some (.locked, []) ∧
      (after .writePolicy (asking 0x0B [0x10, 0x40, 3, 0, 10] up)).policy.action .unverified = .hold := by decide +kernel

theorem test_readPolicy_has_64_bytes :
    (answer .readPolicy (asking 0x0C [] up)).map (fun p => (p.2.length, p.2.take 14)) =
      some (64, [0, 3, 3, 0, 3, 3, 0, 1, 1, 1, 0, 0, 0, 20]) := by decide +kernel

theorem test_writeSequence_and_setSampleMode :
    let t := after .writeSequence (asking 0x0E [4, 2, 5, 2, 7] up)
    let u := after .setSampleMode (asking 0x0F [1] t)
    t.monitor.sequence = [2, 5, 2, 7] ∧ u.monitor.mode = .swathPaced ∧
      answer .writeSequence (asking 0x0E [1, 0] u) = some (.busy, []) := by decide +kernel

/-- Chapter 4, steps 7, 9, 11 and 15. -/
theorem test_sampleNext_and_sampleInput :
    answer .sampleNext (asking 0x10 [] (sampling .swathPaced none)) = some (.badState, []) ∧
      answer .sampleInput (asking 0x11 [7] (sampling .swathPaced (some { input := 2, origin := .sequence true }))) =
        some (.busy, []) ∧
      answer .sampleInput (asking 0x11 [7] (sampling .swathPaced none)) = some (.ok, [7, 0]) ∧
      answer .sampleNext (asking 0x10 [] (sampling .requestPaced none)) = some (.ok, [0, 0]) := by decide +kernel

theorem test_readSamples_has_62_bytes :
    (answer .readSamples (asking 0x12 [0] up)).map (fun p => (p.2.length, (p.2.drop 10).take 6)) =
      some (62, [0, 0, 0xFF, 0xFF, 0xFF, 0xFF]) := by decide +kernel

/-- Chapter 4, moving the thresholds, steps 1 and 2, and a limit that is reached at once. -/
theorem test_writeLimits :
    let values (t4 : Nat) := [400, 900, 1400, t4, 2600, 3200, 3800].flatMap (beBytes 2)
    answer .writeLimits (asking 0x13 (0x01 :: values 1400) up) = some (.badArgument, []) ∧
      answer .writeLimits (asking 0x13 (0x03 :: (values 1900 ++ [1, 9] ++ beBytes 2 3000)) up) = some (.badArgument, []) ∧
      (after .writeLimits (asking 0x13 (0x01 :: values 1900) up)).monitor.thresholds = #v[400, 900, 1400, 1900, 2600, 3200, 3800] ∧
      (after .writeLimits (asking 0x13 [0x02, 1, 0, 0x07, 0xD0] (heated 2000))).agent.sticky = Condition.mask (.overtemp 0) := by
  decide +kernel

theorem test_readRetired_and_forgetRetired :
    let s := { up with refill := listed 5 }
    (answer .readRetired (asking 0x14 [3] s)).map (fun p => (p.2.length, p.2.take 2)) = some (38, [5, 2]) ∧
      (after .forgetRetired (asking 0x15 (beBytes 8 2) s)).refill.retired.length = 4 ∧
      answer .forgetRetired (asking 0x15 (beBytes 8 9) s) = some (.notPresent, []) := by decide +kernel

/-- Chapter 7: a first key is PENDING, a second one LOCKED. -/
theorem test_provisionKey :
    let t := after .provisionKey (asking 0x16 (beBytes 32 5) up)
    t.key = .provisioning ∧ (after (.programVerify true) t).key = .present 5 ∧
      answer .provisionKey (asking 0x16 (beBytes 32 6) (after (.programVerify true) t)) = some (.locked, []) := by decide +kernel

/-- Chapter 4, the head over its limit, step 10, and a held stream with an empty slot. -/
theorem test_resumeStream :
    (after .resumeStream (askingHeld 0x17 [] up)).port.stream = .opened ∧
      (after .resumeStream (askingHeld 0x17 [] (holding up))).port.stream = .held ∧
      (after .resumeStream (askingHeld 0x17 [] (holding up))).policy.holdCauses = [{ lane := 0, condition := .noCartridge }] := by
  decide +kernel

/-- Chapter 4, the head over its limit, steps 5 and 9, and the bits a fault mask keeps. -/
theorem test_clearConditions_and_writeFaultMask :
    (after .clearConditions (asking 0x18 [0, 1, 0, 0] (heated 2000))).agent.sticky = Condition.mask (.overtemp 0) ∧
      (after .clearConditions (asking 0x18 [0, 1, 0, 0] (heated 1999))).agent.sticky = 0 ∧
      answer .writeFaultMask (asking 0x19 [0xFF, 0xFF, 0xFF, 0xFF] up) = some (.ok, [0x00, 0xFF, 0x37, 0xF8]) := by
  decide +kernel

/-! ### The queue and the words -/

theorem test_step_idles_on_an_empty_queue : step up = .next up := rfl

theorem test_no_word_spells_a_command : up.withFetchWord 16 0xA5 = up := rfl

end Sys2Proof.Tests
end

section
/-! The stream between taken frames: what stream state, hold-cause list and waits are read from, and the ways in which a request
or an event can act on them (R14 to R16, R165 to R169). -/

namespace Sys2Proof.Machine

/-! ### Holding lanes and waiting lanes -/

/-- A filtered map written with a test is a map over the filtered list. -/
theorem filterMap_ite_some {α β : Type} (p : α → Prop) [DecidablePred p] (g : α → β) (l : List α) :
    (l.filterMap fun x => if p x then some (g x) else none) = (l.filter fun x => decide (p x)).map g := by
  induction l with
  | nil => rfl
  | cons x xs ih => by_cases h : p x <;> simp [h, ih]

/-- The hold check finds the lanes of R166 in the words of the statements. -/
theorem holdingLanes_eq (s : State) : s.holdingLanes = s.holdCausesNow := by
  simp only [State.holdingLanes, State.holdCausesNow, filterMap_ite_some, ← Option.isSome_iff_ne_none]

theorem mem_holdingLanes {s : State} {h : HoldCause} :
    h ∈ s.holdingLanes ↔
      (s.laneEntry h.lane).slot ≠ none ∧ s.laneAction h.lane = .hold ∧ h.condition = s.laneCondition h.lane := by
  rw [holdingLanes_eq, State.holdCausesNow]
  constructor
  · intro hm
    obtain ⟨l, hl, rfl⟩ := List.mem_map.mp hm
    simpa [mem_allLanes] using hl
  · rintro ⟨hs, ha, hc⟩
    exact List.mem_map.mpr ⟨h.lane, by simp [mem_allLanes, hs, ha], by rw [← hc]⟩

theorem holdingLanes_eq_nil_iff (s : State) : s.holdingLanes = [] ↔ NoLaneHolds s := by
  constructor
  · intro h l hs ha
    have hm : (⟨l, s.laneCondition l⟩ : HoldCause) ∈ s.holdingLanes := mem_holdingLanes.mpr ⟨hs, ha, rfl⟩
    simp [h] at hm
  · intro h
    refine List.eq_nil_iff_forall_not_mem.mpr fun c hc => ?_
    obtain ⟨hs, ha, -⟩ := mem_holdingLanes.mp hc
    exact h _ hs ha

/-- The lanes of a hold-cause list as the hold check makes it stand in order (R166). -/
theorem holdingLanes_ordered (s : State) : s.holdingLanes.Pairwise fun a b => a.lane < b.lane := by
  have hl : allLanes.Pairwise (· < ·) := by decide
  rw [holdingLanes_eq, State.holdCausesNow, List.pairwise_map]
  exact hl.filter _

theorem laneWaits_iff (s : State) (l : Lane) : s.laneWaits l = true ↔ Waits s l := by
  unfold State.laneWaits Waits
  cases (s.laneEntry l).slot with
  | none => simp
  | some n => simp [Option.isSome_iff_ne_none, and_assoc]

/-- A part that is not running has its slots at rest, so no lane waits. -/
theorem SlotsWf.not_waits {s : State} (h : SlotsWf s) (hr : s.running = false) (l : Lane) : ¬Waits s l := by
  rintro ⟨n, -, -, hw, -⟩
  have hi := h.stopped hr n
  exact hw.elim (· hi.current) (· hi.queue)

/-! ### What a wait is read from -/

/-- Two slots are alike in what a wait is read from (R156, R168). -/
structure SameWait (c d : SlotContext) : Prop where
  bindingState : d.bindingState = c.bindingState
  units : d.record.unverifiedUnits = c.record.unverifiedUnits
  current : d.current = none ↔ c.current = none
  queue : d.queue = c.queue

theorem SameWait.refl (c : SlotContext) : SameWait c c := ⟨rfl, rfl, .rfl, rfl⟩

/-- Two states are alike in what the waits of RESUME_PENDING are read from (R168). -/
structure SameWaits (s t : State) : Prop where
  table : t.lanes.table = s.lanes.table
  samples : t.monitor.samples = s.monitor.samples
  limits : t.monitor.limits = s.monitor.limits
  actions : t.policy.actions = s.policy.actions
  allowance : t.policy.allowance = s.policy.allowance
  holdCauses : t.policy.holdCauses = s.policy.holdCauses
  slots : ∀ n : Slot, SameWait (s.slot n) (t.slot n)

theorem SameWaits.refl (s : State) : SameWaits s s := ⟨rfl, rfl, rfl, rfl, rfl, rfl, fun _ => .refl _⟩

theorem SameWaits.trans {s t u : State} (h : SameWaits s t) (g : SameWaits t u) : SameWaits s u where
  table := g.table.trans h.table
  samples := g.samples.trans h.samples
  limits := g.limits.trans h.limits
  actions := g.actions.trans h.actions
  allowance := g.allowance.trans h.allowance
  holdCauses := g.holdCauses.trans h.holdCauses
  slots n :=
    ⟨(g.slots n).bindingState.trans (h.slots n).bindingState, (g.slots n).units.trans (h.slots n).units,
      (g.slots n).current.trans (h.slots n).current, (g.slots n).queue.trans (h.slots n).queue⟩

theorem SameWaits.modSlot {s : State} {n : Slot} {f : SlotContext → SlotContext} (h : SameWait (s.slot n) (f (s.slot n))) :
    SameWaits s (s.modSlot n f) where
  table := rfl
  samples := rfl
  limits := rfl
  actions := rfl
  allowance := rfl
  holdCauses := rfl
  slots m := by
    by_cases hm : m = n
    · subst hm; simpa using h
    · rw [State.slot_modSlot_ne hm]; exact .refl _

/-- The condition of a slot whose binding is pending rests on the allowance and its unverified units alone (R156). -/
theorem slotCondition_of_pending {allowance : Nat} {c : SlotContext}
    (h : c.bindingState = .pendingId ∨ c.bindingState = .pendingAuth) :
    slotCondition allowance c = if allowance ≤ c.record.unverifiedUnits then .unverifiedOver else .unverified := by
  rcases h with h | h <;> simp [slotCondition, unproved, h]

theorem SameWaits.waits {s t : State} (h : SameWaits s t) {l : Lane} (hw : Waits s l) : Waits t l := by
  obtain ⟨n, hslot, hstate, hop, hwhy⟩ := hw
  have hentry : t.laneEntry l = s.laneEntry l := by simp [State.laneEntry, h.table]
  have hpend : (t.slot n).bindingState = .pendingId ∨ (t.slot n).bindingState = .pendingAuth := by
    rwa [(h.slots n).bindingState]
  have hcond : t.laneCondition l = s.laneCondition l := by
    simp only [State.laneCondition, hentry, hslot, overLimit, h.samples, h.limits, slotCondition_of_pending hpend,
      slotCondition_of_pending hstate, h.allowance, (h.slots n).units]
  have haction : t.laneAction l = s.laneAction l := by
    simp only [State.laneAction, PolicyUnit.action, hcond, h.actions]
  refine ⟨n, by rwa [hentry], hpend, ?_, by rwa [h.holdCauses, haction]⟩
  rwa [(h.slots n).queue, Ne, (h.slots n).current]

/-! ### The opening of a swath -/

@[simp] theorem openSwath_port (s : State) : (openSwath s).port = { s.port with stream := .opened } := rfl

@[simp] theorem openSwath_policy (s : State) : (openSwath s).policy = { s.policy with holdCauses := [] } := rfl

@[simp] theorem openSwath_lanes (s : State) : (openSwath s).lanes = s.lanes := rfl

@[simp] theorem openSwath_monitor (s : State) : (openSwath s).monitor = s.monitor.swathOpens := rfl

@[simp] theorem openSwath_slot (s : State) (n : Slot) :
    (openSwath s).slot n = { s.slot n with swathCredited := 0, swathOrphaned := 0 } := by
  have h : (openSwath s).slots = (s.mapSlots fun c => { c with swathCredited := 0, swathOrphaned := 0 }).slots := rfl
  rw [State.slot_congr h, State.slot_mapSlots]

/-- A signal to the Condition Monitor moves no sample and no limit (R66, R68). -/
theorem swathOpens_frame (m : Monitor) :
    m.swathOpens = { m with conversion := m.swathOpens.conversion, skipped := m.swathOpens.skipped } := by
  unfold Monitor.swathOpens
  split
  · unfold Monitor.pacedTrigger
    split <;> rfl
  · rfl
  · rfl

/-- In SWATH_PACED a conversion is in flight once the swath has opened (R62, R66, R68). -/
theorem swathOpens_conversion {m : Monitor} (h : m.mode = .swathPaced) : m.swathOpens.conversion ≠ none := by
  simp only [Monitor.swathOpens, h, Monitor.pacedTrigger, Monitor.busy]
  split
  · next hb => simpa [Monitor.skip, Option.isSome_iff_ne_none] using hb
  · simp

/-- The opening of a swath moves no lane's condition. -/
theorem openSwath_laneCondition (s : State) (l : Lane) : (openSwath s).laneCondition l = s.laneCondition l := by
  have hm : ∀ x, overLimit s.monitor.swathOpens x = overLimit s.monitor x := fun x => by
    unfold overLimit; rw [swathOpens_frame]
  have hc : ∀ a n, slotCondition a ((openSwath s).slot n) = slotCondition a (s.slot n) := fun a n => by
    rw [openSwath_slot]; rfl
  simp only [State.laneCondition, State.laneEntry, openSwath_lanes, openSwath_monitor, hm, openSwath_policy, hc]
  rfl

theorem openSwath_laneAction (s : State) (l : Lane) : (openSwath s).laneAction l = s.laneAction l := by
  simp only [State.laneAction, openSwath_laneCondition]; rfl

theorem noLaneHolds_openSwath {s : State} (h : NoLaneHolds s) : NoLaneHolds (openSwath s) := by
  intro l hs ha
  rw [openSwath_laneAction] at ha
  exact h l hs ha

/-- No lane waits once the swath is open: no lane is listed and none holds (R16, R168). -/
theorem not_waits_openSwath {s : State} (h : NoLaneHolds s) (l : Lane) : ¬Waits (openSwath s) l := by
  rintro ⟨n, hs, -, -, ⟨c, hc, -⟩ | ha⟩
  · simp at hc
  · exact noLaneHolds_openSwath h l (by simp [hs]) ha

/-! ### The wait test -/

/-- The state once the stream is held again, with the lanes that hold now (R169). -/
def State.heldAgain (s : State) : State :=
  { s with port := { s.port with stream := .held }, policy := { s.policy with holdCauses := s.holdingLanes } }

/-- A lane that waits when the stream is held again waited before: a lane now listed has the action HOLD (R168). -/
theorem waits_of_heldAgain {s : State} {l : Lane} (h : Waits s.heldAgain l) : Waits s l := by
  obtain ⟨n, hs, hb, ho, hw⟩ := h
  refine ⟨n, hs, hb, ho, .inr ?_⟩
  rcases hw with ⟨c, hc, rfl⟩ | ha
  · exact (mem_holdingLanes.mp hc).2.1
  · exact ha

/-- What the wait test leaves (R168, R169): the state as it is, outside RESUME_PENDING or while a lane waits; else the swath
opened or the stream held again. -/
theorem waitTest_spec (s : State) :
    (waitTest s = s ∧ (s.port.stream = .resumePending → ∃ l, Waits s l)) ∨
      (s.port.stream = .resumePending ∧ (∀ l, ¬Waits s l) ∧ NoLaneHolds s ∧ waitTest s = openSwath s) ∨
      (s.port.stream = .resumePending ∧ (∀ l, ¬Waits s l) ∧ ¬NoLaneHolds s ∧ waitTest s = s.heldAgain) := by
  have hany : allLanes.any s.laneWaits = true ↔ ∃ l, Waits s l := by
    simp [← laneWaits_iff, mem_allLanes]
  by_cases hp : s.port.stream = .resumePending
  · by_cases hw : ∃ l, Waits s l
    · exact .inl ⟨by simp [waitTest, hany.mpr hw], fun _ => hw⟩
    · have hf : allLanes.any s.laneWaits = false := by rw [← Bool.not_eq_true, hany]; exact hw
      have he : waitTest s = reevaluate s := by simp [waitTest, hp, hf]
      refine .inr ?_
      by_cases hn : NoLaneHolds s
      · exact .inl ⟨hp, not_exists.mp hw, hn, by simp [he, reevaluate, (holdingLanes_eq_nil_iff s).mpr hn]⟩
      · exact .inr ⟨hp, not_exists.mp hw, hn, by
          rw [he, reevaluate, if_neg (by simpa [holdingLanes_eq_nil_iff] using hn)]; rfl⟩
  · exact .inl ⟨waitTest_of_ne hp, fun h => absurd h hp⟩

/-- The wait test touches the stream state, the swath sums, the Condition Monitor's signal and the hold-cause list alone. -/
theorem waitTest_frame (s : State) :
    waitTest s =
      { s with
          port := { s.port with stream := (waitTest s).port.stream }, slots := (waitTest s).slots,
          monitor := (waitTest s).monitor, policy := { s.policy with holdCauses := (waitTest s).policy.holdCauses } } := by
  rcases waitTest_spec s with ⟨h, -⟩ | ⟨-, -, -, h⟩ | ⟨-, -, -, h⟩ <;> rw [h] <;> rfl

@[simp] theorem waitTest_agent (s : State) : (waitTest s).agent = s.agent := by rw [waitTest_frame]

@[simp] theorem waitTest_store (s : State) : (waitTest s).store = s.store := by rw [waitTest_frame]

@[simp] theorem waitTest_pending (s : State) : (waitTest s).pending = s.pending := by rw [waitTest_frame]

@[simp] theorem waitTest_buffer (s : State) : (waitTest s).port.buffer = s.port.buffer := by rw [waitTest_frame]

@[simp] theorem waitTest_outQueue (s : State) : (waitTest s).port.outQueue = s.port.outQueue := by rw [waitTest_frame]

/-- The wait test looks at no part of the Record Store. -/
theorem waitTest_withStore (st : RecordStore) (s : State) :
    waitTest { s with store := st } = { waitTest s with store := st } := by
  unfold waitTest
  simp only [apply_ite (fun t : State => { t with store := st })]
  unfold reevaluate
  simp only [apply_ite (fun t : State => { t with store := st })]
  rfl

end Sys2Proof.Machine
end

section
/-! What a request or an event leaves of the Swath Port, and how it acts on the held stream: at most through the wait test. -/

namespace Sys2Proof.Machine

/-! ### Work that leaves the Swath Port alone -/

/-- From s to t the Swath Port, the hold-cause list, the return queues and the queue of commands did not move. -/
structure PortKept (s t : State) : Prop where
  port : t.port = s.port
  holdCauses : t.policy.holdCauses = s.policy.holdCauses
  returnQueue : t.agent.returnQueue = s.agent.returnQueue
  pending : t.pending = s.pending

theorem PortKept.refl (s : State) : PortKept s s := ⟨rfl, rfl, rfl, rfl⟩

theorem PortKept.trans {s t u : State} (h : PortKept s t) (g : PortKept t u) : PortKept s u :=
  ⟨g.port.trans h.port, g.holdCauses.trans h.holdCauses, g.returnQueue.trans h.returnQueue, g.pending.trans h.pending⟩

theorem SlotWork.portKept {n : Slot} {s t : State} (h : SlotWork n s t) : PortKept s t := by
  constructor <;> rw [h.frame]

theorem portKept_raise (c : Condition) (s : State) : PortKept s (s.raise c) := by constructor <;> simp

/-- Work at each slot in turn leaves the Swath Port alone. -/
theorem portKept_overSlots {f : Slot → State → State} (h : ∀ n s, PortKept s (f n s)) (s : State) :
    PortKept s (overSlots f s) :=
  overSlots_keeps (P := PortKept s) (fun n _ ht => ht.trans (h n _)) s (.refl s)

/-! ### The ways of acting on the held stream -/

/-- How a request, once taken, or an event acts on the held stream: it leaves what waits are read from; or the wait test follows
its other effects; or it is the resumption; or it comes to a part that is not running (R168). -/
inductive WaitStep (s t : State) : Prop
  | quiet (kept : PortKept s t) (same : SameWaits s t)
  | tested (u : State) (kept : PortKept s u) (result : t = waitTest u)
  | resumed (held : s.port.stream = .held) (result : t = waitTest { s with port := { s.port with stream := .resumePending } })
  | stopped (kept : PortKept s t) (notRunning : s.running = false)

theorem WaitStep.refl (s : State) : WaitStep s s := .quiet (.refl s) (.refl s)

theorem WaitStep.pending {s t : State} (h : WaitStep s t) : t.pending = s.pending := by
  cases h with
  | quiet kept => exact kept.pending
  | tested u kept result => rw [result, waitTest_pending, kept.pending]
  | resumed _ result => rw [result, waitTest_pending]
  | stopped kept => exact kept.pending

theorem WaitStep.returnQueue {s t : State} (h : WaitStep s t) : t.agent.returnQueue = s.agent.returnQueue := by
  cases h with
  | quiet kept => exact kept.returnQueue
  | tested u kept result => rw [result, waitTest_agent, kept.returnQueue]
  | resumed _ result => rw [result, waitTest_agent]
  | stopped kept => exact kept.returnQueue

theorem WaitStep.buffer {s t : State} (h : WaitStep s t) : t.port.buffer = s.port.buffer := by
  cases h with
  | quiet kept => rw [kept.port]
  | tested u kept result => rw [result, waitTest_buffer, kept.port]
  | resumed _ result => rw [result, waitTest_buffer]
  | stopped kept => rw [kept.port]

theorem WaitStep.outQueue {s t : State} (h : WaitStep s t) : t.port.outQueue = s.port.outQueue := by
  cases h with
  | quiet kept => rw [kept.port]
  | tested u kept result => rw [result, waitTest_outQueue, kept.port]
  | resumed _ result => rw [result, waitTest_outQueue]
  | stopped kept => rw [kept.port]

/-! ### The invariants of the held stream across them -/

/-- Stream state, hold-cause list and buffer are all that their agreement is read from (R166). -/
theorem HoldWf.congr {s t : State} (h : HoldWf s) (hs : t.port.stream = s.port.stream) (hb : t.port.buffer = s.port.buffer)
    (hc : t.policy.holdCauses = s.policy.holdCauses) : HoldWf t := by
  have hh : t.streamHeldHolds = s.streamHeldHolds := by simp only [State.streamHeldHolds, hs]
  exact ⟨by rw [hh, hc]; exact h.empty, by rw [hc]; exact h.order, by rw [hh, hb]; exact h.held, by rw [hb]; exact h.checked⟩

theorem HoldWf.of_portKept {s t : State} (h : HoldWf s) (hk : PortKept s t) : HoldWf t :=
  h.congr (by rw [hk.port]) (by rw [hk.port]) hk.holdCauses

/-- An empty hold-cause list agrees with a stream that is not held, whatever the buffer holds behind its head. -/
theorem HoldWf.of_released {t : State} (hs : t.port.stream = .idle ∨ t.port.stream = .opened) (hc : t.policy.holdCauses = [])
    (hb : ∀ f ∈ t.port.buffer.tail, f.phase ≠ .checked) : HoldWf t := by
  have hh : t.streamHeldHolds = false := by rcases hs with hs | hs <;> simp [State.streamHeldHolds, hs]
  exact ⟨fun _ => hc, by simp [hc], by simp [hh], hb⟩

theorem HoldWf.heldAgain {s : State} (h : HoldWf s) (hs : s.streamHeldHolds = true) : HoldWf s.heldAgain :=
  ⟨fun hf => absurd hf (by simp [State.heldAgain, State.streamHeldHolds]), holdingLanes_ordered s, fun _ => h.held hs, h.checked⟩

theorem HoldWf.waitTest {s : State} (h : HoldWf s) : HoldWf (waitTest s) := by
  rcases waitTest_spec s with ⟨he, -⟩ | ⟨-, -, -, he⟩ | ⟨hs, -, -, he⟩ <;> rw [he]
  · exact h
  · exact .of_released (.inr rfl) rfl h.checked
  · exact h.heldAgain (by simp [State.streamHeldHolds, hs])

theorem WaitStep.holdWf {s t : State} (h : WaitStep s t) (hs : HoldWf s) : HoldWf t := by
  cases h with
  | quiet kept => exact hs.of_portKept kept
  | tested u kept result => rw [result]; exact (hs.of_portKept kept).waitTest
  | resumed held result =>
    have hh : s.streamHeldHolds = true := by simp [State.streamHeldHolds, held]
    have hr : HoldWf { s with port := { s.port with stream := .resumePending } } :=
      ⟨fun hf => absurd hf (by simp [State.streamHeldHolds]), hs.order, fun _ => hs.held hh, hs.checked⟩
    rw [result]; exact hr.waitTest
  | stopped kept => exact hs.of_portKept kept

/-- After the wait test the stream is RESUME_PENDING only while a lane waits (R168). -/
theorem waitWf_waitTest (s : State) : WaitWf (waitTest s) := by
  intro hs
  rcases waitTest_spec s with ⟨he, hw⟩ | ⟨-, -, -, he⟩ | ⟨-, -, -, he⟩ <;> rw [he] at hs ⊢
  · exact hw hs
  · simp at hs
  · simp [State.heldAgain] at hs

theorem WaitStep.waitWf {s t : State} (h : WaitStep s t) (hstop : s.running = false → ∀ l, ¬Waits s l) (hs : WaitWf s) :
    WaitWf t := by
  cases h with
  | quiet kept same =>
    intro ht
    obtain ⟨l, hl⟩ := hs (by rwa [← kept.port])
    exact ⟨l, same.waits hl⟩
  | tested u _ result => rw [result]; exact waitWf_waitTest u
  | resumed _ result => rw [result]; exact waitWf_waitTest _
  | stopped kept notRunning =>
    intro ht
    obtain ⟨l, hl⟩ := hs (by rwa [← kept.port])
    exact absurd hl (hstop notRunning l)

/-- What the end of RESUME_PENDING leaves (R168, R169): no lane waits, and the swath is open with no lane that holds, or the
stream is held with the lanes that hold now. -/
def Resumed (t : State) : Prop :=
  (∀ l, ¬Waits t l) ∧
    ((t.port.stream = .opened ∧ NoLaneHolds t ∧ t.policy.holdCauses = [] ∧
        (∀ n : Slot, (t.slot n).swathCredited = 0 ∧ (t.slot n).swathOrphaned = 0) ∧
        (t.monitor.mode = .swathPaced → t.monitor.conversion ≠ none)) ∨
      (t.port.stream = .held ∧ ¬NoLaneHolds t ∧ t.policy.holdCauses = t.holdCausesNow))

theorem resumed_openSwath {s : State} (h : NoLaneHolds s) : Resumed (openSwath s) := by
  refine ⟨not_waits_openSwath h, .inl ⟨rfl, noLaneHolds_openSwath h, rfl, fun n => by simp, fun hm => ?_⟩⟩
  rw [openSwath_monitor] at hm ⊢
  exact swathOpens_conversion (by rwa [swathOpens_frame] at hm)

theorem resumed_heldAgain {s : State} (hw : ∀ l, ¬Waits s l) (h : ¬NoLaneHolds s) : Resumed s.heldAgain :=
  ⟨fun l hl => hw l (waits_of_heldAgain hl), .inr ⟨rfl, h, holdingLanes_eq s⟩⟩

/-- The wait test that takes the stream out of RESUME_PENDING resumes it. -/
theorem resumed_waitTest {s : State} (hs : s.port.stream = .resumePending) (ht : (waitTest s).port.stream ≠ .resumePending) :
    Resumed (waitTest s) := by
  rcases waitTest_spec s with ⟨he, -⟩ | ⟨-, -, hn, he⟩ | ⟨-, hw, hn, he⟩ <;> rw [he] at ht ⊢
  · exact absurd hs ht
  · exact resumed_openSwath hn
  · exact resumed_heldAgain hw hn

theorem WaitStep.resumed_of_exit {s t : State} (h : WaitStep s t) (hs : s.port.stream = .resumePending)
    (ht : t.port.stream ≠ .resumePending) : Resumed t := by
  cases h with
  | quiet kept => exact absurd (by rw [kept.port, hs]) ht
  | tested u kept result => subst result; exact resumed_waitTest (by rw [kept.port, hs]) ht
  | resumed held => simp [hs] at held
  | stopped kept => exact absurd (by rw [kept.port, hs]) ht

end Sys2Proof.Machine
end

section
/-! How each request and each event of the slots, the converter and the Record Store acts on the held stream. -/

namespace Sys2Proof.Machine

/-! ### Requests -/

theorem waitStep_handleReadSummary (args : List Byte) (s : State) : WaitStep s (handleReadSummary args s).state := by
  unfold handleReadSummary
  split <;> exact .refl s

theorem waitStep_handleReadSlot (args : List Byte) (s : State) : WaitStep s (handleReadSlot args s).state := by
  unfold handleReadSlot
  split <;> exact .refl s

theorem waitStep_handleReadSlotConfig (args : List Byte) (s : State) : WaitStep s (handleReadSlotConfig args s).state := by
  unfold handleReadSlotConfig
  split <;> exact .refl s

theorem waitStep_handleReadLane (args : List Byte) (s : State) : WaitStep s (handleReadLane args s).state := by
  unfold handleReadLane
  split <;> exact .refl s

theorem waitStep_handleReadPolicy (args : List Byte) (s : State) : WaitStep s (handleReadPolicy args s).state := by
  unfold handleReadPolicy
  split <;> exact .refl s

theorem waitStep_handleReadRetired (args : List Byte) (s : State) : WaitStep s (handleReadRetired args s).state := by
  unfold handleReadRetired
  split <;> exact .refl s

/-- A change of blocks that no wait is read from, with the Swath Port kept, is quiet. -/
theorem WaitStep.of_sameSlots {s t : State} (hk : PortKept s t) (htable : t.lanes.table = s.lanes.table)
    (hsamples : t.monitor.samples = s.monitor.samples) (hlimits : t.monitor.limits = s.monitor.limits)
    (hactions : t.policy.actions = s.policy.actions) (hallowance : t.policy.allowance = s.policy.allowance)
    (hslots : t.slots = s.slots) : WaitStep s t :=
  .quiet hk ⟨htable, hsamples, hlimits, hactions, hallowance, hk.holdCauses, fun n => by
    rw [State.slot_congr hslots n]; exact .refl _⟩

/-- A change of one slot that leaves what a wait is read from is quiet. -/
theorem WaitStep.of_modSlot {s : State} {n : Slot} {f : SlotContext → SlotContext} (h : SameWait (s.slot n) (f (s.slot n))) :
    WaitStep s (s.modSlot n f) := .quiet (slotWork_modSlot n f s).portKept (.modSlot h)

theorem waitStep_handleCollectStatus (args : List Byte) (s : State) : WaitStep s (handleCollectStatus args s).state := by
  unfold handleCollectStatus
  split
  · exact .refl s
  · dsimp only [okWith]
    exact .of_modSlot ⟨rfl, rfl, .rfl, rfl⟩

theorem waitStep_handleStartOperation (args : List Byte) (s : State) : WaitStep s (handleStartOperation args s).state := by
  unfold handleStartOperation
  split
  · exact .refl s
  · next n kind _ =>
    split
    · exact .refl s
    · split
      · exact .tested _ (slotWork_joinOp n kind .requested s).portKept rfl
      · exact .refl s

theorem waitStep_haltSlot (n : Slot) (s : State) : WaitStep s (haltSlot n s).state := by
  unfold haltSlot
  extract_lets removed s1
  have h1 : SlotWork n s s1 := slotWork_modSlot n _ s
  split
  · exact .tested _ (h1.trans (slotWork_modSlot n _ _)).portKept rfl
  · split
    · exact .tested _ (h1.trans ((slotWork_modSlot n _ _).trans (slotWork_endOp n _ _ _ _ _))).portKept rfl
    · exact .tested _ (h1.trans (slotWork_modSlot n _ _)).portKept rfl

theorem waitStep_handleHaltSlot (args : List Byte) (s : State) : WaitStep s (handleHaltSlot args s).state := by
  unfold handleHaltSlot
  split
  · exact .refl s
  · exact waitStep_haltSlot _ s

/-- The silent judgment of a configured slot keeps its binding state, its unverified units and its operations. -/
theorem sameWaits_judgeConfigured (b : Bool) (n : Slot) (s : State) : SameWaits s (judgeConfigured b n s) := by
  refine .modSlot ⟨by simp, ?_, by simp, by simp⟩
  simp only [mergeStatus_record, evidenceIf]
  split
  · rw [judgeSilently_frame]
  · rfl

theorem waitStep_handleWriteSlotConfig (args : List Byte) (s : State) : WaitStep s (handleWriteSlotConfig args s).state := by
  unfold handleWriteSlotConfig
  split
  · exact .refl s
  · next n v _ =>
    extract_lets cfg s1 s2
    have h1 : SameWaits s s1 := .modSlot ⟨rfl, rfl, .rfl, rfl⟩
    have w1 : SlotWork n s s1 := slotWork_modSlot n _ s
    have h2 : SameWaits s1 s2 ∧ SlotWork n s1 s2 := by
      unfold s2
      split
      · refine ⟨.modSlot ?_, slotWork_modSlot n _ s1⟩
        unfold restartIdle
        split <;> exact ⟨rfl, rfl, .rfl, rfl⟩
      · exact ⟨.refl s1, .refl n s1⟩
    have w3 : SlotWork n s2 (judgeConfigured (marksMove (s.slot n).config cfg) n s2) := slotWork_modSlot n _ s2
    exact .quiet ((w1.trans h2.2).trans w3).portKept ((h1.trans h2.1).trans (sameWaits_judgeConfigured _ n s2))

theorem waitStep_handleWriteLane (args : List Byte) (s : State) : WaitStep s (handleWriteLane args s).state := by
  unfold handleWriteLane
  split
  · exact .refl s
  · split
    · exact .refl s
    · refine .tested _ ?_ rfl
      exact ⟨rfl, rfl, rfl, rfl⟩

theorem waitStep_handleReadLaneCounters (args : List Byte) (s : State) :
    WaitStep s (handleReadLaneCounters args s).state := by
  unfold handleReadLaneCounters
  split
  · exact .refl s
  · next l clear _ =>
    cases clear
    · exact .refl s
    · exact .of_sameSlots ⟨rfl, rfl, rfl, rfl⟩ rfl rfl rfl rfl rfl rfl

theorem waitStep_handleWritePolicy (args : List Byte) (s : State) : WaitStep s (handleWritePolicy args s).state := by
  unfold handleWritePolicy
  split
  · exact .refl s
  · split
    · exact .refl s
    · refine .tested _ ?_ rfl
      exact ⟨rfl, rfl, rfl, rfl⟩

theorem waitStep_handleLockPolicy (args : List Byte) (s : State) : WaitStep s (handleLockPolicy args s).state := by
  unfold handleLockPolicy
  split
  · exact .of_sameSlots ⟨rfl, rfl, rfl, rfl⟩ rfl rfl rfl rfl rfl rfl
  · exact .refl s

theorem waitStep_handleWriteSequence (args : List Byte) (s : State) : WaitStep s (handleWriteSequence args s).state := by
  unfold handleWriteSequence
  split
  · exact .refl s
  · split
    · exact .of_sameSlots ⟨rfl, rfl, rfl, rfl⟩ rfl rfl rfl rfl rfl rfl
    · exact .refl s

theorem waitStep_handleSetSampleMode (args : List Byte) (s : State) : WaitStep s (handleSetSampleMode args s).state := by
  unfold handleSetSampleMode
  split
  · exact .refl s
  · exact .of_sameSlots ⟨rfl, rfl, rfl, rfl⟩ rfl rfl rfl rfl rfl rfl

/-- A paced trigger moves no sample and no limit (R66, R68). -/
theorem pacedTrigger_frame (m : Monitor) :
    m.pacedTrigger = { m with conversion := m.pacedTrigger.conversion, skipped := m.pacedTrigger.skipped } := by
  unfold Monitor.pacedTrigger
  split <;> rfl

theorem waitStep_handleSampleNext (args : List Byte) (s : State) : WaitStep s (handleSampleNext args s).state := by
  have h : WaitStep s { s with monitor := s.monitor.pacedTrigger } := by
    rw [pacedTrigger_frame]
    exact .of_sameSlots ⟨rfl, rfl, rfl, rfl⟩ rfl rfl rfl rfl rfl rfl
  unfold handleSampleNext
  split
  · split
    · dsimp only
      split <;> exact h
    · exact .refl s
  · exact .refl s

theorem waitStep_handleSampleInput (args : List Byte) (s : State) : WaitStep s (handleSampleInput args s).state := by
  unfold handleSampleInput
  split
  · exact .refl s
  · split <;> exact .of_sameSlots ⟨rfl, rfl, rfl, rfl⟩ rfl rfl rfl rfl rfl rfl

theorem waitStep_handleReadSamples (args : List Byte) (s : State) : WaitStep s (handleReadSamples args s).state := by
  unfold handleReadSamples
  split
  · exact .refl s
  · next clear _ =>
    cases clear
    · exact .refl s
    · exact .of_sameSlots ⟨rfl, rfl, rfl, rfl⟩ rfl rfl rfl rfl rfl rfl

theorem portKept_checkLimit (x : ThermalInput) (s : State) : PortKept s (checkLimit x s) := by
  unfold checkLimit
  split
  · exact portKept_raise _ s
  · exact .refl s

theorem portKept_writeLimit (p : ThermalInput × Nat) (s : State) : PortKept s (writeLimit s p) := by
  have h : PortKept s { s with monitor := { s.monitor with limits := s.monitor.limits.set p.1 (clamp 1 4096 p.2) } } :=
    ⟨rfl, rfl, rfl, rfl⟩
  exact h.trans (portKept_checkLimit _ _)

theorem portKept_writeLimits (pairs : List (ThermalInput × Nat)) (s : State) : PortKept s (pairs.foldl writeLimit s) := by
  induction pairs generalizing s with
  | nil => exact .refl s
  | cons p pairs ih => exact (portKept_writeLimit p s).trans (ih _)

theorem waitStep_writeThresholds (t : Option (Vector Nat 7)) (s : State) : WaitStep s (writeThresholds t s) := by
  unfold writeThresholds
  split
  · exact .of_sameSlots ⟨rfl, rfl, rfl, rfl⟩ rfl rfl rfl rfl rfl rfl
  · exact .refl s

theorem portKept_writeThresholds (t : Option (Vector Nat 7)) (s : State) : PortKept s (writeThresholds t s) := by
  unfold writeThresholds
  split <;> exact ⟨rfl, rfl, rfl, rfl⟩

theorem waitStep_handleWriteLimits (args : List Byte) (s : State) : WaitStep s (handleWriteLimits args s).state := by
  unfold handleWriteLimits
  split
  · exact .refl s
  · split
    · exact waitStep_writeThresholds _ s
    · exact .tested _ ((portKept_writeThresholds _ s).trans (portKept_writeLimits _ _)) rfl

/-- Asking for a write changes the Record Store and the sticky conditions alone (R175). -/
theorem requestWrite_frame (w : Write) (s : State) :
    (requestWrite w s).2 =
      { s with
          store := (requestWrite w s).2.store, agent := { s.agent with sticky := (requestWrite w s).2.agent.sticky } } :=
  commit_frame w s

theorem waitStep_removeRetired (e : RetiredEntry) (s : State) : WaitStep s (removeRetired e s) := by
  unfold removeRetired
  rw [commit_frame]
  exact .of_sameSlots ⟨rfl, rfl, rfl, rfl⟩ rfl rfl rfl rfl rfl rfl

theorem waitStep_handleForgetRetired (args : List Byte) (s : State) : WaitStep s (handleForgetRetired args s).state := by
  unfold handleForgetRetired
  split
  · exact .refl s
  · split
    · exact .refl s
    · split
      · exact .refl s
      · exact waitStep_removeRetired _ s

theorem waitStep_handleProvisionKey (args : List Byte) (s : State) : WaitStep s (handleProvisionKey args s).state := by
  unfold handleProvisionKey
  split
  · exact .refl s
  · next root _ =>
    split
    · exact .refl s
    · exact .refl s
    · extract_lets r
      obtain ⟨st, w, hr⟩ : ∃ st w, r.2 = { s with store := st, agent := { s.agent with sticky := w } } :=
        ⟨_, _, requestWrite_frame (.key root) s⟩
      clear_value r
      obtain ⟨taken, t⟩ := r
      subst hr
      split
      · exact .of_sameSlots ⟨rfl, rfl, rfl, rfl⟩ rfl rfl rfl rfl rfl rfl
      · exact .of_sameSlots ⟨rfl, rfl, rfl, rfl⟩ rfl rfl rfl rfl rfl rfl

theorem waitStep_handleResumeStream (args : List Byte) (s : State) : WaitStep s (handleResumeStream args s).state := by
  unfold handleResumeStream
  split
  · split
    · next h => exact .resumed h rfl
    · exact .refl s
  · exact .refl s

theorem waitStep_handleClearConditions (args : List Byte) (s : State) :
    WaitStep s (handleClearConditions args s).state := by
  unfold handleClearConditions
  split
  · exact .refl s
  · exact .of_sameSlots ⟨rfl, rfl, rfl, rfl⟩ rfl rfl rfl rfl rfl rfl

theorem waitStep_handleWriteFaultMask (args : List Byte) (s : State) : WaitStep s (handleWriteFaultMask args s).state := by
  unfold handleWriteFaultMask
  split
  · exact .refl s
  · exact .of_sameSlots ⟨rfl, rfl, rfl, rfl⟩ rfl rfl rfl rfl rfl rfl

/-- The row and the handler of a request's command (R185). -/
def requestOf : Instr → Option (FrameRow × (List Byte → State → Answer))
  | .unknownRequest => some (.unknownRequest, handleUnknown)
  | .readSummary => some (.request 0x01, handleReadSummary)
  | .readSlot => some (.request 0x02, handleReadSlot)
  | .collectStatus => some (.request 0x03, handleCollectStatus)
  | .startOperation => some (.request 0x04, handleStartOperation)
  | .haltSlot => some (.request 0x05, handleHaltSlot)
  | .writeSlotConfig => some (.request 0x06, handleWriteSlotConfig)
  | .readSlotConfig => some (.request 0x07, handleReadSlotConfig)
  | .writeLane => some (.request 0x08, handleWriteLane)
  | .readLane => some (.request 0x09, handleReadLane)
  | .readLaneCounters => some (.request 0x0A, handleReadLaneCounters)
  | .writePolicy => some (.request 0x0B, handleWritePolicy)
  | .readPolicy => some (.request 0x0C, handleReadPolicy)
  | .lockPolicy => some (.request 0x0D, handleLockPolicy)
  | .writeSequence => some (.request 0x0E, handleWriteSequence)
  | .setSampleMode => some (.request 0x0F, handleSetSampleMode)
  | .sampleNext => some (.request 0x10, handleSampleNext)
  | .sampleInput => some (.request 0x11, handleSampleInput)
  | .readSamples => some (.request 0x12, handleReadSamples)
  | .writeLimits => some (.request 0x13, handleWriteLimits)
  | .readRetired => some (.request 0x14, handleReadRetired)
  | .forgetRetired => some (.request 0x15, handleForgetRetired)
  | .provisionKey => some (.request 0x16, handleProvisionKey)
  | .resumeStream => some (.request 0x17, handleResumeStream)
  | .clearConditions => some (.request 0x18, handleClearConditions)
  | .writeFaultMask => some (.request 0x19, handleWriteFaultMask)
  | _ => none

/-- A request's command takes the frame of its row for its handler (R13). -/
theorem exec_of_requestOf {c : Instr} {row : FrameRow} {handle : List Byte → State → Answer}
    (h : requestOf c = some (row, handle)) (s : State) : exec c s = .next (takeRequest row handle s) := by
  cases c <;> cases h <;> rfl

theorem waitStep_of_requestOf {c : Instr} {row : FrameRow} {handle : List Byte → State → Answer}
    (h : requestOf c = some (row, handle)) (args : List Byte) (s : State) : WaitStep s (handle args s).state := by
  cases c <;> cases h
  case unknownRequest => exact .refl s
  case readSummary => exact waitStep_handleReadSummary args s
  case readSlot => exact waitStep_handleReadSlot args s
  case collectStatus => exact waitStep_handleCollectStatus args s
  case startOperation => exact waitStep_handleStartOperation args s
  case haltSlot => exact waitStep_handleHaltSlot args s
  case writeSlotConfig => exact waitStep_handleWriteSlotConfig args s
  case readSlotConfig => exact waitStep_handleReadSlotConfig args s
  case writeLane => exact waitStep_handleWriteLane args s
  case readLane => exact waitStep_handleReadLane args s
  case readLaneCounters => exact waitStep_handleReadLaneCounters args s
  case writePolicy => exact waitStep_handleWritePolicy args s
  case readPolicy => exact waitStep_handleReadPolicy args s
  case lockPolicy => exact waitStep_handleLockPolicy args s
  case writeSequence => exact waitStep_handleWriteSequence args s
  case setSampleMode => exact waitStep_handleSetSampleMode args s
  case sampleNext => exact waitStep_handleSampleNext args s
  case sampleInput => exact waitStep_handleSampleInput args s
  case readSamples => exact waitStep_handleReadSamples args s
  case writeLimits => exact waitStep_handleWriteLimits args s
  case readRetired => exact waitStep_handleReadRetired args s
  case forgetRetired => exact waitStep_handleForgetRetired args s
  case provisionKey => exact waitStep_handleProvisionKey args s
  case resumeStream => exact waitStep_handleResumeStream args s
  case clearConditions => exact waitStep_handleClearConditions args s
  case writeFaultMask => exact waitStep_handleWriteFaultMask args s

end Sys2Proof.Machine
end

section
/-! How the events of the slots, the converter, the Record Store and the ends of RESTORING and of a pin reset act on the held
stream. -/

namespace Sys2Proof.Machine

/-! ### The events of a slot -/

theorem waitStep_changeSeat (n : Slot) (level : Bool) (s : State) : WaitStep s (changeSeat n level s) := by
  unfold changeSeat
  split
  · exact .refl s
  · exact .of_modSlot ⟨rfl, rfl, .rfl, rfl⟩

theorem slotWork_insertionEvent (n : Slot) (s : State) : SlotWork n s (insertionEvent n s) := by
  unfold insertionEvent
  split
  · exact slotWork_bindAuto n s
  · exact .refl n s

theorem slotWork_removalEvent (n : Slot) (s : State) : SlotWork n s (removalEvent n s) := by
  unfold removalEvent
  split
  · exact .refl n s
  · exact slotWork_removeCartridge n s

theorem waitStep_expireDebounce (n : Slot) (s : State) : WaitStep s (expireDebounce n s) := by
  have h1 : SlotWork n s (s.modSlot n fun c => { c with debounce := none, seat := c.rawSeat }) := slotWork_modSlot n _ s
  have q1 : WaitStep s (s.modSlot n fun c => { c with debounce := none, seat := c.rawSeat }) :=
    .of_modSlot ⟨rfl, rfl, .rfl, rfl⟩
  unfold expireDebounce seatEvent
  dsimp only
  split
  · split
    · exact q1
    · split
      · exact q1
      · split
        · exact .tested _ (h1.trans (slotWork_insertionEvent n _)).portKept rfl
        · exact .tested _ (h1.trans (slotWork_removalEvent n _)).portKept rfl
  · exact .refl s

/-- A start of an attempt keeps the binding state, the queue and that an operation is current (R83). -/
theorem sameWaits_startAttempt (n : Slot) (k : Nat) (s : State) : SameWaits s (startAttempt n k s) := by
  unfold startAttempt
  extract_lets c nonce
  split
  · exact .refl s
  · next op hop =>
    extract_lets target attempt op' s'
    have hc : (s.slot n).current ≠ none := by simp [show (s.slot n).current = some op from hop]
    have h' : SameWaits s s' := .modSlot (f := fun _ => { c with attempt := _, current := some op', idleTimer := none })
      ⟨rfl, rfl, by simp [hc], rfl⟩
    split
    · exact ⟨h'.table, h'.samples, h'.limits, h'.actions, h'.allowance, h'.holdCauses, h'.slots⟩
    · exact h'

theorem waitStep_expireSettle (n : Slot) (s : State) : WaitStep s (expireSettle n s) := by
  unfold expireSettle
  dsimp only
  split
  · refine .quiet ((slotWork_modSlot n _ s).trans (slotWork_startAttempt n 1 _)).portKept
      (SameWaits.trans (.modSlot ?_) (sameWaits_startAttempt n 1 _))
    exact ⟨rfl, rfl, .rfl, rfl⟩
  · exact .refl s

theorem waitStep_expireIdle (n : Slot) (s : State) : WaitStep s (expireIdle n s) := by
  unfold expireIdle
  dsimp only
  split
  · exact .of_modSlot ⟨rfl, rfl, .rfl, rfl⟩
  · exact .refl s

theorem waitStep_receiveResponse (n : Slot) (response : List Byte) (s : State) :
    WaitStep s (receiveResponse n response s) := by
  unfold receiveResponse
  split
  · split
    · exact .tested _ (slotWork_judgeResponse n _ _ _ s).portKept rfl
    · exact .refl s
  · exact .refl s

theorem waitStep_expireAttempt (n : Slot) (received : Nat) (s : State) : WaitStep s (expireAttempt n received s) := by
  unfold expireAttempt
  split
  · split
    · exact .tested _ (slotWork_failAttempt n _ s).portKept rfl
    · exact .refl s
  · exact .refl s

/-! ### The converter and the Record Store -/

theorem waitStep_completeConversion (code : Code) (s : State) : WaitStep s (completeConversion code s) := by
  unfold completeConversion
  split
  · exact .refl s
  · next cv _ =>
    split
    · have h : PortKept s { s with monitor := s.monitor.complete cv code } := ⟨rfl, rfl, rfl, rfl⟩
      exact .tested _ (h.trans (portKept_checkLimit _ _)) rfl
    · exact .refl s

theorem slotWork_askUnverified (n : Slot) (s : State) : SlotWork n s (askUnverified n s) := by
  unfold askUnverified
  split
  · exact slotWork_askAuto n .verify s
  · exact .refl n s

theorem portKept_keyCommitted (root : RootKey) (s : State) : PortKept s (keyCommitted root s) := by
  have h : PortKept s { s with key := .present root } := ⟨rfl, rfl, rfl, rfl⟩
  exact h.trans (portKept_overSlots (fun n t => (slotWork_askUnverified n t).portKept) _)

/-- The next program begins as well before the wait test as after it, which does not look at the Record Store. -/
theorem nextProgram_waitTest (s : State) : nextProgram (waitTest s) = waitTest (nextProgram s) := by
  simp only [nextProgram, waitTest_withStore, waitTest_store]

theorem portKept_withStore (st : RecordStore) (s : State) : PortKept s { s with store := st } := ⟨rfl, rfl, rfl, rfl⟩

theorem waitStep_commitProgram (p : Program) (s : State) : WaitStep s (commitProgram p s) := by
  unfold commitProgram reportCommit
  split
  · next root _ =>
    split
    · exact .of_sameSlots ⟨rfl, rfl, rfl, rfl⟩ rfl rfl rfl rfl rfl rfl
    · rw [nextProgram_waitTest]
      exact .tested _ (((portKept_withStore _ s).trans (portKept_keyCommitted root _)).trans (portKept_withStore _ _)) rfl
  all_goals exact .of_sameSlots ⟨rfl, rfl, rfl, rfl⟩ rfl rfl rfl rfl rfl rfl

/-- Raising a condition touches the sticky conditions alone (R190). -/
theorem State.raise_frame (c : Condition) (s : State) :
    s.raise c = { s with agent := { s.agent with sticky := (s.raise c).agent.sticky } } := by
  rcases s.raise_cases c with ⟨-, h⟩ | ⟨-, h⟩ <;> rw [h]

/-- An abandoned program touches the key state, the Record Store and the sticky conditions alone (R177). -/
theorem abandonProgram_frame (p : Program) (s : State) :
    ∃ k st w, abandonProgram p s = { s with key := k, store := st, agent := { s.agent with sticky := w } } := by
  unfold abandonProgram reportAbandoned
  dsimp only
  rw [State.raise_frame]
  split <;> exact ⟨_, _, _, rfl⟩

theorem waitStep_abandonProgram (p : Program) (s : State) : WaitStep s (abandonProgram p s) := by
  obtain ⟨k, st, w, h⟩ := abandonProgram_frame p s
  rw [h]
  exact .of_sameSlots ⟨rfl, rfl, rfl, rfl⟩ rfl rfl rfl rfl rfl rfl

theorem waitStep_endProgram (passes : Bool) (s : State) : WaitStep s (endProgram passes s) := by
  unfold endProgram
  split
  · exact .refl s
  · split
    · exact waitStep_commitProgram _ s
    · split
      · exact .of_sameSlots ⟨rfl, rfl, rfl, rfl⟩ rfl rfl rfl rfl rfl rfl
      · exact waitStep_abandonProgram _ s

/-! ### The end of RESTORING and the release of RESET_N -/

theorem portKept_raiseRestoreInvalid (s : State) : PortKept s (raiseRestoreInvalid s) := by
  unfold raiseRestoreInvalid
  split
  · exact portKept_raise _ s
  · exact .refl s

theorem slotWork_bindSeated (n : Slot) (s : State) : SlotWork n s (bindSeated n s) := by
  unfold bindSeated
  split
  · exact slotWork_bindAuto n s
  · exact .refl n s

theorem waitStep_endRestore (s : State) : WaitStep s (endRestore s) := by
  have h : PortKept s (handResults s) := ⟨rfl, rfl, rfl, rfl⟩
  unfold endRestore
  split
  · next hr =>
    have hrun : s.running = false := by simp [State.running, hr.2]
    dsimp only
    split
    · exact .stopped ⟨rfl, rfl, rfl, rfl⟩ hrun
    · exact .stopped ((h.trans (portKept_raiseRestoreInvalid _)).trans
        (portKept_overSlots (fun n t => (slotWork_bindSeated n t).portKept) _)) hrun
  · exact .refl s

theorem slotWork_reprove (n : Slot) (s : State) : SlotWork n s (reprove n s) :=
  ((slotWork_modSlot n _ s).trans (slotWork_setBinding n .pendingAuth none _)).trans (slotWork_askAuto n .verify _)

theorem slotWork_endByEmptySeat (n : Slot) (s : State) : SlotWork n s (endByEmptySeat n s) := by
  unfold endByEmptySeat
  extract_lets s1 s2
  have h1 : SlotWork n s s1 := slotWork_modSlot n _ s
  have h2 : SlotWork n s1 s2 := by
    unfold s2
    split
    · exact .refl n s1
    · exact slotWork_endBinding n s1
  exact (h1.trans h2).trans (slotWork_setBinding n .noCartridge none s2)

theorem slotWork_releaseSlot (n : Slot) (s : State) : SlotWork n s (releaseSlot n s) := by
  unfold releaseSlot
  split
  · exact .refl n s
  · exact slotWork_endByEmptySeat n s
  · exact slotWork_bindAuto n s
  · exact slotWork_askAuto n .bind s
  · exact slotWork_reprove n s
  · exact slotWork_reprove n s
  · split
    · exact slotWork_reprove n s
    · exact (slotWork_setBinding n .pendingId none s).trans (slotWork_askAuto n .bind _)
  all_goals exact .refl n s

theorem portKept_takeHeldCommit (s : State) : PortKept s (takeHeldCommit s) := by
  unfold takeHeldCommit
  split
  · split
    · next root _ =>
      have h := portKept_keyCommitted root s
      generalize keyCommitted root s = t at h ⊢
      exact ⟨h.port, h.holdCauses, h.returnQueue, h.pending⟩
    all_goals exact ⟨rfl, rfl, rfl, rfl⟩
  · exact .refl s

theorem portKept_takeHeldFailure (s : State) : PortKept s (takeHeldFailure s) := by
  unfold takeHeldFailure
  split
  · exact (portKept_withStore _ s).trans (portKept_raise _ _)
  · exact .refl s

theorem portKept_takeHeldRestore (s : State) : PortKept s (takeHeldRestore s) := by
  unfold takeHeldRestore
  split
  · have h := portKept_raiseRestoreInvalid s
    exact ⟨h.port, h.holdCauses, h.returnQueue, h.pending⟩
  · exact .refl s

theorem waitStep_releaseReset (s : State) : WaitStep s (releaseReset s) := by
  unfold releaseReset
  split
  · next hr =>
    extract_lets src s1
    have h1 : PortKept s s1 := ⟨rfl, rfl, rfl, rfl⟩
    have h2 : PortKept s1 (if s.restoring then s1 else overSlots releaseSlot s1) := by
      split
      · exact .refl s1
      · exact portKept_overSlots (fun n t => (slotWork_releaseSlot n t).portKept) s1
    generalize (if s.restoring then s1 else overSlots releaseSlot s1) = s2 at h2 ⊢
    have h3 := (portKept_takeHeldCommit s2).trans (portKept_takeHeldFailure _)
    have h4 := h3.trans (portKept_takeHeldRestore _)
    exact .stopped ((h1.trans h2).trans h4) (by simp [State.running, State.alive, hr.2])
  · exact .refl s

/-! ### All of them -/

/-- The effect of a command that is neither a frame, nor a link's, nor a loss or return of power or the assertion of RESET_N. -/
def eventOf : Instr → Option (State → State)
  | .endOfRestoring => some endRestore
  | .pinResetReleased => some releaseReset
  | .seatChange n level => some (changeSeat n level)
  | .debounceExpiry n => some (expireDebounce n)
  | .settleTimerExpiry n => some (expireSettle n)
  | .idleTimerExpiry n => some (expireIdle n)
  | .cartridgeResponse n response => some (receiveResponse n response)
  | .attemptTimeout n received => some (expireAttempt n received)
  | .conversionComplete code => some (completeConversion code)
  | .programVerify passes => some (endProgram passes)
  | _ => none

theorem exec_of_eventOf {c : Instr} {f : State → State} (h : eventOf c = some f) (s : State) : exec c s = .next (f s) := by
  cases c <;> cases h <;> rfl

theorem waitStep_of_eventOf {c : Instr} {f : State → State} (h : eventOf c = some f) (s : State) : WaitStep s (f s) := by
  cases c <;> cases h
  case endOfRestoring => exact waitStep_endRestore s
  case pinResetReleased => exact waitStep_releaseReset s
  case seatChange n level => exact waitStep_changeSeat n level s
  case debounceExpiry n => exact waitStep_expireDebounce n s
  case settleTimerExpiry n => exact waitStep_expireSettle n s
  case idleTimerExpiry n => exact waitStep_expireIdle n s
  case cartridgeResponse n response => exact waitStep_receiveResponse n response s
  case attemptTimeout n received => exact waitStep_expireAttempt n received s
  case conversionComplete code => exact waitStep_completeConversion code s
  case programVerify passes => exact waitStep_endProgram passes s

end Sys2Proof.Machine
end

section
/-! A frame that is taken: sequence tracking, its place freed, and the state in which a print-class frame can be taken (R1 to R7). -/

namespace Sys2Proof.Machine

/-! ### A part that is running -/

theorem released_of_running {s : State} (h : s.running = true) : s.resetAsserted = false := by
  simp only [State.running, State.alive, Bool.and_eq_true, Bool.not_eq_true'] at h
  exact h.1.2

theorem raise_of_released {s : State} (h : s.resetAsserted = false) (c : Condition) : s.raise c = s.withCondition c := by
  simp [State.raise, h, State.withCondition]

/-- The state once the sequence number of a good frame has been tracked (R7). -/
def State.tracked (seq : Byte) (s : State) : State :=
  { s with
      port := { s.port with expected := some (seq + 1) },
      agent := { s.agent with sticky := s.agent.sticky ||| gapBits s.port.expected seq } }

theorem sequenceCheck_of_released {s : State} (h : s.resetAsserted = false) (bs : List Byte) :
    sequenceCheck bs s = s.tracked (frameSequence bs) := by
  rcases sequenceCheck_cases bs s with he | ⟨e, hs, hne, he⟩
  · unfold sequenceCheck at he ⊢
    unfold State.tracked gapBits
    cases hx : s.port.expected with
    | none => simp
    | some e =>
      by_cases hq : e = frameSequence bs
      · simp [hq]
      · simp [hq, State.raise, h]
  · rw [he, raise_of_released (by simpa using h)]
    simp [State.withCondition, State.tracked, gapBits, hs, hne]

@[simp] theorem freePlace_tracked (seq : Byte) (s : State) : freePlace (s.tracked seq) = s.consumed seq := rfl

/-- A good CONTROL frame is consumed before its request is handed to the Agent (R7, R13). -/
theorem handleControl_of_running {s : State} (h : s.running = true) (handle : List Byte → State → Answer) (bs : List Byte) :
    handleControl handle bs s = executeRequest handle bs (s.consumed (frameSequence bs)) := by
  rw [handleControl, sequenceCheck_of_released (released_of_running h), freePlace_tracked]

/-! ### The frame taken next -/

theorem takeable_eq_some_iff {row : FrameRow} {s : State} {bs : List Byte} :
    takeable row s = some bs ↔ TakenNext bs s ∧ frameRow bs = row := by
  constructor
  · intro h
    obtain ⟨⟨bytes, phase⟩, he, rfl, hp, hr, hrow, hroom⟩ := takeable_spec h
    subst hp
    exact ⟨⟨hr, he, hroom⟩, hrow⟩
  · rintro ⟨⟨hr, he, hroom⟩, hrow⟩
    unfold takeable
    rw [he]
    exact if_pos ⟨hr, rfl, hrow, hroom⟩

/-- The frame taken next is discarded by the command of its row with the condition of the first check it fails (R4 to R6). -/
theorem takeFrame_discards {bs : List Byte} {s : State} {c : Condition} (h : TakenNext bs s) (hc : failedCheck s bs = some c)
    (handle : List Byte → State → State) : takeFrame (frameRow bs) handle s = s.discarded c := by
  unfold takeFrame
  rw [takeable_eq_some_iff.mpr ⟨h, rfl⟩]
  dsimp only
  rw [hc]
  exact raise_of_released (s := freePlace s) (released_of_running h.running) c

/-- The frame taken next is handled by the command of its row when it passes its checks. -/
theorem takeFrame_handles {bs : List Byte} {s : State} {row : FrameRow} (h : TakenNext bs s) (hrow : frameRow bs = row)
    (hc : failedCheck s bs = none) (handle : List Byte → State → State) : takeFrame row handle s = handle bs s := by
  unfold takeFrame
  rw [takeable_eq_some_iff.mpr ⟨h, hrow⟩]
  dsimp only
  rw [hc]

/-- What a command that takes a frame can do: nothing, discard the frame taken next, or handle it (R2 to R6). -/
theorem takeFrame_taken (row : FrameRow) (handle : List Byte → State → State) (s : State) :
    takeFrame row handle s = s ∨ ∃ bs, TakenNext bs s ∧ frameRow bs = row ∧
      ((∃ c, failedCheck s bs = some c ∧ takeFrame row handle s = s.discarded c) ∨
        (failedCheck s bs = none ∧ takeFrame row handle s = handle bs s)) := by
  rcases takeFrame_cases row handle s with ⟨-, h⟩ | ⟨bs, ht, hcase⟩
  · exact .inl h
  · obtain ⟨htaken, hrow⟩ := takeable_eq_some_iff.mp ht
    refine .inr ⟨bs, htaken, hrow, hcase.imp_left ?_⟩
    rintro ⟨c, hc, -⟩
    exact ⟨c, hc, hrow ▸ takeFrame_discards htaken hc handle⟩

/-- A control-class kind is CONTROL or STREAM_RESET (R1). -/
theorem controlClass_iff (k : Byte) : controlClass k = true ↔ k = 0xA5 ∨ k = 0xC3 := by
  simp [controlClass]

/-- The rows of the print-class frames. -/
def FrameRow.isPrint : FrameRow → Bool
  | .unknownKind | .fire | .spit | .swathStart | .swathEnd => true
  | .streamReset | .request _ | .unknownRequest => false

theorem controlClass_of_printRow {bs : List Byte} (h : (frameRow bs).isPrint = true) : controlClass (kindCode bs) = false := by
  rw [← Bool.not_eq_true, controlClass_iff]
  rintro (hk | hk)
  · have hf : frameKind (kindCode bs) = some .control := by rw [hk]; decide
    unfold frameRow at h
    rw [hf] at h
    dsimp only at h
    split at h <;> cases h
  · have hf : frameKind (kindCode bs) = some .streamReset := by rw [hk]; decide
    unfold frameRow at h
    rw [hf] at h
    cases h

/-- A print-class frame is taken from the head of the buffer, in IDLE or OPEN, with a place free in the output queue (R3). -/
structure PrintTaken (bs : List Byte) (s : State) : Prop where
  running : s.running = true
  stream : s.port.stream = .idle ∨ s.port.stream = .opened
  head : ∃ rest, s.port.buffer = { bytes := bs, phase := .ready } :: rest
  room : s.port.outQueue.length < 4
  print : controlClass (kindCode bs) = false

theorem TakenNext.printTaken {bs : List Byte} {s : State} (h : TakenNext bs s) (hc : controlClass (kindCode bs) = false) :
    PrintTaken bs s := by
  obtain ⟨hr, he, hroom⟩ := h
  have hfind : s.port.buffer.find? isControl ≠ some { bytes := bs, phase := .ready } := fun hf => by
    have hi : controlClass (kindCode bs) = true := List.find?_some (p := isControl) hf
    simp [hc] at hi
  have hhead : (s.port.stream = .idle ∨ s.port.stream = .opened) ∧
      s.port.buffer.head? = some { bytes := bs, phase := .ready } := by
    unfold Machine.eligible at he
    cases hs : s.port.stream <;> simp_all
  exact ⟨hr, hhead.1, List.head?_eq_some_iff.mp hhead.2, hroom.resolve_left (by simp [hc]), hc⟩

/-- The place that a print-class frame frees is the head's. -/
theorem withoutEligible_of_stream {p : SwathPort} (h : p.stream = .idle ∨ p.stream = .opened) :
    withoutEligible p = p.buffer.tail := by
  rcases h with h | h <;> simp [withoutEligible, h]

/-! ### The held stream as a frame is taken -/

/-- What stands behind the head once the eligible frame has left its place stood behind the head before. -/
theorem mem_tail_of_withoutEligible {p : SwathPort} {f : BufferedFrame} (h : f ∈ (withoutEligible p).tail) :
    f ∈ p.buffer.tail := by
  cases hbuf : p.buffer with
  | nil => cases hs : p.stream <;> simp [withoutEligible, hs, hbuf] at h
  | cons g rest =>
    have hcase : f ∈ rest.tail ∨ f ∈ (List.eraseP isControl (g :: rest)).tail := by
      cases hs : p.stream <;> simp_all [withoutEligible]
    rcases hcase with hm | hm
    · exact List.mem_of_mem_tail hm
    · cases hg : isControl g
      · rw [List.eraseP_cons_of_neg (by simp [hg])] at hm
        exact List.mem_of_mem_eraseP hm
      · rw [List.eraseP_cons_of_pos hg] at hm
        exact List.mem_of_mem_tail hm

/-- The eligible frame leaves its place: the held SWATH_START stays at the head, control-class frames alone behind it (R14). -/
theorem HoldWf.withoutEligible {s t : State} (h : HoldWf s) (hs : t.port.stream = s.port.stream)
    (hb : t.port.buffer = withoutEligible s.port) (hc : t.policy.holdCauses = s.policy.holdCauses) : HoldWf t := by
  have hh : t.streamHeldHolds = s.streamHeldHolds := by simp only [State.streamHeldHolds, hs]
  refine ⟨by rw [hh, hc]; exact h.empty, by rw [hc]; exact h.order, fun hheld => ?_, fun f hf => ?_⟩
  · rw [hh] at hheld
    obtain ⟨f, rest, hbuf, hphase, hprint, hrest⟩ := h.held hheld
    refine ⟨f, rest.eraseP isControl, ?_, hphase, hprint, fun g hg => hrest g (List.mem_of_mem_eraseP hg)⟩
    rw [hb, Machine.withoutEligible]
    cases hst : s.port.stream <;> simp_all [State.streamHeldHolds]
  · exact h.checked f (mem_tail_of_withoutEligible (hb ▸ hf))

end Sys2Proof.Machine
end

section
/-! The held stream as the Swath Port's own commands act: arrivals, the print-class rows, STREAM_RESET and the links. -/

namespace Sys2Proof.Machine

/-! ### What a command of the Swath Port does with the waits -/

/-- How a command of the Swath Port acts on RESUME_PENDING: it keeps the stream state and what the waits are read from, or the
stream is in another state before and after it. -/
inductive PortStep (s t : State) : Prop
  | waits (stream : t.port.stream = s.port.stream) (same : SameWaits s t)
  | free (before : s.port.stream ≠ .resumePending) (after : t.port.stream ≠ .resumePending)

theorem PortStep.refl (s : State) : PortStep s s := .waits rfl (.refl s)

theorem PortStep.waitWf {s t : State} (h : PortStep s t) (hs : WaitWf s) : WaitWf t := by
  intro ht
  cases h with
  | waits stream same =>
    obtain ⟨l, hl⟩ := hs (stream ▸ ht)
    exact ⟨l, same.waits hl⟩
  | free _ after => exact absurd ht after

/-- Such a command does not end RESUME_PENDING. -/
theorem PortStep.stays {s t : State} (h : PortStep s t) (hs : s.port.stream = .resumePending) :
    t.port.stream = .resumePending := by
  cases h with
  | waits stream _ => rw [stream, hs]
  | free before _ => exact absurd hs before

/-- A change of the Swath Port but for its stream state, and of the agent, is quiet. -/
theorem PortStep.of_blocks {s t : State} (hs : t.port.stream = s.port.stream) (hl : t.lanes = s.lanes)
    (hm : t.monitor = s.monitor) (hp : t.policy = s.policy) (hslots : t.slots = s.slots) : PortStep s t :=
  .waits hs ⟨by rw [hl], by rw [hm], by rw [hm], by rw [hp], by rw [hp], by rw [hp], fun n => by
    rw [State.slot_congr hslots n]; exact .refl _⟩

theorem portStep_consumed (seq : Byte) (s : State) : PortStep s (s.consumed seq) := .of_blocks rfl rfl rfl rfl rfl

theorem portStep_discarded (c : Condition) (s : State) : PortStep s (s.discarded c) := .of_blocks rfl rfl rfl rfl rfl

theorem PrintTaken.stream_ne {bs : List Byte} {s : State} (h : PrintTaken bs s) : s.port.stream ≠ .resumePending := by
  rcases h.stream with h | h <;> simp [h]

theorem HoldWf.consumed {s : State} (h : HoldWf s) (seq : Byte) : HoldWf (s.consumed seq) := h.withoutEligible rfl rfl rfl

theorem HoldWf.discarded {s : State} (h : HoldWf s) (c : Condition) : HoldWf (s.discarded c) := h.withoutEligible rfl rfl rfl

/-- A property of the state before holds after a frame is taken, if the discard of a frame and the handling of a good one give
it. -/
theorem takeFrame_gives {P : State → Prop} {row : FrameRow} {handle : List Byte → State → State} {s : State} (h : P s)
    (hd : ∀ c, P (s.discarded c))
    (hh : ∀ bs, TakenNext bs s → frameRow bs = row → failedCheck s bs = none → P (handle bs s)) :
    P (takeFrame row handle s) := by
  rcases takeFrame_taken row handle s with he | ⟨bs, ht, hrow, ⟨c, -, he⟩ | ⟨hc, he⟩⟩ <;> rw [he]
  · exact h
  · exact hd c
  · exact hh bs ht hrow hc

/-! ### Arrivals -/

/-- What the begin of an arrival can do (R1). -/
theorem beginArrival_cases (kind : Byte) (s : State) :
    beginArrival kind s = s ∨ beginArrival kind s = s.raise .inputOverrun ∨
      (s.port.buffer.length < 4 ∧ (controlClass kind = true ∨ s.streamHeldHolds = false) ∧
        beginArrival kind s =
          { s with port := { s.port with buffer := s.port.buffer ++ [{ bytes := [kind], phase := .arriving }] } }) := by
  unfold beginArrival
  by_cases h1 : (!s.running || isArriving s.port.buffer) = true
  · exact .inl (if_pos h1)
  · by_cases h2 : (if controlClass kind then s.crdy else s.rdy) = true
    · have hready : s.port.buffer.length < 4 ∧ (controlClass kind = true ∨ s.streamHeldHolds = false) := by
        cases hk : controlClass kind <;> simp [hk, State.rdy, State.crdy] at h2
        · exact ⟨h2.1.2, .inr h2.2⟩
        · exact ⟨h2.2, .inl rfl⟩
      exact .inr (.inr ⟨hready.1, hready.2, by rw [if_neg h1, if_pos h2]⟩)
    · exact .inr (.inl (by rw [if_neg h1, if_neg h2]))

theorem holdWf_beginArrival {s : State} (h : HoldWf s) (kind : Byte) : HoldWf (beginArrival kind s) := by
  rcases beginArrival_cases kind s with he | he | ⟨-, hk, he⟩ <;> rw [he]
  · exact h
  · exact h.of_portKept (portKept_raise _ s)
  · refine ⟨h.empty, h.order, fun hheld => ?_, fun f hf => ?_⟩
    · obtain ⟨f, rest, hbuf, hphase, hprint, hrest⟩ := h.held hheld
      have hheld' : s.streamHeldHolds = true := hheld
      have hkind : controlClass kind = true := hk.resolve_right (by simp [hheld'])
      refine ⟨f, rest ++ [{ bytes := [kind], phase := .arriving }], by simp [hbuf], hphase, hprint, fun g hg => ?_⟩
      rcases List.mem_append.mp hg with hg | hg
      · exact hrest g hg
      · rw [List.mem_singleton.mp hg]; exact hkind
    · have hf' : f ∈ s.port.buffer.tail ++ [{ bytes := [kind], phase := .arriving }] := by
        revert hf
        cases s.port.buffer with
        | nil => simp
        | cons g rest => simp
      rcases List.mem_append.mp hf' with hf | hf
      · exact h.checked f hf
      · rw [List.mem_singleton.mp hf]; exact FramePhase.noConfusion

theorem portStep_beginArrival (kind : Byte) (s : State) : PortStep s (beginArrival kind s) := by
  rcases beginArrival_cases kind s with he | he | ⟨-, -, he⟩ <;> rw [he]
  · exact .refl s
  · exact .of_blocks (by simp) (by simp) (by simp) (by simp) (by simp)
  · exact .of_blocks rfl rfl rfl rfl rfl

/-- A frame once the bytes behind its first have arrived (R1). -/
def BufferedFrame.arrived (rest : List Byte) (f : BufferedFrame) : BufferedFrame :=
  if f.phase = .arriving then { bytes := f.bytes ++ rest, phase := .ready } else f

theorem endArrival_eq (rest : List Byte) (s : State) :
    endArrival rest s =
      if s.running then { s with port := { s.port with buffer := s.port.buffer.map (·.arrived rest) } } else s := rfl

theorem arrived_of_checked {f : BufferedFrame} (h : f.phase = .checked) (rest : List Byte) : f.arrived rest = f := by
  simp [BufferedFrame.arrived, h]

theorem arrived_phase {f : BufferedFrame} (h : f.phase ≠ .checked) (rest : List Byte) : (f.arrived rest).phase ≠ .checked := by
  unfold BufferedFrame.arrived
  split
  · exact FramePhase.noConfusion
  · exact h

/-- The kind code of a control-class frame stays as its last bytes arrive: its first byte is there. -/
theorem arrived_isControl {f : BufferedFrame} (h : isControl f = true) (rest : List Byte) :
    isControl (f.arrived rest) = true := by
  obtain ⟨bytes, phase⟩ := f
  unfold BufferedFrame.arrived
  split
  · cases bytes with
    | nil => revert h; simp [isControl, kindCode, byteAt, controlClass]
    | cons b bytes => exact h
  · exact h

theorem holdWf_endArrival {s : State} (h : HoldWf s) (rest : List Byte) : HoldWf (endArrival rest s) := by
  rw [endArrival_eq]
  split
  · refine ⟨h.empty, h.order, fun hheld => ?_, fun f hf => ?_⟩
    · obtain ⟨f, behind, hbuf, hphase, hprint, hbehind⟩ := h.held hheld
      refine ⟨f, behind.map (·.arrived rest), by simp [hbuf, arrived_of_checked hphase], hphase, hprint, fun g hg => ?_⟩
      obtain ⟨g', hg', rfl⟩ := List.mem_map.mp hg
      exact arrived_isControl (hbehind g' hg') rest
    · have hf' : f ∈ s.port.buffer.tail.map (·.arrived rest) := by rwa [List.map_tail]
      obtain ⟨g, hg, rfl⟩ := List.mem_map.mp hf'
      exact arrived_phase (h.checked g hg) rest
  · exact h

theorem portStep_endArrival (rest : List Byte) (s : State) : PortStep s (endArrival rest s) := by
  rw [endArrival_eq]
  split
  · exact .of_blocks rfl rfl rfl rfl rfl
  · exact .refl s

/-! ### The head link and the return lane -/

/-- A step of a link leaves all but the Swath Port's output side and the return queues. -/
theorem beginTransfer_frame (ready : Bool) (s : State) :
    ∃ q h, beginTransfer ready s = { s with port := { s.port with outQueue := q, headReady := ready, headTransfer := h } } := by
  unfold beginTransfer
  extract_lets s1
  split
  · split <;> exact ⟨_, _, rfl⟩
  · exact ⟨_, _, rfl⟩

theorem completeTransfer_frame (s : State) :
    ∃ h, completeTransfer s = { s with port := { s.port with headTransfer := h } } := by
  unfold completeTransfer
  split <;> exact ⟨_, rfl⟩

theorem beginTransmission_frame (s : State) :
    ∃ q h, beginTransmission s =
      { s with port := { s.port with returnTransmission := h }, agent := { s.agent with returnQueue := q } } := by
  unfold beginTransmission
  split
  · split <;> exact ⟨_, _, rfl⟩
  · exact ⟨_, _, rfl⟩

theorem completeTransmission_frame (s : State) :
    ∃ h, completeTransmission s = { s with port := { s.port with returnTransmission := h } } := by
  unfold completeTransmission
  split <;> exact ⟨_, rfl⟩

/-- The held SWATH_START leaves for the output queue only in OPEN, marked, with a place free there (R16). -/
theorem forwardHeld_cases (s : State) :
    forwardHeld s = s ∨ ∃ f rest, s.port.buffer = f :: rest ∧ s.running = true ∧ s.port.stream = .opened ∧
      f.phase = .checked ∧ s.port.outQueue.length < 4 ∧
      forwardHeld s = { s with port := { s.port with buffer := rest, outQueue := s.port.outQueue ++ [f.bytes] } } := by
  unfold forwardHeld
  split
  · next f rest hbuf =>
    split
    · next hc =>
      obtain ⟨hr, hs, hp, hq⟩ := hc
      exact .inr ⟨f, rest, hbuf, hr, hs, hp, hq, rfl⟩
    · exact .inl rfl
  · exact .inl rfl

theorem holdWf_forwardHeld {s : State} (h : HoldWf s) : HoldWf (forwardHeld s) := by
  rcases forwardHeld_cases s with he | ⟨f, rest, hbuf, -, hs, -, -, he⟩ <;> rw [he]
  · exact h
  · have hc : s.policy.holdCauses = [] := h.empty (by simp [State.streamHeldHolds, hs])
    exact .of_released (.inr hs) hc fun g hg => h.checked g (by rw [hbuf]; exact List.mem_of_mem_tail hg)

theorem portStep_forwardHeld (s : State) : PortStep s (forwardHeld s) := by
  rcases forwardHeld_cases s with he | ⟨f, rest, -, -, -, -, -, he⟩ <;> rw [he]
  · exact .refl s
  · exact .of_blocks rfl rfl rfl rfl rfl

end Sys2Proof.Machine
end

section
/-! The frames of the swath link as they are handled: FIRE, SPIT, SWATH_START, SWATH_END and STREAM_RESET, with the held stream
and the waits across them (R7 to R17, R29 to R33). -/

namespace Sys2Proof.Machine

/-! ### What each handler does on a running part -/

theorem outOfSwath_of_released {s : State} (h : s.resetAsserted = false) :
    outOfSwath s = (freePlace s).withCondition .outOfSwath := raise_of_released (s := freePlace s) h _

theorem handleFire_of_running {s : State} (h : s.running = true) (bs : List Byte) :
    handleFire bs s =
      if s.port.stream = .opened then filterFire bs (s.tracked (frameSequence bs))
      else (s.consumed (frameSequence bs)).withCondition .outOfSwath := by
  have hr := released_of_running h
  unfold handleFire
  rw [sequenceCheck_of_released hr]
  dsimp only
  rw [outOfSwath_of_released (s := s.tracked _) hr, freePlace_tracked]
  rfl

/-- The slot and lane counts of a counted frame leave the Swath Port alone (R33, R41). -/
theorem portKept_handleReport (r : DropReport) (s : State) : PortKept s (handleReport r s) := by
  cases hslot : r.slot with
  | none => unfold handleReport; rw [hslot]; exact ⟨rfl, rfl, rfl, rfl⟩
  | some n => exact (slotWork_handleReport hslot s).portKept

theorem portKept_countFrame (l : Lane) (n1 n2 n3 : Nat) (marked : Bool) (s : State) :
    PortKept s (countFrame l n1 n2 n3 marked s) := by
  have h : PortKept s (s.modCounters l (countDrops n1 n2 n3 marked)) := ⟨rfl, rfl, rfl, rfl⟩
  exact h.trans (portKept_handleReport _ _)

/-- Whatever the lane's action, a FIRE frame handed to the Lane Filter leaves for the output queue (R29). -/
theorem filterFire_forwards (bs : List Byte) (s : State) : ∃ out u, PortKept s u ∧ filterFire bs s = forward out u := by
  unfold filterFire
  split
  · exact ⟨_, _, portKept_countFrame _ _ _ _ _ s, rfl⟩
  · exact ⟨_, _, portKept_countFrame _ _ _ _ _ s, rfl⟩
  · exact ⟨_, _, portKept_countFrame _ _ _ _ _ s, rfl⟩
  · refine ⟨_, _, ?_, rfl⟩
    exact ⟨rfl, rfl, rfl, rfl⟩

theorem handleSpit_forwards {s : State} (h : s.running = true) (bs : List Byte) :
    ∃ u, PortKept (s.tracked (frameSequence bs)) u ∧ handleSpit bs s = forward bs u := by
  unfold handleSpit
  rw [sequenceCheck_of_released (released_of_running h)]
  exact ⟨_, portKept_countFrame _ _ _ _ _ _, rfl⟩

/-- The report of a closed swath touches the return queues and the sticky conditions alone (R187). -/
theorem queueReport_frame (f : ReturnFrame) (s : State) :
    ∃ q w, queueReport f s = { s with agent := { s.agent with returnQueue := q, sticky := w } } := by
  rcases queueReport_cases f s with ⟨-, h⟩ | ⟨-, h⟩
  · exact ⟨_, _, h⟩
  · rw [h, State.raise_frame]
    exact ⟨_, _, rfl⟩

theorem closeSwath_frame (unterminated : Bool) (closing : Byte) (s : State) :
    ∃ q w, closeSwath unterminated closing s =
      { s with port := { s.port with stream := .idle }, agent := { s.agent with returnQueue := q, sticky := w } } := by
  unfold closeSwath
  generalize ReturnFrame.report unterminated closing _ s.summaryWord = f
  obtain ⟨q, w, h⟩ := queueReport_frame f s
  dsimp only
  rw [h]
  exact ⟨q, w, rfl⟩

theorem handleSwathEnd_of_running {s : State} (h : s.running = true) (bs : List Byte) :
    handleSwathEnd bs s =
      if s.port.stream = .opened then
        forward bs (closeSwath false (frameSequence bs) (s.tracked (frameSequence bs)))
      else (s.consumed (frameSequence bs)).withCondition .outOfSwath := by
  have hr := released_of_running h
  unfold handleSwathEnd
  rw [sequenceCheck_of_released hr]
  dsimp only
  rw [outOfSwath_of_released (s := s.tracked _) hr, freePlace_tracked]
  rfl

/-- The state in which a SWATH_START is put to the hold check: a swath that is open has been closed first (R9). -/
def State.beforeStart (seq : Byte) (s : State) : State :=
  if s.port.stream = .opened then closeSwath true seq (s.tracked seq) else s.tracked seq

theorem handleSwathStart_of_running {s : State} (h : s.running = true) (bs : List Byte) :
    handleSwathStart bs s = startSwath bs (s.beforeStart (frameSequence bs)) := by
  unfold handleSwathStart
  rw [sequenceCheck_of_released (released_of_running h)]
  rfl

/-- The hold check finds IDLE, with sequence number and return queues alone moved (R8, R9). -/
theorem beforeStart_frame {s : State} (h : s.port.stream = .idle ∨ s.port.stream = .opened) (seq : Byte) :
    ∃ q w, s.beforeStart seq =
      { s with
          port := { s.port with stream := .idle, expected := some (seq + 1) },
          agent := { s.agent with returnQueue := q, sticky := w } } := by
  unfold State.beforeStart
  split
  · obtain ⟨q, w, hc⟩ := closeSwath_frame true seq (s.tracked seq)
    exact ⟨q, w, hc⟩
  · next hs =>
    have hidle := h.resolve_right hs
    refine ⟨s.agent.returnQueue, s.agent.sticky ||| gapBits s.port.expected seq, ?_⟩
    rw [State.tracked, ← hidle]

theorem startSwath_cases (bs : List Byte) (s : State) :
    (NoLaneHolds s ∧ startSwath bs s = forward bs (openSwath s)) ∨ (¬NoLaneHolds s ∧ startSwath bs s = holdStream s) := by
  unfold startSwath
  by_cases h : NoLaneHolds s
  · exact .inl ⟨h, by simp [(holdingLanes_eq_nil_iff s).mpr h]⟩
  · refine .inr ⟨h, if_neg ?_⟩
    simpa [holdingLanes_eq_nil_iff] using h

/-- The stream becomes HELD; an INPUT_OVERRUN beside it is a sticky condition (R14). -/
theorem holdStream_frame (s : State) :
    ∃ w, holdStream s =
      { s with
          port := { s.port with stream := .held, buffer := holdBuffer s.port.buffer },
          policy := { s.policy with holdCauses := s.holdingLanes }, agent := { s.agent with sticky := w } } := by
  unfold holdStream
  extract_lets policy s1
  split
  · rw [State.raise_frame]
    exact ⟨_, rfl⟩
  · exact ⟨_, rfl⟩

/-! ### The held stream across the handlers -/

theorem HoldWf.forward {s : State} (h : HoldWf s) (out : List Byte) : HoldWf (forward out s) := h.withoutEligible rfl rfl rfl

theorem HoldWf.tracked {s : State} (h : HoldWf s) (seq : Byte) : HoldWf (s.tracked seq) := h.congr rfl rfl rfl

theorem PrintTaken.holdCauses {bs : List Byte} {s : State} (ht : PrintTaken bs s) (h : HoldWf s) : s.policy.holdCauses = [] :=
  h.empty (by rcases ht.stream with hs | hs <;> simp [State.streamHeldHolds, hs])

theorem holdWf_handleFire {s : State} {bs : List Byte} (ht : PrintTaken bs s) (h : HoldWf s) : HoldWf (handleFire bs s) := by
  rw [handleFire_of_running ht.running]
  split
  · obtain ⟨out, u, hk, he⟩ := filterFire_forwards bs (s.tracked (frameSequence bs))
    rw [he]
    exact ((h.tracked _).of_portKept hk).forward out
  · exact (h.consumed _).congr rfl rfl rfl

theorem holdWf_handleSpit {s : State} {bs : List Byte} (ht : PrintTaken bs s) (h : HoldWf s) : HoldWf (handleSpit bs s) := by
  obtain ⟨u, hk, he⟩ := handleSpit_forwards ht.running bs
  rw [he]
  exact ((h.tracked _).of_portKept hk).forward bs

theorem holdWf_handleSwathEnd {s : State} {bs : List Byte} (ht : PrintTaken bs s) (h : HoldWf s) :
    HoldWf (handleSwathEnd bs s) := by
  rw [handleSwathEnd_of_running ht.running]
  split
  · obtain ⟨q, w, he⟩ := closeSwath_frame false (frameSequence bs) (s.tracked (frameSequence bs))
    rw [he]
    refine HoldWf.forward ?_ bs
    exact .of_released (.inl rfl) (ht.holdCauses h) h.checked
  · exact (h.consumed _).congr rfl rfl rfl

/-- A SWATH_START at the head of the buffer is held there, with the control-class frames behind it alone (R14). -/
theorem holdWf_holdStream {s : State} {f : BufferedFrame} {rest : List BufferedFrame} (hb : s.port.buffer = f :: rest)
    (hprint : isControl f = false) (hrest : ∀ g ∈ rest, g.phase ≠ .checked) : HoldWf (holdStream s) := by
  obtain ⟨w, he⟩ := holdStream_frame s
  rw [he, hb]
  refine ⟨fun hh => absurd hh (by simp [State.streamHeldHolds]), holdingLanes_ordered s, fun _ => ?_, fun g hg => ?_⟩
  · exact ⟨_, _, rfl, rfl, hprint, fun g hg => (List.mem_filter.mp hg).2⟩
  · exact hrest g (List.mem_filter.mp hg).1

theorem holdWf_handleSwathStart {s : State} {bs : List Byte} (ht : PrintTaken bs s) (h : HoldWf s) :
    HoldWf (handleSwathStart bs s) := by
  rw [handleSwathStart_of_running ht.running]
  obtain ⟨q, w, he⟩ := beforeStart_frame ht.stream (frameSequence bs)
  obtain ⟨rest, hbuf⟩ := ht.head
  rcases startSwath_cases bs (s.beforeStart (frameSequence bs)) with ⟨-, hs⟩ | ⟨-, hs⟩ <;> rw [hs, he]
  · refine HoldWf.forward (s := openSwath _) ?_ bs
    exact .of_released (.inr rfl) rfl h.checked
  · exact holdWf_holdStream hbuf ht.print fun g hg => h.checked g (by simpa [hbuf] using hg)

theorem holdWf_handleStreamReset {s : State} (bs : List Byte) : HoldWf (handleStreamReset bs s) := by
  refine .of_released (.inl rfl) rfl fun f hf => ?_
  have hm : f ∈ (withoutEligible s.port).filter fun f => decide (f.phase ≠ .checked) := List.mem_of_mem_tail hf
  simpa using (List.mem_filter.mp hm).2

theorem portStep_print {s t : State} {bs : List Byte} (ht : PrintTaken bs s) (h : t.port.stream ≠ .resumePending) :
    PortStep s t := .free ht.stream_ne h

theorem portStep_handleFire {s : State} {bs : List Byte} (ht : PrintTaken bs s) : PortStep s (handleFire bs s) := by
  refine portStep_print ht ?_
  rw [handleFire_of_running ht.running]
  split
  · obtain ⟨out, u, hk, he⟩ := filterFire_forwards bs (s.tracked (frameSequence bs))
    rw [he, forward, pushOut_port, freePlace_port, hk.port]
    exact ht.stream_ne
  · exact ht.stream_ne

theorem portStep_handleSpit {s : State} {bs : List Byte} (ht : PrintTaken bs s) : PortStep s (handleSpit bs s) := by
  refine portStep_print ht ?_
  obtain ⟨u, hk, he⟩ := handleSpit_forwards ht.running bs
  rw [he, forward, pushOut_port, freePlace_port, hk.port]
  exact ht.stream_ne

theorem portStep_handleSwathEnd {s : State} {bs : List Byte} (ht : PrintTaken bs s) : PortStep s (handleSwathEnd bs s) := by
  refine portStep_print ht ?_
  rw [handleSwathEnd_of_running ht.running]
  split
  · exact StreamState.noConfusion
  · exact ht.stream_ne

theorem portStep_handleSwathStart {s : State} {bs : List Byte} (ht : PrintTaken bs s) :
    PortStep s (handleSwathStart bs s) := by
  refine portStep_print ht ?_
  rw [handleSwathStart_of_running ht.running]
  rcases startSwath_cases bs (s.beforeStart (frameSequence bs)) with ⟨-, hs⟩ | ⟨-, hs⟩ <;> rw [hs]
  · exact StreamState.noConfusion
  · obtain ⟨w, he⟩ := holdStream_frame (s.beforeStart (frameSequence bs))
    rw [he]
    exact StreamState.noConfusion

end Sys2Proof.Machine
end

section
/-! Every command: it completes and keeps the queue of commands (O2), and it keeps the agreement of the held stream (O58). -/

namespace Sys2Proof.Machine

/-! ### A request that is taken -/

/-- What a request's command can do: nothing; the frame's discard; its consumption with REPLY_OVERRUN, or with the request's
execution and its reply (R4 to R7, R13, R184). -/
theorem takeRequest_cases (row : FrameRow) (handle : List Byte → State → Answer) (s : State) :
    takeRequest row handle s = s ∨
      (∃ c, (c = .frameGuard ∨ c = .frameLength ∨ c = .frameCrc) ∧ takeRequest row handle s = s.discarded c) ∨
      (∃ seq, takeRequest row handle s = (s.consumed seq).withCondition .replyOverrun) ∨
      ∃ seq bs, s.running = true ∧ s.replyQueue.length < 8 ∧
        takeRequest row handle s =
          queueReply (replyFrame bs (handle (requestArgs bs) (s.consumed seq)))
            (handle (requestArgs bs) (s.consumed seq)).state := by
  rcases takeFrame_taken row (handleControl handle) s with he | ⟨bs, ht, -, ⟨c, hc, he⟩ | ⟨-, he⟩⟩
  · exact .inl he
  · exact .inr (.inl ⟨c, failedCheck_spec hc, he⟩)
  · rw [handleControl_of_running ht.running] at he
    rcases executeRequest_cases handle bs (s.consumed (frameSequence bs)) with ⟨hq, hx⟩ | ⟨-, hx⟩
    · exact .inr (.inr (.inr ⟨_, bs, ht.running, hq, he.trans hx⟩))
    · rw [raise_of_released (s := s.consumed _) (released_of_running ht.running)] at hx
      exact .inr (.inr (.inl ⟨_, he.trans hx⟩))

section Request
variable {row : FrameRow} {handle : List Byte → State → Answer} (hw : ∀ args s, WaitStep s (handle args s).state)
include hw

theorem pending_takeRequest (s : State) : (takeRequest row handle s).pending = s.pending := by
  rcases takeRequest_cases row handle s with h | ⟨c, -, h⟩ | ⟨seq, h⟩ | ⟨seq, bs, -, -, h⟩ <;> rw [h]
  · rfl
  · rfl
  · exact (hw (requestArgs bs) (s.consumed seq)).pending

theorem holdWf_takeRequest {s : State} (hs : HoldWf s) : HoldWf (takeRequest row handle s) := by
  rcases takeRequest_cases row handle s with h | ⟨c, -, h⟩ | ⟨seq, h⟩ | ⟨seq, bs, -, -, h⟩ <;> rw [h]
  · exact hs
  · exact hs.discarded c
  · exact (hs.consumed seq).congr rfl rfl rfl
  · exact ((hw (requestArgs bs) _).holdWf (hs.consumed seq)).congr rfl rfl rfl

theorem waitWf_takeRequest {s : State} (hs : WaitWf s) : WaitWf (takeRequest row handle s) := by
  rcases takeRequest_cases row handle s with h | ⟨c, -, h⟩ | ⟨seq, h⟩ | ⟨seq, bs, hr, -, h⟩ <;> rw [h]
  · exact hs
  · exact (portStep_discarded c s).waitWf hs
  · exact (portStep_consumed seq s).waitWf hs
  · have hstop : (s.consumed seq).running = false → ∀ l, ¬Waits (s.consumed seq) l := fun hn => by
      have hr' : (s.consumed seq).running = true := hr
      simp [hr'] at hn
    exact (hw (requestArgs bs) _).waitWf hstop ((portStep_consumed seq s).waitWf hs)

theorem resumed_takeRequest {s : State} (hs : s.port.stream = .resumePending)
    (ht : (takeRequest row handle s).port.stream ≠ .resumePending) : Resumed (takeRequest row handle s) := by
  rcases takeRequest_cases row handle s with h | ⟨c, -, h⟩ | ⟨seq, h⟩ | ⟨seq, bs, -, -, h⟩ <;> rw [h] at ht ⊢
  · exact absurd hs ht
  · exact absurd hs ht
  · exact absurd hs ht
  · exact (hw (requestArgs bs) (s.consumed seq)).resumed_of_exit hs ht

end Request

/-! ### The commands of the Swath Port and of power and reset -/

/-- The effect of a command that takes a print-class frame or a STREAM_RESET, moves a frame on a link, or is a loss or return of
power or the assertion of RESET_N. -/
def portOf : Instr → Option (State → State)
  | .powerOn decayed => some (applyPower decayed)
  | .lossOfPower => some losePower
  | .pinResetAsserted => some assertReset
  | .frameArrivalBegins kind => some (beginArrival kind)
  | .frameArrivalEnds rest => some (endArrival rest)
  | .unknownKindFrame => some (takeFrame .unknownKind fun _ t => (freePlace t).raise .frameGuard)
  | .fire => some (takeFrame .fire handleFire)
  | .spit => some (takeFrame .spit handleSpit)
  | .swathStart => some (takeFrame .swathStart handleSwathStart)
  | .swathEnd => some (takeFrame .swathEnd handleSwathEnd)
  | .streamReset => some (takeFrame .streamReset handleStreamReset)
  | .heldSwathStartForwarded => some forwardHeld
  | .headTransferBegins ready => some (beginTransfer ready)
  | .headTransferCompletes => some completeTransfer
  | .returnTransmissionBegins => some beginTransmission
  | .returnTransmissionCompletes => some completeTransmission
  | _ => none

theorem exec_of_portOf {c : Instr} {f : State → State} (h : portOf c = some f) (s : State) : exec c s = .next (f s) := by
  cases c <;> cases h <;> rfl

/-- Every command is a request, an event or one of the Swath Port. -/
theorem command_cases (c : Instr) :
    (∃ row handle, requestOf c = some (row, handle)) ∨ (∃ f, eventOf c = some f) ∨ ∃ f, portOf c = some f := by
  cases hr : requestOf c with
  | some p => exact .inl ⟨p.1, p.2, rfl⟩
  | none =>
    cases he : eventOf c with
    | some f => exact .inr (.inl ⟨f, rfl⟩)
    | none =>
      refine .inr (.inr ?_)
      cases c <;> cases hr <;> cases he <;> exact ⟨_, rfl⟩

/-- The taken frame of an unknown kind is discarded with FRAME_GUARD whatever the row handles (R4). -/
theorem discardUnknown_eq {bs : List Byte} {s : State} (ht : TakenNext bs s) :
    (freePlace s).raise .frameGuard = s.discarded .frameGuard :=
  raise_of_released (s := freePlace s) (released_of_running ht.running) _

/-- A frame of a print-class row is taken from the head of the buffer (R3). -/
theorem TakenNext.printTaken_of_row {bs : List Byte} {s : State} {row : FrameRow} (ht : TakenNext bs s) (hrow : frameRow bs = row)
    (hp : row.isPrint = true) : PrintTaken bs s := ht.printTaken (controlClass_of_printRow (hrow ▸ hp))

theorem pending_handlePrint {bs : List Byte} {s : State} (ht : PrintTaken bs s) :
    (handleFire bs s).pending = s.pending ∧ (handleSpit bs s).pending = s.pending ∧
      (handleSwathStart bs s).pending = s.pending ∧ (handleSwathEnd bs s).pending = s.pending := by
  refine ⟨?_, ?_, ?_, ?_⟩
  · rw [handleFire_of_running ht.running]
    split
    · obtain ⟨out, u, hk, he⟩ := filterFire_forwards bs (s.tracked (frameSequence bs))
      rw [he]
      exact hk.pending
    · rfl
  · obtain ⟨u, hk, he⟩ := handleSpit_forwards ht.running bs
    rw [he]
    exact hk.pending
  · rw [handleSwathStart_of_running ht.running]
    obtain ⟨q, w, he⟩ := beforeStart_frame ht.stream (frameSequence bs)
    rcases startSwath_cases bs (s.beforeStart (frameSequence bs)) with ⟨-, hs⟩ | ⟨-, hs⟩ <;> rw [hs, he]
    · rfl
    · obtain ⟨w', he'⟩ := holdStream_frame
        { s with
          port := { s.port with stream := .idle, expected := some (frameSequence bs + 1) },
          agent := { s.agent with returnQueue := q, sticky := w } }
      rw [he']
  · rw [handleSwathEnd_of_running ht.running]
    split
    · obtain ⟨q, w, he⟩ := closeSwath_frame false (frameSequence bs) (s.tracked (frameSequence bs))
      rw [he]
      rfl
    · rfl

theorem pending_of_portOf {c : Instr} {f : State → State} (h : portOf c = some f) (s : State) :
    (f s).pending = s.pending := by
  have hprint : ∀ (row : FrameRow) (handle : List Byte → State → State), row.isPrint = true →
      (∀ bs, PrintTaken bs s → (handle bs s).pending = s.pending) → (takeFrame row handle s).pending = s.pending :=
    fun row handle hp hh =>
      takeFrame_gives (P := fun t => t.pending = s.pending) rfl (fun _ => rfl) fun bs ht hrow _ => hh bs (ht.printTaken_of_row hrow hp)
  cases c <;> cases h
  case powerOn decayed => unfold applyPower; split <;> rfl
  case lossOfPower => unfold losePower; split <;> rfl
  case pinResetAsserted => unfold assertReset; split <;> rfl
  case frameArrivalBegins kind => rcases beginArrival_cases kind s with he | he | ⟨-, -, he⟩ <;> simp [he]
  case frameArrivalEnds rest => rw [endArrival_eq]; split <;> rfl
  case unknownKindFrame => exact hprint _ _ rfl fun bs _ => by simp
  case fire => exact hprint _ _ rfl fun bs ht => (pending_handlePrint ht).1
  case spit => exact hprint _ _ rfl fun bs ht => (pending_handlePrint ht).2.1
  case swathStart => exact hprint _ _ rfl fun bs ht => (pending_handlePrint ht).2.2.1
  case swathEnd => exact hprint _ _ rfl fun bs ht => (pending_handlePrint ht).2.2.2
  case streamReset => exact takeFrame_gives (P := fun t => t.pending = s.pending) rfl (fun _ => rfl) fun _ _ _ _ => rfl
  case heldSwathStartForwarded => rcases forwardHeld_cases s with he | ⟨_, _, _, _, _, _, _, he⟩ <;> rw [he]
  case headTransferBegins ready => obtain ⟨_, _, he⟩ := beginTransfer_frame ready s; rw [he]
  case headTransferCompletes => obtain ⟨_, he⟩ := completeTransfer_frame s; rw [he]
  case returnTransmissionBegins => obtain ⟨_, _, he⟩ := beginTransmission_frame s; rw [he]
  case returnTransmissionCompletes => obtain ⟨_, he⟩ := completeTransmission_frame s; rw [he]

/-- Power and reset leave an empty Swath Port in IDLE with no hold cause (R21, R172). -/
theorem holdWf_of_portOf {c : Instr} {f : State → State} (h : portOf c = some f) {s : State} (hs : HoldWf s) :
    HoldWf (f s) := by
  have hprint : ∀ (row : FrameRow) (handle : List Byte → State → State), row.isPrint = true →
      (∀ bs, PrintTaken bs s → HoldWf (handle bs s)) → HoldWf (takeFrame row handle s) := fun row handle hp hh =>
    takeFrame_gives (P := HoldWf) hs hs.discarded fun bs ht hrow _ => hh bs (ht.printTaken_of_row hrow hp)
  have hempty : ∀ t : State, t.port.stream = .idle → t.port.buffer = [] → t.policy.holdCauses = [] → HoldWf t :=
    fun t hst hb hc => .of_released (.inl hst) hc (by simp [hb])
  cases c <;> cases h
  case powerOn decayed => unfold applyPower; split; exacts [hs, hempty _ rfl rfl rfl]
  case lossOfPower => unfold losePower; split; exacts [hempty _ rfl rfl rfl, hs]
  case pinResetAsserted => unfold assertReset; split; exacts [hempty _ rfl rfl rfl, hs]
  case frameArrivalBegins kind => exact holdWf_beginArrival hs kind
  case frameArrivalEnds rest => exact holdWf_endArrival hs rest
  case unknownKindFrame =>
    exact takeFrame_gives (P := HoldWf) hs hs.discarded fun bs ht _ _ => by
      rw [discardUnknown_eq ht]; exact hs.discarded _
  case fire => exact hprint _ _ rfl fun bs ht => holdWf_handleFire ht hs
  case spit => exact hprint _ _ rfl fun bs ht => holdWf_handleSpit ht hs
  case swathStart => exact hprint _ _ rfl fun bs ht => holdWf_handleSwathStart ht hs
  case swathEnd => exact hprint _ _ rfl fun bs ht => holdWf_handleSwathEnd ht hs
  case streamReset => exact takeFrame_gives (P := HoldWf) hs hs.discarded fun bs _ _ _ => holdWf_handleStreamReset bs
  case heldSwathStartForwarded => exact holdWf_forwardHeld hs
  case headTransferBegins ready => obtain ⟨_, _, he⟩ := beginTransfer_frame ready s; rw [he]; exact hs.congr rfl rfl rfl
  case headTransferCompletes => obtain ⟨_, he⟩ := completeTransfer_frame s; rw [he]; exact hs.congr rfl rfl rfl
  case returnTransmissionBegins => obtain ⟨_, _, he⟩ := beginTransmission_frame s; rw [he]; exact hs.congr rfl rfl rfl
  case returnTransmissionCompletes => obtain ⟨_, he⟩ := completeTransmission_frame s; rw [he]; exact hs.congr rfl rfl rfl

/-- A command that restarts the stream: a stream reset, the assertion of RESET_N, a loss or a return of power. -/
def restartsStream : Instr → Bool
  | .powerOn _ | .lossOfPower | .pinResetAsserted | .streamReset => true
  | _ => false

/-- Restarting leaves a stream that is not RESUME_PENDING, or everything as it is. -/
theorem stream_of_restartsStream {c : Instr} (hc : restartsStream c = true) {f : State → State} (h : portOf c = some f) (s : State) :
    PortStep s (f s) ∨ (f s).port.stream ≠ .resumePending := by
  cases c <;> cases hc <;> cases h
  case powerOn decayed => unfold applyPower; split; exacts [.inl (.refl s), .inr StreamState.noConfusion]
  case lossOfPower => unfold losePower; split; exacts [.inr StreamState.noConfusion, .inl (.refl s)]
  case pinResetAsserted => unfold assertReset; split; exacts [.inr StreamState.noConfusion, .inl (.refl s)]
  case streamReset =>
    exact takeFrame_gives (P := fun t => PortStep s t ∨ t.port.stream ≠ .resumePending) (.inl (.refl s))
      (fun c => .inl (portStep_discarded c s)) fun _ _ _ _ => .inr StreamState.noConfusion

theorem portStep_of_portOf {c : Instr} (hc : restartsStream c = false) {f : State → State} (h : portOf c = some f) (s : State) :
    PortStep s (f s) := by
  have hprint : ∀ (row : FrameRow) (handle : List Byte → State → State), row.isPrint = true →
      (∀ bs, PrintTaken bs s → PortStep s (handle bs s)) → PortStep s (takeFrame row handle s) := fun row handle hp hh =>
    takeFrame_gives (P := PortStep s) (.refl s) (portStep_discarded · s) fun bs ht hrow _ => hh bs (ht.printTaken_of_row hrow hp)
  cases c <;> cases hc <;> cases h
  case frameArrivalBegins kind => exact portStep_beginArrival kind s
  case frameArrivalEnds rest => exact portStep_endArrival rest s
  case unknownKindFrame =>
    exact takeFrame_gives (P := PortStep s) (.refl s) (portStep_discarded · s) fun bs ht _ _ => by
      rw [discardUnknown_eq ht]; exact portStep_discarded _ s
  case fire => exact hprint _ _ rfl fun bs ht => portStep_handleFire ht
  case spit => exact hprint _ _ rfl fun bs ht => portStep_handleSpit ht
  case swathStart => exact hprint _ _ rfl fun bs ht => portStep_handleSwathStart ht
  case swathEnd => exact hprint _ _ rfl fun bs ht => portStep_handleSwathEnd ht
  case heldSwathStartForwarded => exact portStep_forwardHeld s
  case headTransferBegins ready =>
    obtain ⟨_, _, he⟩ := beginTransfer_frame ready s; rw [he]; exact .of_blocks rfl rfl rfl rfl rfl
  case headTransferCompletes =>
    obtain ⟨_, he⟩ := completeTransfer_frame s; rw [he]; exact .of_blocks rfl rfl rfl rfl rfl
  case returnTransmissionBegins =>
    obtain ⟨_, _, he⟩ := beginTransmission_frame s; rw [he]; exact .of_blocks rfl rfl rfl rfl rfl
  case returnTransmissionCompletes =>
    obtain ⟨_, he⟩ := completeTransmission_frame s; rw [he]; exact .of_blocks rfl rfl rfl rfl rfl

/-! ### Every command -/

theorem exec_completes (c : Instr) (s : State) : ∃ t, exec c s = .next t ∧ t.pending = s.pending := by
  rcases command_cases c with ⟨row, handle, h⟩ | ⟨f, h⟩ | ⟨f, h⟩
  · exact ⟨_, exec_of_requestOf h s, pending_takeRequest (waitStep_of_requestOf h) s⟩
  · exact ⟨_, exec_of_eventOf h s, (waitStep_of_eventOf h s).pending⟩
  · exact ⟨_, exec_of_portOf h s, pending_of_portOf h s⟩

theorem holdWf_exec {c : Instr} {s t : State} (he : exec c s = .next t) (hs : HoldWf s) : HoldWf t := by
  rcases command_cases c with ⟨row, handle, h⟩ | ⟨f, h⟩ | ⟨f, h⟩
  · cases (exec_of_requestOf h s).symm.trans he
    exact holdWf_takeRequest (waitStep_of_requestOf h) hs
  · cases (exec_of_eventOf h s).symm.trans he
    exact (waitStep_of_eventOf h s).holdWf hs
  · cases (exec_of_portOf h s).symm.trans he
    exact holdWf_of_portOf h hs

theorem waitWf_exec {c : Instr} {s t : State} (he : exec c s = .next t) (hslots : SlotsWf s) (hs : WaitWf s) : WaitWf t := by
  rcases command_cases c with ⟨row, handle, h⟩ | ⟨f, h⟩ | ⟨f, h⟩
  · cases (exec_of_requestOf h s).symm.trans he
    exact waitWf_takeRequest (waitStep_of_requestOf h) hs
  · cases (exec_of_eventOf h s).symm.trans he
    exact (waitStep_of_eventOf h s).waitWf hslots.not_waits hs
  · cases (exec_of_portOf h s).symm.trans he
    cases hc : restartsStream c
    · exact (portStep_of_portOf hc h s).waitWf hs
    · rcases stream_of_restartsStream hc h s with hp | hn
      · exact hp.waitWf hs
      · exact fun ht => absurd ht hn

/-- Whatever takes the stream out of RESUME_PENDING without restarting it resumes it (R168, R169). -/
theorem resumed_exec {c : Instr} {s t : State} (he : exec c s = .next t) (hc : restartsStream c = false)
    (hs : s.port.stream = .resumePending) (ht : t.port.stream ≠ .resumePending) : Resumed t := by
  rcases command_cases c with ⟨row, handle, h⟩ | ⟨f, h⟩ | ⟨f, h⟩
  · cases (exec_of_requestOf h s).symm.trans he
    exact resumed_takeRequest (waitStep_of_requestOf h) hs ht
  · cases (exec_of_eventOf h s).symm.trans he
    exact (waitStep_of_eventOf h s).resumed_of_exit hs ht
  · cases (exec_of_portOf h s).symm.trans he
    exact absurd ((portStep_of_portOf hc h s).stays hs) ht

/-- Settles O2: each command is a request, an event or the Swath Port's, and each kind keeps the queue of commands. -/
theorem everyCommandCompletes : Obligations.EveryCommandCompletes := exec_completes

/-- Settles O58: the step runs one command, and a request or an event acts on the held stream at most through the wait test. -/
theorem holdKept : Obligations.HoldKept := by
  intro s t h
  cases hq : s.pending with
  | nil =>
    cases (step_nil hq).symm.trans h
    exact ⟨id, fun _ => id⟩
  | cons c rest =>
    rw [step_cons hq] at h
    exact ⟨fun hs => holdWf_exec h (hs.congr rfl rfl rfl), fun hslots hs =>
      waitWf_exec h ⟨hslots.control, hslots.binding, hslots.stopped, hslots.unbound, hslots.checkpoints⟩ hs⟩

end Sys2Proof.Machine
end

section
/-! The checks of a frame as R4 to R6 state them, and the frames of the statements: which pass, and what taking them comes to. -/

namespace Sys2Proof.Machine

/-! ### The three checks -/

theorem frameKind_isSome_iff (k : Byte) :
    (frameKind k).isSome = true ↔ k ∈ ([0x21, 0x22, 0x31, 0x32, 0xA5, 0xC3] : List Byte) := by
  unfold frameKind
  split_ifs <;> simp_all

theorem guardPasses_iff (bs : List Byte) : guardPasses bs = true ↔ ¬GuardFails bs := by
  have hbit : ∀ a b : Bool, (a == !b) = true ↔ ¬a = b := by decide
  simp only [guardPasses, GuardFails, Bool.and_eq_true, decide_eq_true_eq, frameKind_isSome_iff, hbit, not_or, not_lt, not_not,
    and_assoc]

/-- For a frame of one of the six kinds the length check is that of R5. -/
theorem lengthPasses_iff {s : State} {bs : List Byte} (h : ¬GuardFails bs) : lengthPasses s bs = true ↔ ¬LengthFails s bs := by
  have hk : kindCode bs ∈ ([0x21, 0x22, 0x31, 0x32, 0xA5, 0xC3] : List Byte) := by
    by_contra hn
    exact h (.inr (.inl hn))
  unfold lengthPasses shapeAgrees LengthFails
  simp only [List.mem_cons, List.not_mem_nil, or_false] at hk
  rcases hk with hk | hk | hk | hk | hk | hk <;> simp [hk, frameKind] <;> tauto

theorem crcPasses_iff (bs : List Byte) : crcPasses bs = true ↔ ¬CrcFails bs := by
  simp [crcPasses, CrcFails]

theorem failedCheck_guard {s : State} {bs : List Byte} (h : GuardFails bs) : failedCheck s bs = some .frameGuard := by
  have hg : guardPasses bs = false := by rw [← Bool.not_eq_true, guardPasses_iff]; exact not_not_intro h
  simp [failedCheck, hg]

theorem failedCheck_length {s : State} {bs : List Byte} (hg : ¬GuardFails bs) (h : LengthFails s bs) :
    failedCheck s bs = some .frameLength := by
  have hl : lengthPasses s bs = false := by rw [← Bool.not_eq_true, lengthPasses_iff hg]; exact not_not_intro h
  simp [failedCheck, (guardPasses_iff bs).mpr hg, hl]

theorem failedCheck_crc {s : State} {bs : List Byte} (hg : ¬GuardFails bs) (hl : ¬LengthFails s bs) (h : CrcFails bs) :
    failedCheck s bs = some .frameCrc := by
  have hc : crcPasses bs = false := by rw [← Bool.not_eq_true, crcPasses_iff]; exact not_not_intro h
  simp [failedCheck, (guardPasses_iff bs).mpr hg, (lengthPasses_iff hg).mpr hl, hc]

/-- The command of a known request code takes the frames of its row (R185). -/
theorem requestOf_requestCommand (code : Byte) (h : knownRequest code = true) :
    ∃ handle, requestOf (requestCommand code) = some (.request code, handle) := by
  have hrow : ∀ code : Byte, knownRequest code = true →
      (requestOf (requestCommand code)).map Prod.fst = some (.request code) := by decide +kernel
  obtain ⟨⟨row, handle⟩, hr, rfl⟩ := Option.map_eq_some_iff.mp (hrow code h)
  exact ⟨handle, hr⟩

theorem knownRequest_of_frameRow {bs : List Byte} {code : Byte} (h : frameRow bs = .request code) : knownRequest code = true := by
  unfold frameRow at h
  split at h
  case h_7 =>
    split at h
    · next hk => cases h; exact hk.2
    · cases h
  all_goals cases h

/-- The command of a frame takes the frames of its row. -/
theorem exec_frameCommand (bs : List Byte) (s : State) :
    ∃ handle, exec (frameCommand bs) s = .next (takeFrame (frameRow bs) handle s) := by
  unfold frameCommand
  cases hrow : frameRow bs with
  | unknownKind => exact ⟨_, rfl⟩
  | fire => exact ⟨_, rfl⟩
  | spit => exact ⟨_, rfl⟩
  | swathStart => exact ⟨_, rfl⟩
  | swathEnd => exact ⟨_, rfl⟩
  | streamReset => exact ⟨_, rfl⟩
  | unknownRequest => exact ⟨_, rfl⟩
  | request code =>
    obtain ⟨handle, hr⟩ := requestOf_requestCommand code (knownRequest_of_frameRow hrow)
    exact ⟨_, exec_of_requestOf hr s⟩

theorem exec_frameCommand_discards {bs : List Byte} {s : State} {c : Condition} (h : TakenNext bs s)
    (hc : failedCheck s bs = some c) : exec (frameCommand bs) s = .next (s.discarded c) := by
  obtain ⟨handle, he⟩ := exec_frameCommand bs s
  rw [he, takeFrame_discards h hc]

/-- Settles O11: `failedCheck` answers the first of the three checks that fails, and the row's command discards with it. -/
theorem failedChecksDiscardTheFrame : Obligations.FailedChecksDiscardTheFrame := by
  intro bs s h
  refine ⟨fun hg => exec_frameCommand_discards h (failedCheck_guard hg),
    fun hg hl => exec_frameCommand_discards h (failedCheck_length hg hl),
    fun hg hl hc => exec_frameCommand_discards h (failedCheck_crc hg hl hc), fun hk => ?_⟩
  have hn : kindCode bs ∉ ([0x21, 0x22, 0x31, 0x32, 0xA5, 0xC3] : List Byte) := fun hm => hk _ hm rfl
  have hnone : frameKind (kindCode bs) = none := by
    rwa [← frameKind_isSome_iff, Bool.not_eq_true, Option.isSome_eq_false_iff, Option.isNone_iff_eq_none] at hn
  have hcommand : frameCommand bs = .unknownKindFrame := by simp [frameCommand, frameRow, hnone]
  rw [← hcommand]
  exact exec_frameCommand_discards h (failedCheck_guard (.inr (.inl hn)))

/-! ### Frames that pass -/

/-- A frame as the formatter builds it passes guard and CRC, so all its checks where its length suits its kind. -/
theorem failedCheck_linkFrame {kind shape seq count : Byte} {payload : List Byte} {s : State}
    (hk : (frameKind kind).isSome = true) (hg : shape.msb = !kind.msb) (hl : payload.length < 65536)
    (hs : shapeAgrees s (linkFrame kind shape seq count payload) = true) :
    failedCheck s (linkFrame kind shape seq count payload) = none := by
  have hguard : guardPasses (linkFrame kind shape seq count payload) = true := by
    simp [guardPasses, linkFrame_length, linkFrame_kind, linkFrame_shape, hk, hg]
  have hlength : lengthPasses s (linkFrame kind shape seq count payload) = true := by
    simp [lengthPasses, linkFrame_length, linkFrame_header _ _ _ _ _ hl, hs]
  simp [failedCheck, hguard, hlength, linkFrame_crc]

/-- A good frame without a payload: SWATH_START, SWATH_END or STREAM_RESET. -/
theorem failedCheck_bare {kind shape seq count : Byte} {s : State} (hk : kind = 0x31 ∨ kind = 0x32 ∨ kind = 0xC3)
    (hg : shape.msb = !kind.msb) : failedCheck s (linkFrame kind shape seq count []) = none := by
  have hh := linkFrame_header kind shape seq count [] (by simp)
  refine failedCheck_linkFrame ?_ hg (by simp) ?_
  · rcases hk with rfl | rfl | rfl <;> rfl
  · unfold shapeAgrees
    rw [linkFrame_kind, hh]
    rcases hk with rfl | rfl | rfl <;> rfl

theorem failedCheck_fire {shape seq count : Byte} {payload : List Byte} {s : State} (hg : shape.msb = true)
    (hl : payload.length < 65536) (h1 : 1 ≤ count.toNat) (h64 : count.toNat ≤ 64)
    (hp : payload.length = count.toNat * (s.laneEntry (laneOfShape shape)).nozzles / 4) :
    failedCheck s (linkFrame 0x21 shape seq count payload) = none := by
  refine failedCheck_linkFrame rfl (by rw [hg]; rfl) hl ?_
  unfold shapeAgrees
  rw [linkFrame_kind, linkFrame_header _ _ _ _ _ hl, linkFrame_count, linkFrame_lane]
  simp [frameKind, h1, h64, hp]

theorem linkFrame_spitSize (kind shape seq count : Byte) (payload : List Byte) :
    spitSize (linkFrame kind shape seq count payload) = shape.toNat / 16 % 8 := rfl

theorem failedCheck_spit {shape seq count : Byte} {s : State} (hg : shape.msb = true) (h1 : 1 ≤ shape.toNat / 16 % 8)
    (h3 : shape.toNat / 16 % 8 ≤ 3) (hc : 1 ≤ count.toNat) : failedCheck s (linkFrame 0x22 shape seq count []) = none := by
  have hh := linkFrame_header 0x22 shape seq count [] (by simp)
  refine failedCheck_linkFrame rfl (by rw [hg]; rfl) (by simp) ?_
  unfold shapeAgrees
  rw [linkFrame_kind, hh, linkFrame_count, linkFrame_spitSize]
  simp [frameKind, h1, h3, hc]

theorem failedCheck_control {code tag shape seq count : Byte} {args : List Byte} {s : State} (hg : shape.msb = false)
    (ha : args.length ≤ 64) : failedCheck s (linkFrame 0xA5 shape seq count (code :: tag :: args)) = none := by
  have hl : (code :: tag :: args).length < 65536 := by simp; omega
  refine failedCheck_linkFrame rfl (by rw [hg]; rfl) hl ?_
  unfold shapeAgrees
  rw [linkFrame_kind, linkFrame_header _ _ _ _ _ hl]
  simp [frameKind]
  omega

/-- A good request is executed on the state that its frame's consumption leaves, and answered (R13, R184). -/
theorem exec_request {c : Instr} {code tag shape seq count : Byte} {args : List Byte} {handle : List Byte → State → Answer}
    {s : State} (hc : requestOf c = some (.request code, handle)) (hk : knownRequest code = true)
    (h : RequestNext code tag args shape seq count s) :
    exec c s = .next ((handle args (s.consumed seq)).state.replied tag code (handle args (s.consumed seq)).result
      (handle args (s.consumed seq)).data) := by
  have hrow : frameRow (linkFrame 0xA5 shape seq count (code :: tag :: args)) = .request code := by
    have hlen : 9 ≤ (linkFrame 0xA5 shape seq count (code :: tag :: args)).length := by
      rw [linkFrame_length]; simp
    have hcode : byteAt (linkFrame 0xA5 shape seq count (code :: tag :: args)) 6 = code := rfl
    have hkind : frameKind 0xA5 = some .control := rfl
    unfold frameRow
    rw [linkFrame_kind, hkind, hcode]
    exact if_pos ⟨hlen, hk⟩
  have hargs : requestArgs (linkFrame 0xA5 shape seq count (code :: tag :: args)) = args := by
    rw [requestArgs, linkFrame_payload]; rfl
  rw [exec_of_requestOf hc, takeRequest, takeFrame_handles h.taken hrow (failedCheck_control h.guard h.arguments),
    handleControl_of_running h.taken.running, linkFrame_sequence]
  rcases executeRequest_cases handle (linkFrame 0xA5 shape seq count (code :: tag :: args)) (s.consumed seq) with
    ⟨-, he⟩ | ⟨hfull, -⟩
  · rw [he, hargs]
    rfl
  · exact absurd h.replies (Nat.not_lt.mpr hfull)

end Sys2Proof.Machine
end

section
/-! Swaths as they open, are held, close and resume: the next states of the statements (O15 to O18, O36). -/

namespace Sys2Proof.Machine

theorem PrintNext.printTaken {kind shape seq count : Byte} {payload : List Byte} {s : State}
    (h : PrintNext kind shape seq count payload s) (hk : controlClass kind = false) :
    PrintTaken (linkFrame kind shape seq count payload) s := h.taken.printTaken hk

/-! ### The opening of a swath -/

theorem swathOpens_eq_atOpening (m : Monitor) : m.swathOpens = m.atOpening := by
  unfold Monitor.swathOpens Monitor.atOpening Monitor.pacedTrigger Monitor.busy
  cases hm : m.mode <;> cases hc : m.conversion <;> simp [Monitor.skip, Monitor.dueInput, satAdd32, satAdd, Config.max32, hm, hc]

theorem openSwath_eq_opening (s : State) : openSwath s = s.opening := by
  have h : openSwath s = { s.opening with monitor := s.monitor.swathOpens } := rfl
  rw [h, swathOpens_eq_atOpening]
  rfl

/-- A print-class frame leaves the head of the buffer as well after the opening of its swath as before it. -/
theorem forward_opening {s : State} (h : s.port.stream = .idle ∨ s.port.stream = .opened) (bs : List Byte) :
    forward bs s.opening = (forward bs s).opening := by
  have hb : withoutEligible s.opening.port = withoutEligible s.port := by rw [withoutEligible_of_stream h]; rfl
  unfold forward freePlace
  rw [hb]
  rfl

theorem forward_tracked (bs : List Byte) (seq : Byte) (s : State) : forward bs (s.tracked seq) = s.forwardedAs bs seq := rfl

/-- A SWATH_START on which no lane holds is forwarded and opens its swath (R8). -/
theorem startSwath_opens {s : State} (h : NoLaneHolds s) (hs : s.port.stream = .idle ∨ s.port.stream = .opened)
    (bs : List Byte) : startSwath bs s = (forward bs s).opening := by
  rcases startSwath_cases bs s with ⟨-, he⟩ | ⟨hn, -⟩
  · rw [he, openSwath_eq_opening, forward_opening hs]
  · exact absurd h hn

/-- A SWATH_START on which a lane holds is held (R8). -/
theorem startSwath_holds {s : State} (h : ¬NoLaneHolds s) (bs : List Byte) : startSwath bs s = holdStream s := by
  rcases startSwath_cases bs s with ⟨hn, -⟩ | ⟨-, he⟩
  · exact absurd hn h
  · exact he

/-- Taking a good SWATH_START comes to the hold check. -/
theorem exec_swathStart {shape seq count : Byte} {s : State} (h : PrintNext 0x31 shape seq count [] s) :
    exec .swathStart s = .next (startSwath (linkFrame 0x31 shape seq count []) (s.beforeStart seq)) := by
  have hrow : frameRow (linkFrame 0x31 shape seq count []) = .swathStart := rfl
  have hc : failedCheck s (linkFrame 0x31 shape seq count []) = none := failedCheck_bare (.inl rfl) (by rw [h.guard]; rfl)
  have he : exec .swathStart s = .next (takeFrame .swathStart handleSwathStart s) := rfl
  rw [he, takeFrame_handles h.taken hrow hc, handleSwathStart_of_running h.taken.running, linkFrame_sequence]

/-- Settles O15: no swath is open, so the hold check comes at once, and it finds no lane that holds. -/
theorem swathStartOpens : Obligations.SwathStartOpens := by
  intro shape seq count s h hidle hn
  have hb : s.beforeStart seq = s.tracked seq := if_neg (by simp [hidle])
  have hn' : NoLaneHolds (s.tracked seq) := hn
  rw [exec_swathStart h, hb, startSwath_opens hn' (.inl hidle), forward_tracked]

/-! ### The held stream -/

/-- The stream held with the frame at the head of the buffer, as the statements write it (R14). -/
theorem holdStream_of_head {s : State} {bs : List Byte} (h : PrintTaken bs s) (hr : s.resetAsserted = false) :
    holdStream s =
      { s with
          port := { s.port with
            stream := .held, buffer := { bytes := bs, phase := .checked } :: s.port.buffer.tail.filter isControl },
          policy := { s.policy with holdCauses := s.holdCausesNow },
          agent := { s.agent with
            sticky := s.agent.sticky |||
              (if s.port.buffer.tail.any (fun f => !isControl f) then Condition.mask .inputOverrun else 0) } } := by
  obtain ⟨rest, hbuf⟩ := h.head
  have hbuffer : holdBuffer s.port.buffer = { bytes := bs, phase := .checked } :: s.port.buffer.tail.filter isControl := by
    rw [hbuf]; rfl
  unfold holdStream
  rw [hbuffer, holdingLanes_eq]
  dsimp only
  by_cases hp : hasPrintBehind s.port.buffer = true
  · have hp' : s.port.buffer.tail.any (fun f => !isControl f) = true := hp
    rw [if_pos hp, if_pos hp', raise_of_released (by exact hr)]
    rfl
  · have hp' : ¬s.port.buffer.tail.any (fun f => !isControl f) = true := hp
    rw [if_neg hp, if_neg hp']
    simp

/-- While the stream is held, STREAM_HELD is set and RDY is released (R2, R167). -/
theorem streamHeld_of_held {t : State} (h : t.port.stream = .held) : t.holds .streamHeld = true ∧ t.rdy = false := by
  have hh : t.streamHeldHolds = true := by simp [State.streamHeldHolds, h]
  refine ⟨?_, by simp [State.rdy, hh]⟩
  have hbit : (Condition.mask .streamHeld).getLsbD Condition.streamHeld.bit = true := by decide
  simp [State.holds, State.conditionVector, conditionIf, hh, hbit]

/-- Settles O16: the hold check finds a lane that holds, and the frame stays at the head of the buffer. -/
theorem swathStartHeld : Obligations.SwathStartHeld := by
  intro shape seq count s h hidle hn
  have hb : s.beforeStart seq = s.tracked seq := if_neg (by simp [hidle])
  have ht := h.printTaken rfl
  have ht' : PrintTaken (linkFrame 0x31 shape seq count []) (s.tracked seq) := ⟨ht.running, ht.stream, ht.head, ht.room, ht.print⟩
  have hn' : ¬NoLaneHolds (s.tracked seq) := hn
  rw [exec_swathStart h, hb, startSwath_holds hn', holdStream_of_head ht' (released_of_running ht.running)]
  exact ⟨_, rfl, (streamHeld_of_held rfl).1, (streamHeld_of_held rfl).2, rfl⟩

/-! ### The close of a swath -/

theorem remaining_eq_inkLeft (r : BindingRecord) : r.remaining = inkLeft r := by
  unfold BindingRecord.remaining BindingRecord.level BindingRecord.uEst BindingRecord.capacity inkLeft
  cases r.uBind <;> cases r.identity <;> simp [satAdd32, satAdd, Config.max32]

/-- A report joins the report queue of a part that is not in reset as the statements write it (R187). -/
theorem queueReport_of_released {s : State} (h : s.resetAsserted = false) (f : ReturnFrame) :
    queueReport f s = s.withReport f := by
  rcases queueReport_cases f s with ⟨hq, he⟩ | ⟨hq, he⟩ <;> rw [he]
  · simp [State.withReport, hq]
  · rw [raise_of_released (by exact h), dropOldestReport_eq]
    simp [State.withReport, State.withCondition, Nat.not_lt.mpr hq]

/-- A swath is closed with its report, formed while the stream is still OPEN (R59, R187). -/
theorem closeSwath_of_released {s : State} (h : s.resetAsserted = false) (unterminated : Bool) (closing : Byte) :
    closeSwath unterminated closing s =
      { s.withReport (s.reportNow unterminated closing) with port := { s.port with stream := .idle } } := by
  have hf : ReturnFrame.report unterminated closing (allSlots.map fun n => slotReport (s.slot n)) s.summaryWord =
      s.reportNow unterminated closing := by
    simp only [State.reportNow, slotReport, remaining_eq_inkLeft]
  unfold closeSwath
  dsimp only
  rw [hf, queueReport_of_released h]
  rfl

/-- The report of a frame's swath is the same whether the frame has left its place or not. -/
theorem reportNow_tracked (unterminated : Bool) (seq : Byte) (s : State) :
    (s.tracked seq).reportNow unterminated seq = (s.consumed seq).reportNow unterminated seq := rfl

theorem exec_swathEnd {shape seq count : Byte} {s : State} (h : PrintNext 0x32 shape seq count [] s) :
    exec .swathEnd s = .next (handleSwathEnd (linkFrame 0x32 shape seq count []) s) := by
  have hrow : frameRow (linkFrame 0x32 shape seq count []) = .swathEnd := rfl
  have hc : failedCheck s (linkFrame 0x32 shape seq count []) = none :=
    failedCheck_bare (.inr (.inl rfl)) (by rw [h.guard]; rfl)
  have he : exec .swathEnd s = .next (takeFrame .swathEnd handleSwathEnd s) := rfl
  rw [he, takeFrame_handles h.taken hrow hc]

/-- The close of an open swath ahead of its successor (R9). -/
theorem beforeStart_of_opened {s : State} (hr : s.running = true) (h : s.port.stream = .opened) (seq : Byte) :
    s.beforeStart seq =
      { (s.tracked seq).withReport ((s.consumed seq).reportNow true seq) with
          port := { (s.tracked seq).port with stream := .idle } } := by
  have hb : s.beforeStart seq = closeSwath true seq (s.tracked seq) := if_pos h
  rw [hb, closeSwath_of_released (s := s.tracked seq) (released_of_running hr), reportNow_tracked]

/-- A closed swath's frame stands at the head of the buffer as before the close. -/
theorem withoutEligible_closed {p : SwathPort} (h : p.stream = .opened) (seq : Byte) :
    withoutEligible { p with stream := .idle, expected := some (seq + 1) } = withoutEligible p := by
  rw [withoutEligible_of_stream (.inr h)]; rfl

/-- Settles O17: SWATH_END and SWATH_START in OPEN close the swath with its report, and the SWATH_START then meets the hold
check as in IDLE. -/
theorem swathClosed : Obligations.SwathClosed := by
  intro shape seq count s
  refine ⟨fun h ho => ?_, fun h hi => ?_, fun h ho hn => ?_, fun h ho hn => ?_⟩
  · have hw := withoutEligible_closed ho seq
    rw [exec_swathEnd h, handleSwathEnd_of_running h.taken.running, if_pos ho, linkFrame_sequence,
      closeSwath_of_released (s := s.tracked seq) (released_of_running h.taken.running), reportNow_tracked]
    simp only [forward, pushOut, freePlace, State.tracked, hw]
    rfl
  · rw [exec_swathEnd h, handleSwathEnd_of_running h.taken.running, if_neg (by simp [hi]), linkFrame_sequence]
    rfl
  · have hn' : NoLaneHolds (s.beforeStart seq) := by
      rw [beforeStart_of_opened h.taken.running ho]; exact hn
    have hi : (s.beforeStart seq).port.stream = .idle := by rw [beforeStart_of_opened h.taken.running ho]
    rw [exec_swathStart h, startSwath_opens hn' (.inl hi), beforeStart_of_opened h.taken.running ho]
    have hw := withoutEligible_closed ho seq
    simp only [forward, pushOut, freePlace, State.tracked, hw]
    rfl
  · have hb := beforeStart_of_opened h.taken.running ho seq
    obtain ⟨rest, hbuf⟩ := (h.printTaken rfl).head
    have ht : PrintTaken (linkFrame 0x31 shape seq count []) (s.beforeStart seq) := by
      rw [hb]
      exact ⟨h.taken.running, .inl rfl, ⟨rest, hbuf⟩, (h.printTaken rfl).room, rfl⟩
    have hr : (s.beforeStart seq).resetAsserted = false := by rw [hb]; exact released_of_running h.taken.running
    have hn' : ¬NoLaneHolds (s.beforeStart seq) := by rw [hb]; exact hn
    rw [exec_swathStart h, startSwath_holds hn', holdStream_of_head ht hr, hb]
    exact ⟨_, _, rfl, rfl, (streamHeld_of_held rfl).2, rfl⟩

/-! ### STREAM_RESET -/

/-- Settles O18: the row's handler makes exactly these updates, in any stream state. -/
theorem streamReset : Obligations.StreamReset := by
  intro shape seq count s h hg
  have hrow : frameRow (linkFrame 0xC3 shape seq count []) = .streamReset := rfl
  have hc : failedCheck s (linkFrame 0xC3 shape seq count []) = none :=
    failedCheck_bare (.inr (.inr rfl)) (by rw [hg]; rfl)
  have he : exec .streamReset s = .next (takeFrame .streamReset handleStreamReset s) := rfl
  rw [he, takeFrame_handles h hrow hc]
  rfl

/-! ### RESUME STREAM -/

theorem waitTest_of_wait {s : State} {l : Lane} (h : Waits s l) : waitTest s = s := by
  rcases waitTest_spec s with ⟨he, -⟩ | ⟨-, hn, -⟩ | ⟨-, hn, -⟩
  · exact he
  · exact absurd h (hn l)
  · exact absurd h (hn l)

theorem waitTest_opens {s : State} (h : s.port.stream = .resumePending) (hw : ∀ l, ¬Waits s l) (hn : NoLaneHolds s) :
    waitTest s = openSwath s := by
  rcases waitTest_spec s with ⟨-, hl⟩ | ⟨-, -, -, he⟩ | ⟨-, -, hh, -⟩
  · obtain ⟨l, hl⟩ := hl h
    exact absurd hl (hw l)
  · exact he
  · exact absurd hn hh

theorem waitTest_holdsAgain {s : State} (h : s.port.stream = .resumePending) (hw : ∀ l, ¬Waits s l) (hn : ¬NoLaneHolds s) :
    waitTest s = s.heldAgain := by
  rcases waitTest_spec s with ⟨-, hl⟩ | ⟨-, -, hh, -⟩ | ⟨-, -, -, he⟩
  · obtain ⟨l, hl⟩ := hl h
    exact absurd hl (hw l)
  · exact absurd hh hn
  · exact he

/-- RESUME STREAM of a HELD stream is answered PENDING after the wait test in RESUME_PENDING; of any other, NOT_HELD (R168). -/
theorem exec_resumeStream {tag shape seq count : Byte} {s : State} (h : RequestNext 0x17 tag [] shape seq count s) :
    exec .resumeStream s = .next
      (if s.port.stream = .held then
        State.replied tag 0x17 .pending []
          (waitTest { s.consumed seq with port := { (s.consumed seq).port with stream := .resumePending } })
      else (s.consumed seq).replied tag 0x17 .notHeld []) := by
  rw [exec_request rfl rfl h]
  by_cases hs : s.port.stream = .held
  · have hs' : (s.consumed seq).port.stream = .held := hs
    simp only [handleResumeStream, List.isEmpty_nil, if_true, if_pos hs, if_pos hs', pendingWith]
  · have hs' : ¬(s.consumed seq).port.stream = .held := hs
    simp only [handleResumeStream, List.isEmpty_nil, if_true, if_neg hs, if_neg hs', refuse]

/-- Settles O36: the wait test decides a resumption at once, and every later end of RESUME_PENDING is a wait test's too. -/
theorem resumeStream : Obligations.ResumeStream := by
  refine ⟨fun tag shape seq count s h => ?_, fun c s t he hs ht hreset hassert hloss hpower => ?_⟩
  · have hx := exec_resumeStream h
    generalize hu : { s.consumed seq with port := { (s.consumed seq).port with stream := .resumePending } } = u at hx
    have hpending : u.port.stream = .resumePending := by subst hu; rfl
    have hwaits : ∀ l, Waits u l ↔ Waits s l := fun l => by subst hu; rfl
    have hlanes : NoLaneHolds u ↔ NoLaneHolds s := by subst hu; rfl
    refine ⟨fun hs => by rw [hx, if_neg hs], fun hs hw => ?_, fun hs hw hn => ?_, fun hs hw hn => ?_⟩
    · rw [hx, if_pos hs]
      obtain ⟨l, hl⟩ := hw
      rw [waitTest_of_wait ((hwaits l).2 hl), ← hu]
    · rw [hx, if_pos hs, waitTest_opens hpending (fun l hl => hw ⟨l, (hwaits l).1 hl⟩) (hlanes.2 hn),
        openSwath_eq_opening, ← hu]
      rfl
    · rw [hx, if_pos hs, waitTest_holdsAgain hpending (fun l hl => hw ⟨l, (hwaits l).1 hl⟩) (mt hlanes.1 hn)]
      have hheld : { (s.consumed seq).port with stream := .held } = (s.consumed seq).port := by rw [← hs]; rfl
      rw [State.heldAgain, holdingLanes_eq, ← hu]
      exact congrArg (fun p => Host.Outcome.next (State.replied tag 0x17 .pending []
        { s.consumed seq with port := p, policy := { s.policy with holdCauses := s.holdCausesNow } })) hheld
  · have hc : restartsStream c = false := by
      cases c with
      | streamReset => exact absurd rfl hreset
      | pinResetAsserted => exact absurd rfl hassert
      | lossOfPower => exact absurd rfl hloss
      | powerOn decayed => exact absurd rfl (hpower decayed)
      | _ => rfl
    exact resumed_exec he hc hs ht

end Sys2Proof.Machine
end

section
/-! Power, reset and admission: the values after power-on and after RESET_N, the loss and the return of power, and the admission
of frames (O1, O3, O4, O5, O8, O10). -/

namespace Sys2Proof.Machine

/-- Settles O1: a step takes the front of the queue, by its definition. -/
theorem stepRunsTheFrontCommand : Obligations.StepRunsTheFrontCommand := fun _ _ _ => rfl

/-! ### The blocks at their reset values -/

theorem reset_slot (n : Slot) : State.reset.slot n = .initial .empty := by simp [State.slot, State.reset]

theorem initial_laneEntry (l : Lane) : LaneFilter.initial.table[l] = .initial l := by simp [LaneFilter.initial]

theorem initial_counters (l : Lane) : LaneFilter.initial.counters[l] = .zero := by simp [LaneFilter.initial]

/-- Settles O3: the blocks' initial values, lane by lane, input by input and slot by slot. -/
theorem resetValues : Obligations.ResetValues := by
  refine ⟨⟨rfl, rfl, rfl⟩, ⟨rfl, rfl, rfl, rfl, rfl, rfl, rfl, rfl⟩, fun l => ?_,
    ⟨rfl, rfl, rfl, rfl, rfl, fun x => ?_, by decide⟩, fun n => ?_, ?_, rfl, by decide +kernel, rfl, by decide +kernel⟩
  · have he : State.reset.laneEntry l = .initial l := initial_laneEntry l
    rw [he]
    exact ⟨rfl, rfl, rfl, rfl, rfl, rfl, rfl, fun b => by simp [LaneEntry.initial], initial_counters l⟩
  · exact ⟨by simp [State.reset, Monitor.initial], by simp [State.reset, Monitor.initial]⟩
  · rw [reset_slot]
    exact ⟨rfl, rfl, rfl, rfl, rfl, rfl, rfl, rfl, rfl, rfl, rfl, rfl, rfl, rfl⟩
  · decide

theorem laneEntryWf_initial (l : Lane) : LaneEntryWf (.initial l) where
  nozzles := by simp [LaneEntry.initial]
  volumes := by simp [LaneEntry.initial]
  factors b := by simp [LaneEntry.initial]

theorem slotConfigWf_initial : SlotConfigWf .initial := by constructor <;> decide

theorem monitorWf_initial : MonitorWf .initial where
  depth := by decide
  position := by decide
  thresholds := by decide
  limits x := by simp [Monitor.initial]
  skipped := by decide

theorem laneCountersWf_zero : LaneCountersWf .zero := by decide

theorem meterWf_initial (raw : Seat) : MeterWf (.initial raw) := by
  constructor <;> simp [SlotContext.initial, BindingRecord.starting, EvidenceAttr.zero, Config.qIU, EvidenceWf]

theorem slotIdle_reset (n : Slot) : SlotIdle (State.reset.slot n) := by
  rw [reset_slot]; exact .initial .empty

theorem bindingWf_reset (n : Slot) : BindingWf (State.reset.slot n) := by
  rw [reset_slot]; exact .starting rfl rfl

theorem portWf_reset : PortWf State.reset := by constructor <;> decide

theorem settingsWf_reset : SettingsWf State.reset where
  lanes l := by
    have he : State.reset.laneEntry l = .initial l := initial_laneEntry l
    rw [he]; exact laneEntryWf_initial l
  slots n := by rw [reset_slot]; exact slotConfigWf_initial
  monitor := monitorWf_initial
  allowance := by decide
  faultMask := by decide
  sticky := by decide

theorem storeWf_reset : StoreWf State.reset.store := by
  constructor <;> simp [State.reset, RecordStore.initial]

theorem retiredWf_reset : RetiredWf State.reset.refill := by
  constructor <;> simp [State.reset, RefillMonitor.initial, Config.max32]

theorem keyWf_reset : KeyWf State.reset := by
  constructor <;> simp [State.reset, RecordStore.initial, keyWrites]

theorem slotsWf_reset : SlotsWf State.reset :=
  .of_idle slotIdle_reset bindingWf_reset (fun _ n => by rw [reset_slot]; rfl)
    (fun n c h => by simp [State.reset, RefillMonitor.initial] at h)

/-- Settles O4: every block at its reset values meets its own bounds, and no slot has a binding. -/
theorem resetIsSound : Obligations.ResetIsSound := by
  refine ⟨portWf_reset, settingsWf_reset, fun n => ?_, fun l => ?_, storeWf_reset, retiredWf_reset, keyWf_reset, slotsWf_reset,
    ⟨fun _ n => ?_, fun _ n op h => ?_⟩, fun m n serial hm => ?_, ⟨fun n a v h => ?_, fun m n a b v h => ?_⟩, ?_, nofun⟩
  · rw [reset_slot]; exact meterWf_initial .empty
  · have hc : State.reset.lanes.counters[l] = .zero := initial_counters l
    rw [hc]; exact laneCountersWf_zero
  · rw [reset_slot]; exact ⟨nofun, nofun, nofun⟩
  · rw [reset_slot] at h; cases h
  · rw [reset_slot] at hm
    obtain ⟨-, -, i, hi, -⟩ := hm
    cases hi
  · rw [reset_slot] at h; cases h
  · rw [reset_slot] at h; cases h
  · exact ⟨fun _ => rfl, .nil, nofun, nofun⟩

/-! ### Loss and return of power -/

theorem storeInvalid_keyForm (pos : RecordPos) (st : RecordStore) :
    (storeInvalid pos st).keyForm = cutForm (decide (pos = .key)) st.keyForm := by
  cases pos <;> rfl

theorem storeInvalid_checkpointForm (k : Slot) (pos : RecordPos) (st : RecordStore) :
    (storeInvalid pos st).checkpointForms[k] = cutForm (decide (pos = .checkpoint k)) st.checkpointForms[k] := by
  cases pos with
  | key => rfl
  | retired p => rfl
  | checkpoint j =>
    by_cases h : j = k
    · subst h; simp [storeInvalid, cutForm]
    · have hv : j.val ≠ k.val := fun hv => h (Fin.ext hv)
      simp [storeInvalid, cutForm, h, hv]

theorem storeInvalid_retiredForm (p : RetiredPosition) (pos : RecordPos) (st : RecordStore) :
    (storeInvalid pos st).retiredForms[p] = cutForm (decide (pos = .retired p)) st.retiredForms[p] := by
  cases pos with
  | key => rfl
  | checkpoint j => rfl
  | retired q =>
    by_cases h : q = p
    · subst h; simp [storeInvalid, cutForm]
    · have hv : q.val ≠ p.val := fun hv => h (Fin.ext hv)
      simp [storeInvalid, cutForm, h, hv]

/-- A record position of the cut store, read by `read`: INVALID where its program was in flight (R182). -/
theorem cutProgram_form {α : Type} {read : RecordStore → Stored α} {pos : RecordPos}
    (h : ∀ p st, read (storeInvalid p st) = cutForm (decide (p = pos)) (read st)) (st : RecordStore) :
    read (cutProgram st) = cutForm (programsAt pos st) (read st) := by
  unfold cutProgram programsAt
  cases hp : st.program with
  | none => rfl
  | some p => simp [h]

/-- The record positions alone, position by position. -/
theorem keepForms_ext {st : RecordStore} {k : Stored RootKey} {c : Slot → Stored (Option Checkpoint)}
    {r : RetiredPosition → Stored (Option RetiredContent)} (hk : st.keyForm = k) (hc : ∀ n : Slot, st.checkpointForms[n] = c n)
    (hr : ∀ p : RetiredPosition, st.retiredForms[p] = r p) :
    keepForms st =
      { State.reset.store with keyForm := k, checkpointForms := Vector.ofFn c, retiredForms := Vector.ofFn r } := by
  have hc' : st.checkpointForms = Vector.ofFn c := by
    ext i hi : 1
    simpa using hc ⟨i, hi⟩
  have hr' : st.retiredForms = Vector.ofFn r := by
    ext i hi : 1
    simpa using hr ⟨i, hi⟩
  rw [keepForms, hk, hc', hr']
  rfl

theorem decayedForm_false {α : Type} (f : Stored α) : decayedForm false f = f := by cases f <;> rfl

theorem decay_cases (st : RecordStore) (p : RecordPos) : decay st p = st ∨ decay st p = storeInvalid p st := by
  unfold decay
  split <;> split <;> simp

/-- A position whose content decays is INVALID if it was VALID, and no other position changes (R173). -/
theorem decay_form {α : Type} {read : RecordStore → Stored α} {pos : RecordPos}
    (h : ∀ p st, read (storeInvalid p st) = cutForm (decide (p = pos)) (read st))
    (own : ∀ st, read (decay st pos) = decayedForm true (read st)) (st : RecordStore) (p : RecordPos) :
    read (decay st p) = decayedForm (decide (pos = p)) (read st) := by
  by_cases hp : pos = p
  · subst hp; simp [own]
  · rw [decide_eq_false hp, decayedForm_false]
    rcases decay_cases st p with he | he <;> rw [he]
    rw [h, decide_eq_false (Ne.symm hp)]
    rfl

theorem decay_keyForm (st : RecordStore) : (decay st .key).keyForm = decayedForm true st.keyForm := by
  cases hf : st.keyForm <;> simp [decay, hf, decayedForm, storeInvalid]

theorem decay_checkpointForm (k : Slot) (st : RecordStore) :
    (decay st (.checkpoint k)).checkpointForms[k] = decayedForm true st.checkpointForms[k] := by
  cases hf : st.checkpointForms[k] <;> simp_all [decay, decayedForm, storeInvalid]

theorem decay_retiredForm (k : RetiredPosition) (st : RecordStore) :
    (decay st (.retired k)).retiredForms[k] = decayedForm true st.retiredForms[k] := by
  cases hf : st.retiredForms[k] <;> simp_all [decay, decayedForm, storeInvalid]

/-- A position after the decay of a list of positions is INVALID where it was VALID and is listed. -/
theorem decay_fold {α : Type} {read : RecordStore → Stored α} {pos : RecordPos}
    (h : ∀ st p, read (decay st p) = decayedForm (decide (pos = p)) (read st)) (decayed : List RecordPos) (st : RecordStore) :
    read (decayed.foldl decay st) = decayedForm (decide (pos ∈ decayed)) (read st) := by
  induction decayed generalizing st with
  | nil => exact (decayedForm_false _).symm
  | cons p ps ih =>
    rw [List.foldl_cons, ih, h]
    by_cases hp : pos = p <;> by_cases hm : pos ∈ ps <;> cases read st <;> simp [decayedForm, hp, hm]

/-- Settles O5: each record position on its own, and every other field at its value in `State.reset`. -/
theorem powerLossAndReturn : Obligations.PowerLossAndReturn := by
  refine ⟨fun s hp => ?_, fun decayed s hp => ?_⟩
  · have he : exec .lossOfPower s = .next (losePower s) := rfl
    have hk := cutProgram_form storeInvalid_keyForm s.store
    have hc := fun k => cutProgram_form (read := (·.checkpointForms[k])) (storeInvalid_checkpointForm k) s.store
    have hr := fun k => cutProgram_form (read := (·.retiredForms[k])) (storeInvalid_retiredForm k) s.store
    rw [he, losePower, if_pos hp, volatileReset, keepForms_ext hk hc hr]
  · have he : exec (.powerOn decayed) s = .next (applyPower decayed s) := rfl
    have hk := decay_fold (decay_form storeInvalid_keyForm decay_keyForm) decayed s.store
    have hc := fun k => decay_fold (read := (·.checkpointForms[k]))
      (decay_form (read := (·.checkpointForms[k])) (storeInvalid_checkpointForm k) (decay_checkpointForm k)) decayed s.store
    have hr := fun k => decay_fold (read := (·.retiredForms[k]))
      (decay_form (read := (·.retiredForms[k])) (storeInvalid_retiredForm k) (decay_retiredForm k)) decayed s.store
    rw [he, applyPower, if_neg (by simp [hp]), volatileReset, keepForms_ext hk hc hr]

/-! ### The assertion of RESET_N -/

/-- A part held in reset releases FAULT_N, RDY and CRDY (R2, R193). -/
theorem levels_of_reset {s : State} (h : s.resetAsserted = true) : s.faultAsserted = false ∧ s.rdy = false ∧ s.crdy = false := by
  simp [State.faultAsserted, State.rdy, State.crdy, State.running, State.alive, h]

/-- Settles O8: the assertion replaces every volatile block by its reset value and each slot by its `assertSlot`. -/
theorem pinResetAsserted : Obligations.PinResetAsserted := by
  intro s hp hr
  have ha : s.alive = true := by simp [State.alive, hp, hr]
  have he : exec .pinResetAsserted s = .next (assertReset s) := rfl
  refine ⟨_, he, ?_⟩
  rw [assertReset, if_pos ha]
  obtain ⟨hfault, hrdy, hcrdy⟩ := levels_of_reset (s := { s.mapSlots assertSlot with
    resetAsserted := true, spentNonces := [], port := { SwathPort.initial with headReady := s.port.headReady },
    lanes := .initial, monitor := .initial, policy := .initial, agent := .initial }) rfl
  exact ⟨rfl, rfl, rfl, hfault, hrdy, hcrdy, fun n => State.slot_mapSlots n assertSlot s⟩

/-! ### Admission -/

/-- While nothing arrives, a frame is admitted when a place is free and its class or the stream state admits it (R1, R2). -/
theorem beginArrival_of_running {s : State} (hr : s.running = true) (ha : isArriving s.port.buffer = false) (kind : Byte) :
    beginArrival kind s =
      if s.port.buffer.length < 4 ∧ (kind = 0xA5 ∨ kind = 0xC3 ∨ s.port.stream = .idle ∨ s.port.stream = .opened) then
        { s with port := { s.port with buffer := s.port.buffer ++ [{ bytes := [kind], phase := .arriving }] } }
      else { s with agent := { s.agent with sticky := s.agent.sticky ||| Condition.mask .inputOverrun } } := by
  have hready : (if controlClass kind then s.crdy else s.rdy) = true ↔
      s.port.buffer.length < 4 ∧ (kind = 0xA5 ∨ kind = 0xC3 ∨ s.port.stream = .idle ∨ s.port.stream = .opened) := by
    have hheld : s.streamHeldHolds = false ↔ s.port.stream = .idle ∨ s.port.stream = .opened := by
      cases hs : s.port.stream <;> simp [State.streamHeldHolds, hs]
    have hclass : (kind = 0xA5 ∨ kind = 0xC3 ∨ s.port.stream = .idle ∨ s.port.stream = .opened) ↔
        controlClass kind = true ∨ s.streamHeldHolds = false := by
      rw [controlClass_iff, hheld, or_assoc]
    rw [hclass]
    cases controlClass kind <;> simp [State.rdy, State.crdy, hr]
  unfold beginArrival
  rw [if_neg (by simp [hr, ha]), raise_of_released (released_of_running hr)]
  simp only [hready]
  rfl

/-- Settles O10: admission goes by the levels of R2, a part that does not run takes no frame, and the last byte makes the one
frame that arrives ready. -/
theorem frameAdmission : Obligations.FrameAdmission := by
  refine ⟨fun kind s hr ha => ?_, fun kind s hstop => ?_, fun rest first before s hr hbuf hb => ?_⟩
  · have he : exec (.frameArrivalBegins kind) s = .next (beginArrival kind s) := rfl
    rw [he, beginArrival_of_running hr ha]
  · have he : exec (.frameArrivalBegins kind) s = .next (beginArrival kind s) := rfl
    have hr : s.running = false := by
      rcases hstop with h | h | h <;> simp [State.running, State.alive, h]
    rw [he, beginArrival, if_pos (by simp [hr])]
  · have he : exec (.frameArrivalEnds rest) s = .next (endArrival rest s) := rfl
    have hkeep : before.map (·.arrived rest) = before :=
      (List.map_congr_left fun f hf => if_neg (hb f hf)).trans (List.map_id _)
    rw [he, endArrival_eq, if_pos hr, hbuf, List.map_append, hkeep]
    rfl

end Sys2Proof.Machine
end

section
/-! The links: one frame at a time on the head link and on the return lane, and the bodies of the return lane's frames (O19). -/

namespace Sys2Proof.Machine

/-! ### Fields of a message -/

/-- A field stands at the length of what comes before it. -/
theorem field_of_append {d pre field post : List Byte} {i : Nat} (hd : d = pre ++ (field ++ post)) (hi : pre.length = i) :
    (d.drop i).take field.length = field := by
  rw [hd, ← hi, List.drop_left, List.take_left]

theorem flagAt_eq (i : Nat) (b : Bool) : flagAt i b = b.toNat * 2 ^ i := by cases b <;> simp [flagAt]

/-! ### The body of a reply -/

theorem resultCode_eq (r : ResultCode) : r.code = codeIn resultOrder r := by cases r <;> rfl

theorem replyBody_layout (tag code : Byte) (result : ResultCode) (data : List Byte) (summary : Word16) :
    ReplyLayout tag code result data summary (ReturnFrame.reply tag code result data summary).body := by
  have hb : (ReturnFrame.reply tag code result data summary).body =
      [tag, code, byteOf (codeIn resultOrder result), byteOf data.length] ++ (data ++ beBytes 2 summary.toNat) := by
    simp [ReturnFrame.body, resultCode_eq]
  rw [hb]
  refine ⟨by simp; omega, ?_⟩
  simp only [HasFields, List.forall_mem_cons]
  refine ⟨rfl, rfl, rfl, rfl, ?_, ?_, nofun⟩
  · exact field_of_append (pre := [tag, code, byteOf (codeIn resultOrder result), byteOf data.length]) rfl rfl
  · refine field_of_append (post := []) (pre := [tag, code, byteOf (codeIn resultOrder result), byteOf data.length] ++ data) ?_ ?_
    · simp
    · simp; omega

/-! ### The body of a swath report -/

/-- The 13 bytes of one slot in a swath report. -/
def slotReportBytes (r : SlotReport) : List Byte :=
  beBytes 4 r.credited ++ beBytes 4 r.orphaned ++ signedBytes r.remaining

theorem slotReportBytes_length (r : SlotReport) : (slotReportBytes r).length = 13 := by simp [slotReportBytes, signedBytes]

theorem slotReports_length (l : List SlotReport) : (l.flatMap slotReportBytes).length = 13 * l.length := by
  induction l with
  | nil => rfl
  | cons r rs ih => rw [List.flatMap_cons, List.length_append, ih, slotReportBytes_length, List.length_cons]; omega

theorem remainingBytes_eq (r : Option Int) : remainingBytes r = signedBytes r := by
  have h : ((256 ^ 5 : Nat) : Int) = 1099511627776 := by norm_num
  rw [remainingBytes, signedBytes, beSigned, h]

/-- The bytes of slot n in the reports of all slots stand behind those of the slots before it. -/
theorem slotReports_split (slots : Vector SlotReport 8) (n : Slot) :
    ∃ pre post, slots.toList.flatMap slotReportBytes = pre ++ (slotReportBytes slots[n] ++ post) ∧ pre.length = 13 * n.val := by
  have hn : n.val < slots.toList.length := by simp [n.isLt]
  have hs : slots.toList = slots.toList.take n.val ++ slots[n] :: slots.toList.drop (n.val + 1) := by
    conv_lhs => rw [← List.take_append_drop n.val slots.toList, List.drop_eq_getElem_cons hn]
    simp
  refine ⟨(slots.toList.take n.val).flatMap slotReportBytes, (slots.toList.drop (n.val + 1)).flatMap slotReportBytes, ?_, ?_⟩
  · conv_lhs => rw [hs]
    rw [List.flatMap_append, List.flatMap_cons]
  · rw [slotReports_length, List.length_take, min_eq_left (Nat.le_of_lt hn)]

theorem presenceBits_eq (slots : Vector SlotReport 8) :
    byteOf (presenceBits slots.toList) = packed (allSlots.map fun n => (n.val, slots[n].remaining.isSome.toNat)) := by
  have hl : slots.toList = [slots[0], slots[1], slots[2], slots[3], slots[4], slots[5], slots[6], slots[7]] := by
    refine List.ext_getElem (by simp) fun i hi _ => ?_
    have h8 : i < 8 := by simpa using hi
    interval_cases i <;> simp
  rw [presenceBits, hl, byteOf, packed]
  simp [allSlots, flagAt_eq]

theorem reportBody_layout (unterminated : Bool) (closing : Byte) (slots : Vector SlotReport 8) (summary : Word16) :
    ReportLayout unterminated closing slots summary (ReturnFrame.report unterminated closing slots.toList summary).body := by
  have hb : (ReturnFrame.report unterminated closing slots.toList summary).body =
      [packed [(0, unterminated.toNat)], closing,
        packed (allSlots.map fun n => (n.val, slots[n].remaining.isSome.toNat))] ++
        (slots.toList.flatMap slotReportBytes ++ beBytes 2 summary.toNat) := by
    have hf : byteOf (flagAt 0 unterminated) = packed [(0, unterminated.toNat)] := by cases unterminated <;> rfl
    have hr : (fun r : SlotReport => beBytes 4 r.credited ++ beBytes 4 r.orphaned ++ remainingBytes r.remaining) =
        slotReportBytes := funext fun r => by rw [slotReportBytes, remainingBytes_eq]
    rw [ReturnFrame.body, hf, hr, presenceBits_eq, List.append_assoc]
  rw [ReportLayout, hb]
  generalize packed [(0, unterminated.toNat)] = first
  generalize packed (allSlots.map fun n => (n.val, slots[n].remaining.isSome.toNat)) = presence
  have hlen : (slots.toList.flatMap slotReportBytes).length = 104 := by rw [slotReports_length]; simp
  refine ⟨by simp [hlen], ?_, fun n => ?_⟩
  · simp only [HasFields, List.forall_mem_cons]
    refine ⟨rfl, rfl, rfl, ?_, nofun⟩
    exact field_of_append (post := []) (pre := [first, closing, presence] ++ slots.toList.flatMap slotReportBytes) (by simp)
      (by simp [hlen])
  · obtain ⟨pre, post, hsplit, hpre⟩ := slotReports_split slots n
    rw [hsplit, slotReportBytes]
    simp only [HasFields, List.forall_mem_cons]
    refine ⟨?_, ?_, ?_, nofun⟩
    · exact field_of_append (pre := [first, closing, presence] ++ pre) (by simp only [List.append_assoc]; rfl) (by simp [hpre]; omega)
    · exact field_of_append (pre := [first, closing, presence] ++ pre ++ beBytes 4 slots[n].credited)
        (by simp only [List.append_assoc]; rfl) (by simp [hpre]; omega)
    · exact field_of_append
        (pre := [first, closing, presence] ++ pre ++ beBytes 4 slots[n].credited ++ beBytes 4 slots[n].orphaned)
        (by simp only [List.append_assoc]; rfl) (by simp [hpre]; omega)

/-! ### The links -/

theorem forwardHeld_of_checked {s : State} {f : BufferedFrame} {rest : List BufferedFrame} (hr : s.running = true)
    (hs : s.port.stream = .opened) (hbuf : s.port.buffer = f :: rest) (hp : f.phase = .checked)
    (hq : s.port.outQueue.length < 4) :
    forwardHeld s = { s with port := { s.port with buffer := rest, outQueue := s.port.outQueue ++ [f.bytes] } } := by
  unfold forwardHeld
  rw [hbuf]
  exact if_pos ⟨hr, hs, hp, hq⟩

theorem beginTransfer_starts {s : State} {f : List Byte} {rest : List (List Byte)} (ha : s.alive = true)
    (hn : s.port.headTransfer = none) (hq : s.port.outQueue = f :: rest) :
    beginTransfer true s = { s with port := { s.port with headReady := true, headTransfer := some f, outQueue := rest } } := by
  unfold beginTransfer
  rw [hn, hq]
  exact if_pos (by simp [ha])

/-- A begin on a link that is busy, has nothing to send or whose driver is not ready only stores the level (log 24). -/
theorem beginTransfer_waits {s : State} {ready : Bool}
    (h : ready = false ∨ s.port.headTransfer ≠ none ∨ s.port.outQueue = []) :
    beginTransfer ready s = { s with port := { s.port with headReady := ready } } := by
  unfold beginTransfer
  cases hn : s.port.headTransfer with
  | some _ => rfl
  | none =>
    cases hq : s.port.outQueue with
    | nil => rfl
    | cons f rest =>
      have hready : ready = false := by simpa [hn, hq] using h
      exact if_neg (by simp [hready])

theorem beginTransmission_starts {s : State} {f : ReturnFrame} {rest : List ReturnFrame} (ha : s.alive = true)
    (hn : s.port.returnTransmission = none) (hq : s.agent.returnQueue = f :: rest) :
    beginTransmission s =
      { s with
          port := { s.port with returnTransmission := some f.bytes }, agent := { s.agent with returnQueue := rest } } := by
  unfold beginTransmission
  rw [hn, hq]
  exact if_pos ha

theorem beginTransmission_waits {s : State} (h : s.port.returnTransmission ≠ none) : beginTransmission s = s := by
  unfold beginTransmission
  cases hn : s.port.returnTransmission with
  | none => exact absurd hn h
  | some _ => rfl

theorem kindByte_eq (f : ReturnFrame) : f.kindByte = if f.isReport then (0xE2 : Byte) else 0xE1 := by cases f <;> rfl

/-- Settles O19: each link command by its own rule, and the layouts of the two bodies. -/
theorem links : Obligations.Links := by
  refine ⟨fun f rest s hr hs hbuf hp hq => ?_, fun f rest s ha hn hq => ?_, fun ready s h => ?_, fun f rest s ha hn hq => ?_,
    fun s h => ?_, fun s ha => ⟨?_, ?_⟩, replyBody_layout, reportBody_layout⟩
  · exact congrArg Host.Outcome.next (forwardHeld_of_checked hr hs hbuf hp hq)
  · exact congrArg Host.Outcome.next (beginTransfer_starts ha hn hq)
  · exact congrArg Host.Outcome.next (beginTransfer_waits h)
  · refine ⟨_, rfl, ?_⟩
    rw [← kindByte_eq]
    exact congrArg Host.Outcome.next (beginTransmission_starts ha hn hq)
  · exact congrArg Host.Outcome.next (beginTransmission_waits h)
  · exact congrArg Host.Outcome.next (if_pos ha)
  · exact congrArg Host.Outcome.next (if_pos ha)

end Sys2Proof.Machine
end

section
/-! Counted frames: a good FIRE or SPIT frame is counted, credited and forwarded (O13, O14). A frame is freed from the input
buffer after the credit of its drops in the model and before it in the statements: no credit looks at the buffer. -/

namespace Sys2Proof.Machine

/-! ### What does not look at the input buffer -/

/-- The state with another input buffer. -/
def State.withBuffer (b : List BufferedFrame) (s : State) : State := { s with port := { s.port with buffer := b } }

/-- Work that neither looks at the input buffer nor changes it. -/
def BufferBlind (f : State → State) : Prop := ∀ (b : List BufferedFrame) (s : State), f (s.withBuffer b) = (f s).withBuffer b

theorem BufferBlind.comp {f g : State → State} (hf : BufferBlind f) (hg : BufferBlind g) : BufferBlind fun s => f (g s) :=
  fun b s => by dsimp only; rw [hg, hf]

theorem BufferBlind.ite {p : State → Prop} [DecidablePred p] {f g : State → State} (hp : ∀ b s, p (s.withBuffer b) ↔ p s)
    (hf : BufferBlind f) (hg : BufferBlind g) : BufferBlind fun s => if p s then f s else g s := fun b s => by
  dsimp only
  by_cases h : p s
  · rw [if_pos h, if_pos ((hp b s).2 h), hf]
  · rw [if_neg h, if_neg (mt (hp b s).1 h), hg]

theorem bufferBlind_id : BufferBlind fun s => s := fun _ _ => rfl

theorem bufferBlind_raise (c : Condition) : BufferBlind (·.raise c) := .ite (fun _ _ => .rfl) bufferBlind_id fun _ _ => rfl

theorem bufferBlind_commit (w : Write) : BufferBlind (commit w) := fun b s => by
  have hr : enqueueWrite w (s.withBuffer b).store.commitQueue = enqueueWrite w s.store.commitQueue := rfl
  unfold commit requestWrite
  rw [hr]
  cases enqueueWrite w s.store.commitQueue with
  | some q => rfl
  | none => exact bufferBlind_raise _ b s

theorem bufferBlind_addRetired (serial : Serial) (generation count : Nat) (reason : RetiredReason) :
    BufferBlind (addRetired serial generation count reason) := fun b s => by
  let content : RetiredContent :=
    { serial := serial, generation := generation, finalCount := count, reason := reason, sequence := s.refill.nextSeq }
  exact bufferBlind_commit _ b
    { s with
        refill := { s.refill with
          retired := (placeRetired content s.refill.retired).1, nextSeq := nextSequence s.refill.nextSeq } }

theorem bufferBlind_writeCheckpoint (n : Slot) : BufferBlind (writeCheckpoint n) := fun b s => by
  have hc : checkpointOf ((s.withBuffer b).slot n).record = checkpointOf (s.slot n).record := rfl
  unfold writeCheckpoint
  rw [hc]
  cases checkpointOf (s.slot n).record with
  | some c => exact bufferBlind_commit _ b { s with refill := { s.refill with checkpoints := s.refill.checkpoints.set n (some c) } }
  | none => rfl

theorem bufferBlind_judgeRetirement (n : Slot) : BufferBlind (judgeRetirement n) := fun b s => by
  have hr : (s.withBuffer b).slot n = s.slot n := rfl
  unfold judgeRetirement
  rw [hr]
  dsimp only
  split
  · exact bufferBlind_addRetired _ _ _ _ b s
  · rfl

theorem bufferBlind_endBinding (n : Slot) : BufferBlind (endBinding n) :=
  .ite (fun _ _ => .rfl) ((bufferBlind_judgeRetirement n).comp (bufferBlind_writeCheckpoint n)) bufferBlind_id

theorem bufferBlind_modSlot (n : Slot) (f : SlotContext → SlotContext) : BufferBlind (·.modSlot n f) := fun _ _ => rfl

theorem bufferBlind_finishOp (n : Slot) (r : OpResult) (why : Option FailureReason) (e : Byte) (a : Word16) :
    BufferBlind (finishOp n r why e a) := fun _ _ => rfl

theorem bufferBlind_setBinding (n : Slot) (b : BindingState) (why : Option FailureReason) : BufferBlind (setBinding n b why) :=
  fun _ _ => rfl

theorem bufferBlind_finishRelease (n : Slot) (a : Word16) : BufferBlind (finishRelease n a) :=
  (bufferBlind_finishOp n _ _ _ _).comp
    ((bufferBlind_setBinding n _ _).comp ((bufferBlind_modSlot n _).comp (bufferBlind_endBinding n)))

theorem bufferBlind_startAttempt (n : Slot) (k : Nat) : BufferBlind (startAttempt n k) := fun b s => by
  have hr : (s.withBuffer b).slot n = s.slot n := rfl
  unfold startAttempt
  rw [hr]
  dsimp only
  split
  · rfl
  · split <;> rfl

theorem bufferBlind_requestBus (n : Slot) : BufferBlind (requestBus n) := fun b s => by
  have hr : (s.withBuffer b).slot n = s.slot n := rfl
  unfold requestBus
  rw [hr]
  split
  · exact bufferBlind_startAttempt n 1 b s
  · rfl
  · rfl

theorem bufferBlind_beginOp (n : Slot) (e : QueueEntry) : BufferBlind (beginOp n e) := by
  unfold beginOp
  refine .ite (fun _ _ => .rfl) ?_ ((bufferBlind_finishOp n _ _ _ _).comp (bufferBlind_modSlot n _))
  cases e.kind with
  | bind => exact (bufferBlind_requestBus n).comp ((bufferBlind_modSlot n _).comp (bufferBlind_modSlot n _))
  | verify =>
    exact .ite (fun _ _ => .rfl) ((bufferBlind_requestBus n).comp ((bufferBlind_modSlot n _).comp (bufferBlind_modSlot n _)))
      ((bufferBlind_finishOp n _ _ _ _).comp ((bufferBlind_modSlot n _).comp (bufferBlind_modSlot n _)))
  | writeBack => exact (bufferBlind_requestBus n).comp (bufferBlind_modSlot n _)
  | release =>
    exact .ite (fun _ _ => .rfl) ((bufferBlind_requestBus n).comp (bufferBlind_modSlot n _))
      ((bufferBlind_finishRelease n _).comp (bufferBlind_modSlot n _))

theorem bufferBlind_runQueue (k : Nat) (n : Slot) : BufferBlind (runQueue k n) := by
  induction k with
  | zero => exact bufferBlind_id
  | succ k ih =>
    intro b s
    have hr : (s.withBuffer b).slot n = s.slot n := rfl
    unfold runQueue
    rw [hr]
    split
    · exact (ih.comp ((bufferBlind_beginOp n _).comp (bufferBlind_modSlot n _))) b s
    · rfl

theorem bufferBlind_pump (n : Slot) : BufferBlind (pump n) := fun b s => bufferBlind_runQueue (s.slot n).queue.length n b s

theorem bufferBlind_joinOp (n : Slot) (k : OpKind) (o : Origin) : BufferBlind (joinOp n k o) :=
  (bufferBlind_pump n).comp (bufferBlind_modSlot n _)

theorem bufferBlind_askAuto (n : Slot) (k : OpKind) : BufferBlind (askAuto n k) :=
  .ite (fun _ _ => .rfl) (bufferBlind_joinOp n k .auto) bufferBlind_id

theorem bufferBlind_askIfDue (due : SlotContext → Bool) (k : OpKind) (n : Slot) : BufferBlind (askIfDue due k n) :=
  .ite (fun _ _ => .rfl) (bufferBlind_askAuto n k) bufferBlind_id

theorem bufferBlind_creditBinding (n : Slot) (m : Bool) (v : Nat) : BufferBlind (creditBinding n m v) :=
  (bufferBlind_askIfDue _ _ n).comp ((bufferBlind_askIfDue _ _ n).comp fun _ _ => rfl)

/-- No drop report looks at the input buffer (R41). -/
theorem bufferBlind_handleReport (r : DropReport) : BufferBlind (handleReport r) := fun b s => by
  have hr : ∀ n, (s.withBuffer b).slot n = s.slot n := fun _ => rfl
  unfold handleReport
  cases r.slot with
  | none => rfl
  | some n =>
    dsimp only
    rw [hr]
    cases (s.slot n).bindingState with
    | noCartridge | released => rfl
    | pendingId | pendingAuth | unverified | verified | failed | linkLost => exact bufferBlind_creditBinding n _ _ b s

/-! ### The drop levels of a payload -/

/-- The four levels of a byte, as numbers. -/
theorem byteLevels_toNat (b : Byte) :
    [b.extractLsb' 6 2, b.extractLsb' 4 2, b.extractLsb' 2 2, b.extractLsb' 0 2].map BitVec.toNat =
      [b.toNat / 64, b.toNat / 16 % 4, b.toNat / 4 % 4, b.toNat % 4] := by
  have hb : b.toNat < 256 := b.isLt
  simp [Nat.shiftRight_eq_div_pow]
  omega

theorem levelsInByte_eq (level : BitVec 2) (b : Byte) :
    levelsInByte level.toNat b = [b.extractLsb' 6 2, b.extractLsb' 4 2, b.extractLsb' 2 2, b.extractLsb' 0 2].count level := by
  rw [levelsInByte, ← byteLevels_toNat, List.countP_map, List.count]
  refine congrFun (congrArg List.countP (funext fun x => ?_)) _
  simp [BitVec.toNat_eq]

/-- The counts of R30 in the words of the statements. -/
theorem countLevels_eq (level : BitVec 2) (payload : List Byte) :
    countLevels level.toNat payload = (levelsOf payload).count level := by
  have h : ∀ (acc : Nat) (bs : List Byte),
      bs.foldl (fun acc b => acc + levelsInByte level.toNat b) acc = acc + (levelsOf bs).count level := by
    intro acc bs
    induction bs generalizing acc with
    | nil => rfl
    | cons b bs ih =>
      have hl : levelsOf (b :: bs) =
          [b.extractLsb' 6 2, b.extractLsb' 4 2, b.extractLsb' 2 2, b.extractLsb' 0 2] ++ levelsOf bs := rfl
      rw [List.foldl_cons, ih, levelsInByte_eq, hl, List.count_append, Nat.add_assoc]
  exact (h 0 payload).trans (Nat.zero_add _)

/-! ### Counted frames -/

/-- A counted frame leaves its place before its drops are credited as well as after. -/
theorem forward_countFrame (bs : List Byte) (l : Lane) (n1 n2 n3 : Nat) (marked : Bool) (s : State) :
    forward bs (countFrame l n1 n2 n3 marked s) =
      pushOut bs (handleReport (dropReport (s.laneEntry l) l n1 n2 n3 marked)
        ((freePlace s).modCounters l (countDrops n1 n2 n3 marked))) := by
  have hp : (countFrame l n1 n2 n3 marked s).port = s.port := (portKept_countFrame l n1 n2 n3 marked s).port
  have hf : freePlace (countFrame l n1 n2 n3 marked s) =
      (countFrame l n1 n2 n3 marked s).withBuffer (withoutEligible s.port) := by
    rw [← hp]; rfl
  rw [forward, hf]
  exact congrArg (pushOut bs) (bufferBlind_handleReport _ (withoutEligible s.port) _).symm

/-- A FIRE frame of a lane that does not blank is counted, marked where the action is MARK or HOLD (R29). -/
theorem filterFire_counted {bs : List Byte} {s : State} (h : s.laneAction (frameLane bs) ≠ .blank) :
    filterFire bs s =
      fireCounted bs (decide (s.laneAction (frameLane bs) = .mark ∨ s.laneAction (frameLane bs) = .hold)) s := by
  unfold filterFire
  cases ha : s.laneAction (frameLane bs) with
  | pass => rfl
  | mark => rfl
  | hold => rfl
  | blank => exact absurd ha h

/-- Settles O13: OPEN counts, credits and forwards the frame; IDLE discards it. -/
theorem fireCounted_holds : Obligations.FireCounted := by
  intro shape seq count payload s h h1 h64 hp
  have hrow : frameRow (linkFrame 0x21 shape seq count payload) = .fire := rfl
  have hc := failedCheck_fire (seq := seq) h.guard h.length h1 h64 hp
  have he : exec .fire s = .next (takeFrame .fire handleFire s) := rfl
  rw [he, takeFrame_handles h.taken hrow hc, handleFire_of_running h.taken.running, linkFrame_sequence]
  refine ⟨fun hs => ?_, fun hs ha => ?_⟩
  · rw [if_neg (by simp [hs])]
    rfl
  · rw [if_pos hs, filterFire_counted (by exact ha)]
    have ha' : (s.tracked seq).laneAction (laneOfShape shape) = s.laneAction (laneOfShape shape) := rfl
    have n1 : countLevels 1 payload = (levelsOf payload).count 1 := countLevels_eq 1 payload
    have n2 : countLevels 2 payload = (levelsOf payload).count 2 := countLevels_eq 2 payload
    have n3 : countLevels 3 payload = (levelsOf payload).count 3 := countLevels_eq 3 payload
    rw [fireCounted, forward_countFrame, linkFrame_payload, linkFrame_lane, ha', n1, n2, n3]
    generalize hact : s.laneAction (laneOfShape shape) = a at ha ⊢
    cases a with
    | pass => rfl
    | mark => rfl
    | hold => rfl
    | blank => exact absurd rfl ha

/-- Settles O14: a SPIT frame is counted for its one size and forwarded. -/
theorem spit : Obligations.Spit := by
  intro shape seq count s h hs h1 h3 hc n hn
  have hrow : frameRow (linkFrame 0x22 shape seq count []) = .spit := rfl
  have hcheck := failedCheck_spit (seq := seq) (s := s) h.guard h1 h3 hc
  have he : exec .spit s = .next (takeFrame .spit handleSpit s) := rfl
  rw [he, takeFrame_handles h.taken hrow hcheck]
  unfold handleSpit
  rw [sequenceCheck_of_released (released_of_running h.taken.running), linkFrame_sequence]
  dsimp only
  rw [forward_countFrame, linkFrame_spitSize, linkFrame_count, linkFrame_lane, hn 1, hn 2, hn 3]
  rfl

end Sys2Proof.Machine
end

section
/-! The ranges of metering, evidence and settings at a slot, and what keeps a record, a slot, a lane and the Condition Monitor
within theirs (O53). -/

namespace Sys2Proof.Machine

/-! ### Saturation and clamping -/

theorem satAdd_le (bound a b : Nat) : satAdd bound a b ≤ bound := Nat.min_le_right _ _

theorem satAdd32_le (a b : Nat) : satAdd32 a b ≤ Config.max32 := satAdd_le _ _ _

theorem satAdd48_le (a b : Nat) : satAdd48 a b ≤ Config.max48 := satAdd_le _ _ _

theorem le_clamp (low high v : Nat) : low ≤ clamp low high v := Nat.le_max_left _ _

theorem clamp_le {low high : Nat} (h : low ≤ high) (v : Nat) : clamp low high v ≤ high :=
  Nat.max_le.mpr ⟨h, Nat.min_le_right _ _⟩

/-! ### Evidence -/

theorem EvidenceWf.get {e : Evidence} (h : EvidenceWf e) (k : EvidenceKind) : (e.get k).raw ≤ 65535 ∧ (e.get k).worst ≤ 65535 := by
  cases k <;> exact h _ (by simp [Evidence.get])

theorem EvidenceWf.put {e : Evidence} (h : EvidenceWf e) (k : EvidenceKind) {a : EvidenceAttr} (hr : a.raw ≤ 65535)
    (hw : a.worst ≤ 65535) : EvidenceWf (e.put k a) := by
  have hg := h.get
  have hput : ∀ m, ((e.put k a).get m).raw ≤ 65535 ∧ ((e.put k a).get m).worst ≤ 65535 := fun m => by
    by_cases hm : m = k
    · subst hm; rw [Evidence.get_put_self]; exact ⟨hr, hw⟩
    · rw [Evidence.get_put_ne hm]; exact hg m
  intro x hx
  simp only [List.mem_cons, List.not_mem_nil, or_false] at hx
  rcases hx with rfl | rfl | rfl | rfl
  · exact hput .regression
  · exact hput .retiredMatch
  · exact hput .overdraw
  · exact hput .advanceRefused

/-! ### A binding record -/

/-- The ranges of a record's metering and evidence (section 3.1, R135). -/
structure RecordBound (r : BindingRecord) : Prop where
  residue : r.residue < Config.qIU
  metered : r.metered ≤ Config.max32
  unverifiedUnits : r.unverifiedUnits ≤ Config.max32
  flaggedUnits : r.flaggedUnits ≤ Config.max32
  sinceVerify : r.sinceVerify ≤ Config.max32
  evidence : EvidenceWf r.evidence

theorem recordBound_starting : RecordBound .starting := by
  constructor <;> simp [BindingRecord.starting, EvidenceAttr.zero, EvidenceWf, Config.qIU]

theorem RecordBound.withEvidence {r : BindingRecord} (h : RecordBound r) {e : Evidence} (he : EvidenceWf e) :
    RecordBound { r with evidence := e } :=
  ⟨h.residue, h.metered, h.unverifiedUnits, h.flaggedUnits, h.sinceVerify, he⟩

theorem RecordBound.setRaw {r : BindingRecord} (h : RecordBound r) (cfg : SlotConfig) (k : EvidenceKind) {v : Nat}
    (hv : v ≤ 65535) : RecordBound (setRaw cfg k v r).1 :=
  h.withEvidence (h.evidence.put k hv (Nat.max_le.mpr ⟨(h.evidence.get k).2, hv⟩))

theorem RecordBound.countRaw {r : BindingRecord} (h : RecordBound r) (cfg : SlotConfig) (k : EvidenceKind) :
    RecordBound (countRaw cfg k r).1 := h.setRaw cfg k (satAdd_le _ _ _)

theorem RecordBound.evidenceIf {p : BindingRecord × Word16} (h : RecordBound p.1) (b : Bool)
    {f : BindingRecord → BindingRecord × Word16} (hf : ∀ r, RecordBound r → RecordBound (f r).1) :
    RecordBound (evidenceIf b f p).1 := by
  unfold Machine.evidenceIf
  split
  · exact hf _ h
  · exact h

theorem overdraw_le {r : BindingRecord} {o : Nat} (h : r.overdraw = some o) : o ≤ 65535 := by
  obtain ⟨⟨u, c⟩, -, rfl⟩ := Option.map_eq_some_iff.mp h
  dsimp only
  split <;> omega

theorem RecordBound.judgeMarks {r : BindingRecord} (h : RecordBound r) (cfg : SlotConfig) : RecordBound (judgeMarks cfg r) :=
  ⟨h.residue, h.metered, h.unverifiedUnits, h.flaggedUnits, h.sinceVerify, h.evidence⟩

theorem RecordBound.handOverdraw {r : BindingRecord} (h : RecordBound r) (cfg : SlotConfig) :
    RecordBound (handOverdraw cfg r).1 := by
  unfold Machine.handOverdraw
  split
  · next o ho => exact h.setRaw cfg .overdraw (overdraw_le ho)
  · exact h

theorem RecordBound.judgeSilently {r : BindingRecord} (h : RecordBound r) (cfg : SlotConfig) :
    RecordBound (judgeSilently cfg r).1 := (h.judgeMarks cfg).handOverdraw cfg

theorem RecordBound.creditRecord {r : BindingRecord} (h : RecordBound r) (u m : Bool) (volume : Nat) :
    RecordBound (creditRecord u m volume r) where
  residue := creditRecord_residue u m volume r
  metered := satAdd32_le _ _
  unverifiedUnits := by
    unfold Machine.creditRecord
    dsimp only
    split
    · exact satAdd32_le _ _
    · exact h.unverifiedUnits
  flaggedUnits := by
    unfold Machine.creditRecord
    dsimp only
    split
    · exact satAdd32_le _ _
    · exact h.flaggedUnits
  sinceVerify := satAdd32_le _ _
  evidence := h.evidence

theorem RecordBound.evaluateVerify {r : BindingRecord} (h : RecordBound r) (cfg : SlotConfig) (used generation : Nat) :
    RecordBound (evaluateVerify cfg used generation r).1.1 := by
  unfold Machine.evaluateVerify
  split
  · split
    · exact h.countRaw cfg .regression
    · split
      · exact ⟨h.residue, h.metered, h.unverifiedUnits, h.flaggedUnits, h.sinceVerify, h.evidence⟩
      · exact ⟨h.residue, h.metered, h.unverifiedUnits, h.flaggedUnits, h.sinceVerify, h.evidence⟩
  · exact h

theorem RecordBound.evaluateAdvance {r : BindingRecord} (h : RecordBound r) (cfg : SlotConfig) (v target : Nat) :
    RecordBound (evaluateAdvance cfg v target r).record := by
  unfold Machine.evaluateAdvance
  split
  · extract_lets p
    have hw : RecordBound { r with lastWritten := some v } :=
      ⟨h.residue, h.metered, h.unverifiedUnits, h.flaggedUnits, h.sinceVerify, h.evidence⟩
    have hp : RecordBound p.1 := hw.setRaw cfg .advanceRefused (by decide)
    split
    · split
      · exact ⟨hp.residue, hp.metered, hp.unverifiedUnits, hp.flaggedUnits, hp.sinceVerify, hp.evidence⟩
      · exact hp
    · exact hp
  · refine RecordBound.evidenceIf (RecordBound.evidenceIf h _ ?_) _ ?_
    · exact fun r hr => hr.countRaw cfg .advanceRefused
    · exact fun r hr => hr.countRaw cfg .regression

/-! ### A slot -/

/-- The ranges of a slot: its metering, evidence and failed-attempt count, and its configuration (R83, R92, R135). -/
structure SlotBound (c : SlotContext) : Prop where
  meter : MeterWf c
  config : SlotConfigWf c.config

theorem SlotBound.record {c : SlotContext} (h : SlotBound c) : RecordBound c.record :=
  ⟨h.meter.residue, h.meter.metered, h.meter.unverifiedUnits, h.meter.flaggedUnits, h.meter.sinceVerify, h.meter.evidence⟩

/-- Two slots have the same counts beside the binding record, and the same configuration. -/
structure SameCounts (c d : SlotContext) : Prop where
  config : d.config = c.config
  failedAttempts : d.failedAttempts = c.failedAttempts
  orphanResidue : d.orphanResidue = c.orphanResidue
  orphanCount : d.orphanCount = c.orphanCount
  swathCredited : d.swathCredited = c.swathCredited
  swathOrphaned : d.swathOrphaned = c.swathOrphaned

theorem sameCounts_mergeStatus (allowance : Nat) (p : Option Primary) (e : Byte) (a : Word16) (c : SlotContext) :
    SameCounts c (mergeStatus allowance p e a c) := by constructor <;> simp

theorem sameCounts_enterState (allowance : Nat) (b : BindingState) (reason : Option FailureReason) (c : SlotContext) :
    SameCounts c (enterState allowance b reason c) := by
  rw [enterState_frame]; exact ⟨rfl, rfl, rfl, rfl, rfl, rfl⟩

/-- A slot with a record in range and its other counts as before is in range. -/
theorem SlotBound.of_record {c d : SlotContext} (h : SlotBound c) (hr : RecordBound d.record) (hs : SameCounts c d) :
    SlotBound d where
  meter :=
    ⟨hr.residue, by rw [hs.orphanResidue]; exact h.meter.orphanResidue, hr.metered, hr.unverifiedUnits, hr.flaggedUnits,
      hr.sinceVerify, by rw [hs.orphanCount]; exact h.meter.orphanCount, by rw [hs.swathCredited]; exact h.meter.swathCredited,
      by rw [hs.swathOrphaned]; exact h.meter.swathOrphaned, by rw [hs.failedAttempts]; exact h.meter.failedAttempts,
      hr.evidence⟩
  config := by rw [hs.config]; exact h.config

/-- A slot with the same record and counts is in range. -/
theorem SlotBound.congr {c d : SlotContext} (h : SlotBound c) (hr : d.record = c.record) (hs : SameCounts c d) : SlotBound d :=
  h.of_record (by rw [hr]; exact h.record) hs

theorem slotBound_initial (raw : Seat) : SlotBound (.initial raw) := ⟨meterWf_initial raw, slotConfigWf_initial⟩

theorem SlotBound.mergeStatus {c : SlotContext} (h : SlotBound c) (allowance : Nat) (p : Option Primary) (e : Byte)
    (a : Word16) : SlotBound (mergeStatus allowance p e a c) := h.congr (by simp) (sameCounts_mergeStatus _ _ _ _ _)

theorem SlotBound.enterState {c : SlotContext} (h : SlotBound c) (allowance : Nat) (b : BindingState)
    (reason : Option FailureReason) : SlotBound (enterState allowance b reason c) := by
  refine h.of_record ?_ (sameCounts_enterState _ _ _ _)
  by_cases hb : b = .noCartridge
  · subst hb; exact recordBound_starting
  · rw [enterState_record hb]
    have hr := h.record
    exact ⟨hr.residue, hr.metered, hr.unverifiedUnits, hr.flaggedUnits, hr.sinceVerify, hr.evidence⟩

theorem SlotBound.beginBinding {c : SlotContext} (h : SlotBound c) : SlotBound (beginBinding c) :=
  h.of_record recordBound_starting ⟨rfl, rfl, rfl, rfl, rfl, rfl⟩

theorem SlotBound.replaceBinding {c : SlotContext} (h : SlotBound c) : SlotBound (replaceBinding c) := by
  unfold Machine.replaceBinding
  split
  · exact h.beginBinding
  · exact h.beginBinding
  all_goals exact h

theorem SlotBound.closeRecord {c : SlotContext} (h : SlotBound c) : SlotBound (closeRecord c) := by
  have hr := h.record
  exact h.of_record ⟨(by decide : 0 < Config.qIU), hr.metered, hr.unverifiedUnits, hr.flaggedUnits, hr.sinceVerify, hr.evidence⟩
    ⟨rfl, rfl, rfl, rfl, rfl, rfl⟩

theorem SlotBound.supplyOff {c : SlotContext} (h : SlotBound c) : SlotBound (supplyOff c) :=
  h.congr rfl ⟨rfl, rfl, rfl, rfl, rfl, rfl⟩

/-- The swath sums alone have moved, and are in range. -/
theorem SlotBound.withSums {c : SlotContext} (h : SlotBound c) {credited orphaned : Nat} (hc : credited ≤ Config.max32)
    (ho : orphaned ≤ Config.max32) : SlotBound { c with swathCredited := credited, swathOrphaned := orphaned } where
  meter :=
    ⟨h.meter.residue, h.meter.orphanResidue, h.meter.metered, h.meter.unverifiedUnits, h.meter.flaggedUnits,
      h.meter.sinceVerify, h.meter.orphanCount, hc, ho, h.meter.failedAttempts, h.meter.evidence⟩
  config := h.config

theorem SlotBound.countFailed {c : SlotContext} (h : SlotBound c) :
    SlotBound { c with failedAttempts := satAdd32 c.failedAttempts 1 } where
  meter :=
    ⟨h.meter.residue, h.meter.orphanResidue, h.meter.metered, h.meter.unverifiedUnits, h.meter.flaggedUnits,
      h.meter.sinceVerify, h.meter.orphanCount, h.meter.swathCredited, h.meter.swathOrphaned, satAdd32_le _ _, h.meter.evidence⟩
  config := h.config

theorem SlotBound.assertSlot {c : SlotContext} (h : SlotBound c) : SlotBound (assertSlot c) :=
  (slotBound_initial c.rawSeat).of_record h.record ⟨rfl, rfl, rfl, rfl, rfl, rfl⟩

theorem swathSum_le {s : State} {sum : Nat} (h : sum ≤ Config.max32) (q : Nat) : swathSum s sum q ≤ Config.max32 := by
  unfold swathSum
  split
  · exact satAdd32_le _ _
  · exact h

theorem SlotBound.creditSlot {c : SlotContext} (h : SlotBound c) (allowance : Nat) (s : State) (marked : Bool) (volume : Nat) :
    SlotBound (creditSlot allowance (swathSum s) marked volume c) := by
  unfold Machine.creditSlot
  extract_lets q r1 events r2 c2 p
  have h2 : RecordBound r2 := (h.record.creditRecord _ _ _).judgeMarks _
  have hc : SlotBound { c with record := r2, swathCredited := swathSum s c.swathCredited q } :=
    (h.withSums (swathSum_le h.meter.swathCredited q) h.meter.swathOrphaned).of_record h2 ⟨rfl, rfl, rfl, rfl, rfl, rfl⟩
  have hc2 : SlotBound c2 := hc.mergeStatus _ _ _ _
  have hp : RecordBound p.1 := h2.handOverdraw _
  have h3 : SlotBound { c2 with record := p.1 } := hc2.of_record hp ⟨rfl, rfl, rfl, rfl, rfl, rfl⟩
  exact h3.mergeStatus _ _ _ _

/-! ### Lanes -/

/-- The ranges of the Lane Filter: each lane's entry and counters (R22, R34). -/
structure LanesBound (f : LaneFilter) : Prop where
  entries : ∀ l : Lane, LaneEntryWf f.table[l]
  counters : ∀ l : Lane, LaneCountersWf f.counters[l]

theorem lanesBound_initial : LanesBound .initial where
  entries l := by rw [initial_laneEntry]; exact laneEntryWf_initial l
  counters l := by rw [initial_counters]; exact laneCountersWf_zero

theorem LanesBound.setCounters {f : LaneFilter} (h : LanesBound f) (l : Lane) {c : LaneCounters} (hc : LaneCountersWf c) :
    LanesBound { f with counters := f.counters.set l c } where
  entries := h.entries
  counters m := by
    by_cases hm : l = m
    · subst hm; simpa using hc
    · have hv : l.val ≠ m.val := fun hv => hm (Fin.ext hv)
      simpa [hv] using h.counters m

theorem LanesBound.setEntry {f : LaneFilter} (h : LanesBound f) (l : Lane) {e : LaneEntry} (he : LaneEntryWf e) :
    LanesBound { f with table := f.table.set l e } where
  entries m := by
    by_cases hm : l = m
    · subst hm; simpa using he
    · have hv : l.val ≠ m.val := fun hv => hm (Fin.ext hv)
      simpa [hv] using h.entries m
  counters := h.counters

theorem laneCountersWf_countBlanked {c : LaneCounters} (h : LaneCountersWf c) : LaneCountersWf (countBlanked c) := by
  simp only [LaneCountersWf, List.forall_mem_cons, countBlanked] at h ⊢
  obtain ⟨-, -, hm, h1, h2, h3, hu⟩ := h
  exact ⟨satAdd48_le _ _, satAdd48_le _ _, hm, h1, h2, h3, hu⟩

theorem laneCountersWf_countDrops {c : LaneCounters} (h : LaneCountersWf c) (n1 n2 n3 : Nat) (marked : Bool) :
    LaneCountersWf (countDrops n1 n2 n3 marked c) := by
  simp only [LaneCountersWf, List.forall_mem_cons, countDrops] at h ⊢
  obtain ⟨-, hb, hm, -, -, -, hu⟩ := h
  refine ⟨satAdd48_le _ _, hb, ?_, satAdd48_le _ _, satAdd48_le _ _, satAdd48_le _ _, hu⟩
  split
  · exact satAdd48_le _ _
  · exact hm

theorem laneCountersWf_unattributed {c : LaneCounters} (h : LaneCountersWf c) (n : Nat) :
    LaneCountersWf { c with unattributed := satAdd48 c.unattributed n } := by
  simp only [LaneCountersWf, List.forall_mem_cons] at h ⊢
  obtain ⟨hf, hb, hm, h1, h2, h3, -, -⟩ := h
  exact ⟨hf, hb, hm, h1, h2, h3, satAdd48_le _ _, nofun⟩

/-- A field written with values that keep a property has it, as the field had it. -/
theorem written_keeps {α : Type} {P : α → Prop} (v : List (Option Nat)) (i : Nat) {store : Nat → α} {old : α} (h : P old)
    (hs : ∀ x, P (store x)) : P (written v i store old) := by
  unfold written
  split
  · exact hs _
  · exact h

theorem storedVolume_range (x : Nat) : storedVolume x = 0 ∨ (100 ≤ storedVolume x ∧ storedVolume x ≤ 40000) := by
  unfold storedVolume
  split
  · exact .inl rfl
  · exact .inr ⟨le_clamp _ _ _, clamp_le (by decide) x⟩

theorem storedNozzles_range (x : Nat) :
    storedNozzles x % 64 = 0 ∧ 64 ≤ storedNozzles x ∧ storedNozzles x ≤ 2048 := by
  unfold storedNozzles clamp
  omega

/-- Each written field is clamped into its range (R24 to R26). -/
theorem laneEntryWf_writeLaneEntry {e : LaneEntry} (h : LaneEntryWf e) (v : List (Option Nat)) :
    LaneEntryWf (writeLaneEntry v e) where
  nozzles := written_keeps (P := fun x => x % 64 = 0 ∧ 64 ≤ x ∧ x ≤ 2048) v 1 h.nozzles storedNozzles_range
  volumes := by
    have hv := h.volumes
    simp only [List.forall_mem_cons, writeLaneEntry] at hv ⊢
    obtain ⟨h1, h2, h3, -⟩ := hv
    exact ⟨written_keeps (P := fun x => x = 0 ∨ 100 ≤ x ∧ x ≤ 40000) v 2 h1 storedVolume_range,
      written_keeps (P := fun x => x = 0 ∨ 100 ≤ x ∧ x ≤ 40000) v 3 h2 storedVolume_range,
      written_keeps (P := fun x => x = 0 ∨ 100 ≤ x ∧ x ≤ 40000) v 4 h3 storedVolume_range, nofun⟩
  factors b := by
    simp only [writeLaneEntry, Fin.getElem_fin, Vector.getElem_ofFn]
    exact written_keeps (P := fun x => 768 ≤ x ∧ x ≤ 1280) v _ (h.factors b) fun x => ⟨le_clamp _ _ _, clamp_le (by decide) x⟩

/-! ### The slot configuration -/

/-- Each written field is clamped into its range (R92). -/
theorem slotConfigWf_writeSlotConfig {c : SlotConfig} (h : SlotConfigWf c) (v : List (Option Nat)) :
    SlotConfigWf (writeSlotConfig v c) := by
  have hclamp : ∀ {low high : Nat}, low ≤ high → ∀ x, low ≤ clamp low high x ∧ clamp low high x ≤ high :=
    fun hlh x => ⟨le_clamp _ _ _, clamp_le hlh x⟩
  exact
    { inkType := written_keeps (P := (· ≤ 255)) v 0 h.inkType fun x => (hclamp (by decide) x).2
      lowMark := written_keeps (P := (· ≤ 1000)) v 1 h.lowMark fun x => (hclamp (by decide) x).2
      tolerance := written_keeps (P := fun x => 1 ≤ x ∧ x ≤ 1000) v 2 h.tolerance (hclamp (by decide))
      writeBack := written_keeps (P := fun x => 1 ≤ x ∧ x ≤ 65535) v 3 h.writeBack (hclamp (by decide))
      verify := written_keeps (P := (· ≤ 65535)) v 4 h.verify fun x => (hclamp (by decide) x).2
      settle := written_keeps (P := fun x => 1 ≤ x ∧ x ≤ 15) v 5 h.settle (hclamp (by decide))
      idle := written_keeps (P := (· ≤ 255)) v 6 h.idle fun x => (hclamp (by decide) x).2
      timeout := written_keeps (P := fun x => 5 ≤ x ∧ x ≤ 100) v 7 h.timeout (hclamp (by decide)) }

/-! ### The Condition Monitor -/

theorem MonitorWf.skip {m : Monitor} (h : MonitorWf m) : MonitorWf m.skip :=
  ⟨h.depth, h.position, h.thresholds, h.limits, satAdd32_le _ _⟩

theorem MonitorWf.withConversion {m : Monitor} (h : MonitorWf m) (cv : Option Conversion) (mode : SampleMode) :
    MonitorWf { m with conversion := cv, mode := mode } :=
  ⟨h.depth, h.position, h.thresholds, h.limits, h.skipped⟩

theorem MonitorWf.pacedTrigger {m : Monitor} (h : MonitorWf m) : MonitorWf m.pacedTrigger := by
  unfold Monitor.pacedTrigger
  split
  · exact h.skip
  · exact h.withConversion _ m.mode

theorem MonitorWf.swathOpens {m : Monitor} (h : MonitorWf m) : MonitorWf m.swathOpens := by
  unfold Monitor.swathOpens
  split
  · exact h.pacedTrigger
  · exact h
  · exact h

theorem MonitorWf.complete {m : Monitor} (h : MonitorWf m) (cv : Conversion) (code : Code) : MonitorWf (m.complete cv code) := by
  refine ⟨h.depth, ?_, h.thresholds, h.limits, h.skipped⟩
  have hd : 0 < m.sequence.length := h.depth.1
  change m.positionAfter cv.origin < m.sequence.length
  unfold Monitor.positionAfter
  split
  · exact Nat.mod_lt _ hd
  · exact h.position
  · exact h.position

theorem MonitorWf.setMode {m : Monitor} (h : MonitorWf m) (mode : SampleMode) : MonitorWf (m.setMode mode) := by
  refine ⟨h.depth, ?_, h.thresholds, h.limits, h.skipped⟩
  change (if mode = .off then m.position else 0) < m.sequence.length
  split
  · exact h.position
  · exact h.depth.1

theorem MonitorWf.withSequence {m : Monitor} (h : MonitorWf m) {q : List ThermalInput} (hq : 1 ≤ q.length ∧ q.length ≤ 8) :
    MonitorWf { m with sequence := q, position := 0 } :=
  ⟨hq, hq.1, h.thresholds, h.limits, h.skipped⟩

theorem MonitorWf.withLimit {m : Monitor} (h : MonitorWf m) (x : ThermalInput) (v : Nat) :
    MonitorWf { m with limits := m.limits.set x (clamp 1 4096 v) } := by
  refine ⟨h.depth, h.position, h.thresholds, fun y => ?_, h.skipped⟩
  by_cases hy : x = y
  · subst hy; simpa using ⟨le_clamp 1 4096 v, clamp_le (by decide) v⟩
  · have hv : x.val ≠ y.val := fun hv => hy (Fin.ext hv)
    simpa [hv] using h.limits y

theorem ascending_isChain (l : List Nat) : ascending l = true ↔ l.IsChain (· < ·) := by
  induction l with
  | nil => simp [ascending]
  | cons a l ih =>
    cases l with
    | nil => simp [ascending]
    | cons b l => simp [ascending, ih]

/-- Thresholds that R70, step 2, accepts are in range. -/
theorem MonitorWf.withThresholds {m : Monitor} (h : MonitorWf m) {t : Vector Nat 7} (ht : thresholdsLegal t = true) :
    MonitorWf { m with thresholds := t } := by
  simp only [thresholdsLegal, Bool.and_eq_true, List.all_eq_true, decide_eq_true_eq, ascending_isChain] at ht
  exact ⟨h.depth, h.position, ⟨List.isChain_iff_pairwise.mp ht.2, ht.1⟩, h.limits, h.skipped⟩

theorem length_of_mapM {α β : Type} {f : α → Option β} {l : List α} {q : List β} (h : l.mapM f = some q) :
    q.length = l.length := by
  induction l generalizing q with
  | nil => cases h; rfl
  | cons a l ih =>
    simp only [List.mapM_cons, Option.bind_eq_bind, Option.bind_eq_some_iff] at h
    obtain ⟨b, -, bs, hbs, he⟩ := h
    cases he
    rw [List.length_cons, List.length_cons, ih hbs]

/-- A WRITE SEQUENCE that is not refused carries 1 to 8 entries (R64). -/
theorem sequenceArguments_length {args : List Byte} {q : List ThermalInput} (h : sequenceArguments args = some q) :
    1 ≤ q.length ∧ q.length ≤ 8 := by
  cases args with
  | nil => cases h
  | cons depth entries =>
    simp only [sequenceArguments] at h
    split at h
    · cases h
    · next hd =>
      obtain ⟨h0, h8, hl⟩ : depth ≠ 0 ∧ depth.toNat ≤ 8 ∧ entries.length = depth.toNat := by simpa using hd
      have hpos : depth.toNat ≠ 0 := fun hz => h0 (BitVec.eq_of_toNat_eq hz)
      have hq := length_of_mapM h
      omega

theorem withThresholds_legal {bytes : List Byte} {limits : Option (Option (List (ThermalInput × Nat)))} {w : LimitsWrite}
    (h : withThresholds bytes limits = some w) {t : Vector Nat 7} (ht : w.thresholds = some t) : thresholdsLegal t = true := by
  unfold withThresholds at h
  split at h
  · cases h
  · next hn =>
    obtain ⟨l, -, rfl⟩ := Option.map_eq_some_iff.mp h
    cases ht
    simpa using (not_or.mp hn).2

/-- Thresholds that a WRITE LIMITS carries are legal (R70). -/
theorem limitsArguments_legal {args : List Byte} {w : LimitsWrite} (h : limitsArguments args = some w) {t : Vector Nat 7}
    (ht : w.thresholds = some t) : thresholdsLegal t = true := by
  cases args with
  | nil => cases h
  | cons parts rest =>
    simp only [limitsArguments] at h
    split at h
    · cases h
    · obtain ⟨l, -, rfl⟩ := Option.map_eq_some_iff.mp h
      cases ht
    · exact withThresholds_legal h ht
    · exact withThresholds_legal h ht

/-! ### The policy allowance -/

/-- A selected value fits the width of its field. -/
theorem selectedValues_lt {ws : List Nat} {i selection : Nat} {bytes : List Byte} {v : List (Option Nat)}
    (h : selectedValues ws i selection bytes = some v) {k x : Nat} (hx : fieldOf v k = some x) : x < 256 ^ ws.getD k 0 := by
  induction ws generalizing i bytes v k with
  | nil =>
    simp only [selectedValues] at h
    split at h
    · cases h; simp [fieldOf] at hx
    · cases h
  | cons w ws ih =>
    simp only [selectedValues] at h
    split at h
    · split at h
      · cases h
      · next hlen =>
        obtain ⟨v', hv', rfl⟩ := Option.map_eq_some_iff.mp h
        cases k with
        | zero =>
          have hb : beNat (bytes.take w) = x := by simpa [fieldOf] using hx
          have hl : (bytes.take w).length = w := by simp; omega
          rw [← hb, List.getD_cons_zero]
          have hlt := beNat_lt (bytes.take w)
          rwa [hl] at hlt
        | succ k =>
          rw [List.getD_cons_succ]
          exact ih hv' (by simpa [fieldOf] using hx)
    · obtain ⟨v', hv', rfl⟩ := Option.map_eq_some_iff.mp h
      cases k with
      | zero => simp [fieldOf] at hx
      | succ k =>
        rw [List.getD_cons_succ]
        exact ih hv' (by simpa [fieldOf] using hx)

/-- The allowance that a WRITE POLICY carries holds 2 bytes (R162). -/
theorem writePolicyArguments_allowance {args : List Byte} {v : List (Option Nat)} (h : writePolicyArguments args = some v)
    {x : Nat} (hx : fieldOf v 12 = some x) : x ≤ 65535 := by
  unfold writePolicyArguments at h
  split at h
  · cases h
  · obtain ⟨v', hv', he⟩ := Option.bind_eq_some_iff.mp h
    split at he
    · cases he
    · cases he
      have hlt : x < 256 ^ policyWidths.getD 12 0 := selectedValues_lt hv' hx
      exact Nat.le_of_lt_succ hlt

theorem allowance_writePolicyTable {args : List Byte} {v : List (Option Nat)} (h : writePolicyArguments args = some v)
    {p : PolicyUnit} (hp : p.allowance ≤ 65535) : (writePolicyTable v p).allowance ≤ 65535 := by
  change written v 12 id p.allowance ≤ 65535
  unfold written
  split
  · next x hx => exact writePolicyArguments_allowance h hx
  · exact hp

end Sys2Proof.Machine
end

section
/-! The work at a slot, the Record Store's and the Condition Monitor's steps keep every range (O53). -/

namespace Sys2Proof.Machine

/-- Every setting, counter and metering value of the part lies in its range: what O53 keeps beside the capacities. -/
structure RangesWf (s : State) : Prop where
  lanes : LanesBound s.lanes
  monitor : MonitorWf s.monitor
  allowance : s.policy.allowance ≤ 65535
  faultMask : s.agent.faultMask &&& ~~~maskableBits = 0
  sticky : s.agent.sticky &&& ~~~0x00FF07FF#32 = 0
  slots : ∀ n : Slot, SlotBound (s.slot n)

theorem rangesWf_iff (s : State) :
    RangesWf s ↔ SettingsWf s ∧ (∀ n : Slot, MeterWf (s.slot n)) ∧ ∀ l : Lane, LaneCountersWf s.lanes.counters[l] := by
  constructor
  · intro h
    exact ⟨⟨h.lanes.entries, fun n => (h.slots n).config, h.monitor, h.allowance, h.faultMask, h.sticky⟩,
      fun n => (h.slots n).meter, h.lanes.counters⟩
  · rintro ⟨hset, hmeter, hcount⟩
    exact ⟨⟨hset.lanes, hcount⟩, hset.monitor, hset.allowance, hset.faultMask, hset.sticky,
      fun n => ⟨hmeter n, hset.slots n⟩⟩

/-! ### One block at a time -/

/-- What the ranges are read from did not move. -/
theorem RangesWf.congr {s t : State} (h : RangesWf s) (hl : t.lanes = s.lanes) (hm : t.monitor = s.monitor)
    (hp : t.policy.allowance = s.policy.allowance) (hf : t.agent.faultMask = s.agent.faultMask)
    (hk : t.agent.sticky = s.agent.sticky) (hs : t.slots = s.slots) : RangesWf t :=
  ⟨hl ▸ h.lanes, hm ▸ h.monitor, hp ▸ h.allowance, hf ▸ h.faultMask, hk ▸ h.sticky,
    fun n => by rw [State.slot_congr hs n]; exact h.slots n⟩

/-- Sticky conditions joined to those that stand. -/
theorem stickyBits_or {v w : Word32} (hv : v &&& ~~~0x00FF07FF#32 = 0) (hw : w &&& ~~~0x00FF07FF#32 = 0) :
    (v ||| w) &&& ~~~0x00FF07FF#32 = 0 := by
  rw [BitVec.and_comm, BitVec.and_or_distrib_left, BitVec.and_comm, hv, BitVec.and_comm, hw]
  rfl

/-- A condition that an event raises has its bit among the sticky ones (R189). -/
def Condition.Sticks (c : Condition) : Prop := c.mask &&& ~~~0x00FF07FF#32 = 0

theorem sticks_overtemp (x : ThermalInput) : (Condition.overtemp x).Sticks := by
  have h : ∀ y : ThermalInput, (Condition.overtemp y).mask &&& ~~~0x00FF07FF#32 = 0 := by decide
  exact h x

theorem RangesWf.withSticky {s : State} (h : RangesWf s) {w : Word32} (hw : w &&& ~~~0x00FF07FF#32 = 0) :
    RangesWf { s with agent := { s.agent with sticky := s.agent.sticky ||| w } } :=
  ⟨h.lanes, h.monitor, h.allowance, h.faultMask, stickyBits_or h.sticky hw, h.slots⟩

theorem RangesWf.raise {s : State} (h : RangesWf s) {c : Condition} (hc : c.Sticks) : RangesWf (s.raise c) := by
  rcases s.raise_cases c with ⟨-, he⟩ | ⟨-, he⟩ <;> rw [he]
  · exact h
  · exact h.withSticky hc

theorem RangesWf.setSlot {s : State} (h : RangesWf s) (n : Slot) {c : SlotContext} (hc : SlotBound c) :
    RangesWf (s.setSlot n c) :=
  ⟨h.lanes, h.monitor, h.allowance, h.faultMask, h.sticky, fun m => by
    rw [State.slot_setSlot]
    split
    · exact hc
    · exact h.slots m⟩

theorem RangesWf.modSlot {s : State} (h : RangesWf s) (n : Slot) {f : SlotContext → SlotContext}
    (hf : SlotBound (s.slot n) → SlotBound (f (s.slot n))) : RangesWf (s.modSlot n f) := h.setSlot n (hf (h.slots n))

/-- A change of a slot that leaves its record, its counts and its configuration. -/
theorem RangesWf.modQuiet {s : State} (h : RangesWf s) (n : Slot) {f : SlotContext → SlotContext}
    (hr : (f (s.slot n)).record = (s.slot n).record) (hs : SameCounts (s.slot n) (f (s.slot n))) : RangesWf (s.modSlot n f) :=
  h.modSlot n fun hc => hc.congr hr hs

/-- A change of a slot's record alone. -/
theorem RangesWf.modRecord {s : State} (h : RangesWf s) (n : Slot) {r : SlotContext → BindingRecord}
    (hr : RecordBound (s.slot n).record → RecordBound (r (s.slot n))) :
    RangesWf (s.modSlot n fun c => { c with record := r c }) :=
  h.modSlot n fun hc => hc.of_record (hr hc.record) ⟨rfl, rfl, rfl, rfl, rfl, rfl⟩

theorem RangesWf.mapSlots {s : State} (h : RangesWf s) {f : SlotContext → SlotContext}
    (hf : ∀ c, SlotBound c → SlotBound (f c)) : RangesWf (s.mapSlots f) :=
  ⟨h.lanes, h.monitor, h.allowance, h.faultMask, h.sticky, fun n => by
    rw [State.slot_mapSlots]; exact hf _ (h.slots n)⟩

theorem RangesWf.withMonitor {s : State} (h : RangesWf s) {m : Monitor} (hm : MonitorWf m) : RangesWf { s with monitor := m } :=
  ⟨h.lanes, hm, h.allowance, h.faultMask, h.sticky, h.slots⟩

theorem RangesWf.modCounters {s : State} (h : RangesWf s) (l : Lane) {f : LaneCounters → LaneCounters}
    (hf : LaneCountersWf s.lanes.counters[l] → LaneCountersWf (f s.lanes.counters[l])) : RangesWf (s.modCounters l f) :=
  ⟨h.lanes.setCounters l (hf (h.lanes.counters l)), h.monitor, h.allowance, h.faultMask, h.sticky, h.slots⟩

theorem RangesWf.overSlots {s : State} (h : RangesWf s) {f : Slot → State → State} (hf : ∀ n t, RangesWf t → RangesWf (f n t)) :
    RangesWf (overSlots f s) := overSlots_keeps (P := RangesWf) hf s h

/-! ### The Record Store and the working copies -/

theorem RangesWf.requestWrite {s : State} (h : RangesWf s) (w : Write) : RangesWf (requestWrite w s).2 := by
  rcases requestWrite_cases w s with ⟨q, -, he⟩ | ⟨-, he⟩ <;> rw [he]
  · exact h.congr rfl rfl rfl rfl rfl rfl
  · exact h.raise rfl

theorem RangesWf.commit {s : State} (h : RangesWf s) (w : Write) : RangesWf (commit w s) := h.requestWrite w

theorem RangesWf.withRefill {s : State} (h : RangesWf s) (r : RefillMonitor) : RangesWf { s with refill := r } :=
  h.congr rfl rfl rfl rfl rfl rfl

theorem RangesWf.removeRetired {s : State} (h : RangesWf s) (e : RetiredEntry) : RangesWf (removeRetired e s) :=
  (h.withRefill _).commit _

theorem RangesWf.writeCheckpoint {s : State} (h : RangesWf s) (n : Slot) : RangesWf (writeCheckpoint n s) := by
  unfold Machine.writeCheckpoint
  split
  · exact (h.withRefill _).commit _
  · exact h

theorem RangesWf.judgeRetirement {s : State} (h : RangesWf s) (n : Slot) : RangesWf (judgeRetirement n s) := by
  unfold Machine.judgeRetirement
  dsimp only
  split
  · exact (h.withRefill _).commit _
  · exact h

theorem RangesWf.endBinding {s : State} (h : RangesWf s) (n : Slot) : RangesWf (endBinding n s) := by
  unfold Machine.endBinding
  split
  · exact (h.writeCheckpoint n).judgeRetirement n
  · exact h

/-! ### Operations -/

theorem RangesWf.startAttempt {s : State} (h : RangesWf s) (n : Slot) (k : Nat) : RangesWf (startAttempt n k s) := by
  unfold Machine.startAttempt
  extract_lets c nonce
  split
  · exact h
  · extract_lets target attempt op' s'
    have h' : RangesWf s' := h.setSlot n ((h.slots n).congr rfl ⟨rfl, rfl, rfl, rfl, rfl, rfl⟩)
    split
    · exact h'.congr rfl rfl rfl rfl rfl rfl
    · exact h'

theorem RangesWf.requestBus {s : State} (h : RangesWf s) (n : Slot) : RangesWf (requestBus n s) := by
  unfold Machine.requestBus
  split
  · exact h.startAttempt n 1
  · exact h
  · exact h.modQuiet n rfl ⟨rfl, rfl, rfl, rfl, rfl, rfl⟩

theorem RangesWf.finishOp {s : State} (h : RangesWf s) (n : Slot) (r : OpResult) (why : Option FailureReason) (e : Byte)
    (a : Word16) : RangesWf (finishOp n r why e a s) :=
  h.modSlot n fun hc => (SlotBound.congr (d := { s.slot n with current := none }) hc rfl
    ⟨rfl, rfl, rfl, rfl, rfl, rfl⟩).mergeStatus _ _ _ _

theorem RangesWf.setBinding {s : State} (h : RangesWf s) (n : Slot) (b : BindingState) (why : Option FailureReason) :
    RangesWf (setBinding n b why s) := h.modSlot n fun hc => hc.enterState _ b why

theorem RangesWf.finishRelease {s : State} (h : RangesWf s) (n : Slot) (a : Word16) : RangesWf (finishRelease n a s) :=
  (((h.endBinding n).modSlot n fun hc => hc.closeRecord.supplyOff).setBinding n .released none).finishOp n .released none 0 a

theorem RangesWf.beginOp {s : State} (h : RangesWf s) (n : Slot) (e : QueueEntry) : RangesWf (beginOp n e s) := by
  unfold Machine.beginOp
  extract_lets op s1 s2
  have h1 : RangesWf s1 := h.modQuiet n rfl ⟨rfl, rfl, rfl, rfl, rfl, rfl⟩
  split
  · split
    · exact (h1.modSlot n fun hc => hc.replaceBinding).requestBus n
    · have h2 : RangesWf s2 := h1.modRecord n fun hr =>
        ⟨hr.residue, hr.metered, hr.unverifiedUnits, hr.flaggedUnits, Nat.zero_le _, hr.evidence⟩
      split
      · exact h2.requestBus n
      · exact h2.finishOp n _ _ _ _
    · exact h1.requestBus n
    · split
      · exact h1.requestBus n
      · exact h1.finishRelease n _
  · exact h1.finishOp n _ _ _ _

theorem RangesWf.runQueue {s : State} (h : RangesWf s) (k : Nat) (n : Slot) : RangesWf (runQueue k n s) := by
  induction k generalizing s with
  | zero => exact h
  | succ k ih =>
    unfold Machine.runQueue
    split
    · exact ih ((h.modQuiet n rfl ⟨rfl, rfl, rfl, rfl, rfl, rfl⟩).beginOp n _)
    · exact h

theorem RangesWf.pump {s : State} (h : RangesWf s) (n : Slot) : RangesWf (pump n s) := h.runQueue _ n

theorem RangesWf.joinOp {s : State} (h : RangesWf s) (n : Slot) (k : OpKind) (o : Origin) : RangesWf (joinOp n k o s) :=
  (h.modQuiet n rfl ⟨rfl, rfl, rfl, rfl, rfl, rfl⟩).pump n

theorem RangesWf.askAuto {s : State} (h : RangesWf s) (n : Slot) (k : OpKind) : RangesWf (askAuto n k s) := by
  unfold Machine.askAuto
  split
  · exact h.joinOp n k .auto
  · exact h

theorem RangesWf.endOp {s : State} (h : RangesWf s) (n : Slot) (r : OpResult) (why : Option FailureReason) (e : Byte)
    (a : Word16) : RangesWf (endOp n r why e a s) := (h.finishOp n r why e a).pump n

theorem RangesWf.bindAuto {s : State} (h : RangesWf s) (n : Slot) : RangesWf (bindAuto n s) :=
  (h.modSlot n fun hc => hc.beginBinding).askAuto n .bind

theorem RangesWf.failBinding {s : State} (h : RangesWf s) (n : Slot) (why : FailureReason) (al : Alert) :
    RangesWf (failBinding n why al s) := (h.setBinding n .failed _).endOp n .failed _ 0 _

/-! ### What a response does -/

theorem RangesWf.goOnToChallenge {s : State} (h : RangesWf s) (n : Slot) : RangesWf (goOnToChallenge n s) := by
  unfold Machine.goOnToChallenge
  split
  · exact h.endOp n _ _ _ _
  · exact (h.modQuiet n rfl ⟨rfl, rfl, rfl, rfl, rfl, rfl⟩).requestBus n

theorem RangesWf.judgeIdentity {s : State} (h : RangesWf s) (n : Slot) (msg : List Byte) : RangesWf (judgeIdentity n msg s) := by
  unfold Machine.judgeIdentity
  extract_lets i s1
  have h1 : RangesWf s1 := h.modRecord n fun hr =>
    ⟨hr.residue, hr.metered, hr.unverifiedUnits, hr.flaggedUnits, hr.sinceVerify, hr.evidence⟩
  split
  · exact h.failBinding n _ _
  · split
    · exact h1.failBinding n _ _
    · split
      · exact h1.failBinding n _ _
      · split
        · exact (h1.setBinding n _ _).goOnToChallenge n
        · exact (h1.setBinding n _ _).endOp n _ _ _ _

theorem RangesWf.evaluateBind {s : State} (h : RangesWf s) (n : Slot) (used g : Nat) : RangesWf (evaluateBind n used g s).1 := by
  unfold Machine.evaluateBind
  split
  · exact h
  · extract_lets b finding cfg r0 r p s1
    have hr0 : RecordBound r0 := (h.slots n).record
    have hr : RecordBound r := ⟨hr0.residue, hr0.metered, hr0.unverifiedUnits, hr0.flaggedUnits, hr0.sinceVerify, hr0.evidence⟩
    have hp : RecordBound p.1 :=
      RecordBound.evidenceIf (RecordBound.evidenceIf hr _ fun r hr => hr.countRaw cfg .regression) _
        fun r hr => hr.setRaw cfg .retiredMatch (by decide)
    have h1 : RangesWf s1 := h.modRecord n fun _ => hp
    clear_value s1 p finding
    cases finding with
    | authorisedRefill e => exact h1.removeRetired e
    | notListed | refilled | emptyCartridge => exact h1

theorem RangesWf.becomeVerified {s : State} (h : RangesWf s) (n : Slot) (e : SlotEvent) (j : Bool) (a : Word16) :
    RangesWf (becomeVerified n e j a s) := by
  have h1 := h.setBinding n .verified none
  exact (h1.modRecord n fun hr => RecordBound.evidenceIf hr _ fun r hr => hr.judgeSilently _).endOp n _ _ _ _

theorem RangesWf.judgeChallenge {s : State} (h : RangesWf s) (n : Slot) (a : Attempt) (msg : List Byte) :
    RangesWf (judgeChallenge n a msg s) := by
  unfold Machine.judgeChallenge
  dsimp only
  split
  · split
    · exact (h.evaluateBind n _ _).becomeVerified n _ _ _
    · exact (h.modRecord n fun hr => hr.evaluateVerify _ _ _).becomeVerified n _ _ _
  · exact h.failBinding n _ _

theorem RangesWf.judgeAdvance {s : State} (h : RangesWf s) (n : Slot) (msg : List Byte) : RangesWf (judgeAdvance n msg s) := by
  unfold Machine.judgeAdvance
  extract_lets c
  split
  · exact h
  · extract_lets e s1 s2 p s3
    have h1 : RangesWf s1 := h.modRecord n fun hr => hr.evaluateAdvance _ _ _
    have h2 : RangesWf s2 := by
      unfold s2
      split
      · exact h1.writeCheckpoint n
      · exact h1
    have h3 : RangesWf s3 := h2.modRecord n fun hr => RecordBound.evidenceIf hr _ fun r hr => hr.judgeSilently _
    split
    · split
      · exact h3.endOp n _ _ _ _
      · exact (h3.finishRelease n _).pump n
    · exact h3.endOp n _ _ _ _

theorem RangesWf.linkOutcome {s : State} (h : RangesWf s) (n : Slot) : RangesWf (linkOutcome n s) :=
  ((h.modQuiet n rfl ⟨rfl, rfl, rfl, rfl, rfl, rfl⟩).setBinding n .linkLost none).finishOp n _ _ _ _

theorem RangesWf.failAttempt {s : State} (h : RangesWf s) (n : Slot) (a : Attempt) : RangesWf (failAttempt n a s) := by
  have hspend : RangesWf (spendNonce a s) := h.congr rfl rfl rfl rfl rfl rfl
  unfold Machine.failAttempt
  extract_lets s1
  have h1 : RangesWf s1 := hspend.modSlot n fun hc => hc.countFailed.congr rfl ⟨rfl, rfl, rfl, rfl, rfl, rfl⟩
  split
  · exact h1.startAttempt n _
  · exact h1.linkOutcome n

theorem RangesWf.judgeResponse {s : State} (h : RangesWf s) (n : Slot) (a : Attempt) (op : CurrentOp) (msg : List Byte) :
    RangesWf (judgeResponse n a op msg s) := by
  have h1 : RangesWf (s.modSlot n endAttempt) := h.modQuiet n rfl ⟨rfl, rfl, rfl, rfl, rfl, rfl⟩
  unfold Machine.judgeResponse handResponse
  split
  · split
    · exact h1.judgeIdentity n msg
    · exact h1.judgeChallenge n a msg
    · exact h1.judgeAdvance n msg
  · exact h.failAttempt n a

/-! ### Seats, removal and the key -/

theorem RangesWf.endByEmptySeat {s : State} (h : RangesWf s) (n : Slot) : RangesWf (endByEmptySeat n s) := by
  unfold Machine.endByEmptySeat
  extract_lets s1 s2
  have h1 : RangesWf s1 := h.modSlot n fun hc => hc.mergeStatus _ _ _ _
  have h2 : RangesWf s2 := by
    unfold s2
    split
    · exact h1
    · exact h1.endBinding n
  exact h2.setBinding n .noCartridge none

theorem RangesWf.removeCartridge {s : State} (h : RangesWf s) (n : Slot) : RangesWf (removeCartridge n s) := by
  unfold Machine.removeCartridge
  extract_lets s1 s2
  have h1 : RangesWf s1 := h.modSlot n fun hc =>
    (SlotBound.congr (d := { supplyOff (s.slot n) with attempt := none, current := none, queue := [] }) hc rfl
      ⟨rfl, rfl, rfl, rfl, rfl, rfl⟩).mergeStatus _ _ _ _
  have h2 : RangesWf s2 := by
    unfold s2
    split
    · exact h1
    · exact h1.endBinding n
  exact h2.setBinding n .noCartridge none

theorem RangesWf.askUnverified {s : State} (h : RangesWf s) (n : Slot) : RangesWf (askUnverified n s) := by
  unfold Machine.askUnverified
  split
  · exact h.askAuto n .verify
  · exact h

theorem RangesWf.keyCommitted {s : State} (h : RangesWf s) (root : RootKey) : RangesWf (keyCommitted root s) := by
  have h1 : RangesWf { s with key := .present root } := h.congr rfl rfl rfl rfl rfl rfl
  exact h1.overSlots fun n _ ht => ht.askUnverified n

theorem RangesWf.bindSeated {s : State} (h : RangesWf s) (n : Slot) : RangesWf (bindSeated n s) := by
  unfold Machine.bindSeated
  split
  · exact h.bindAuto n
  · exact h

theorem RangesWf.reprove {s : State} (h : RangesWf s) (n : Slot) : RangesWf (reprove n s) := by
  have h1 := h.modRecord n (r := fun c => { c.record with unverifiedUnits := 0 }) fun hr =>
    ⟨hr.residue, hr.metered, Nat.zero_le _, hr.flaggedUnits, hr.sinceVerify, hr.evidence⟩
  exact (h1.setBinding n .pendingAuth none).askAuto n .verify

theorem RangesWf.releaseSlot {s : State} (h : RangesWf s) (n : Slot) : RangesWf (releaseSlot n s) := by
  unfold Machine.releaseSlot
  split
  · exact h
  · exact h.endByEmptySeat n
  · exact h.bindAuto n
  · exact h.askAuto n .bind
  · exact h.reprove n
  · exact h.reprove n
  · split
    · exact h.reprove n
    · exact (h.setBinding n .pendingId none).askAuto n .bind
  all_goals exact h

/-! ### Drop reports -/

theorem RangesWf.askIfDue {s : State} (h : RangesWf s) (due : SlotContext → Bool) (k : OpKind) (n : Slot) :
    RangesWf (askIfDue due k n s) := by
  unfold Machine.askIfDue
  split
  · exact h.askAuto n k
  · exact h

theorem RangesWf.creditBinding {s : State} (h : RangesWf s) (n : Slot) (marked : Bool) (volume : Nat) :
    RangesWf (creditBinding n marked volume s) :=
  ((h.modSlot n fun hc => hc.creditSlot _ s marked volume).askIfDue _ _ n).askIfDue _ _ n

/-- A credit to the orphan accumulator keeps its counts in range (R55). -/
theorem SlotBound.withOrphan {c : SlotContext} (h : SlotBound c) {residue count orphaned : Nat} (hr : residue < Config.qIU)
    (hc : count ≤ Config.max32) (ho : orphaned ≤ Config.max32) :
    SlotBound { c with orphanResidue := residue, orphanCount := count, swathOrphaned := orphaned } where
  meter :=
    ⟨h.meter.residue, hr, h.meter.metered, h.meter.unverifiedUnits, h.meter.flaggedUnits, h.meter.sinceVerify, hc,
      h.meter.swathCredited, ho, h.meter.failedAttempts, h.meter.evidence⟩
  config := h.config

theorem RangesWf.creditOrphan {s : State} (h : RangesWf s) (n : Slot) (volume : Nat) : RangesWf (creditOrphan n volume s) := by
  have hq : 0 < Config.qIU := by decide
  refine h.modSlot n fun hc => ?_
  exact hc.withOrphan (Nat.mod_lt _ hq) (satAdd32_le _ _) (swathSum_le hc.meter.swathOrphaned _)

theorem RangesWf.handleReport {s : State} (h : RangesWf s) (r : DropReport) : RangesWf (handleReport r s) := by
  unfold Machine.handleReport
  split
  · exact h.modCounters _ fun hc => laneCountersWf_unattributed hc _
  · split
    · exact h.creditOrphan _ _
    · exact h.creditOrphan _ _
    all_goals exact h.creditBinding _ _ _

theorem RangesWf.countFrame {s : State} (h : RangesWf s) (l : Lane) (n1 n2 n3 : Nat) (marked : Bool) :
    RangesWf (countFrame l n1 n2 n3 marked s) :=
  (h.modCounters l fun hc => laneCountersWf_countDrops hc n1 n2 n3 marked).handleReport _

/-! ### Swaths and the wait test -/

theorem RangesWf.zeroSums {s : State} (h : RangesWf s) :
    RangesWf (s.mapSlots fun c => { c with swathCredited := 0, swathOrphaned := 0 }) :=
  h.mapSlots fun _ hc => hc.withSums (Nat.zero_le _) (Nat.zero_le _)

theorem RangesWf.openSwath {s : State} (h : RangesWf s) : RangesWf (openSwath s) := by
  have h1 : RangesWf ({ s.mapSlots fun c => { c with swathCredited := 0, swathOrphaned := 0 } with
      monitor := s.monitor.swathOpens }) := h.zeroSums.withMonitor h.monitor.swathOpens
  exact h1.congr rfl rfl rfl rfl rfl rfl

theorem RangesWf.waitTest {s : State} (h : RangesWf s) : RangesWf (waitTest s) := by
  rcases waitTest_spec s with ⟨he, -⟩ | ⟨-, -, -, he⟩ | ⟨-, -, -, he⟩ <;> rw [he]
  · exact h
  · exact h.openSwath
  · exact h.congr rfl rfl rfl rfl rfl rfl

end Sys2Proof.Machine
end

section
/-! Every command keeps the capacities of the queues and the ranges of settings, counters and metering (O53). -/

namespace Sys2Proof.Machine

/-! ### The handlers of the requests -/

theorem RangesWf.handleWriteSlotConfig {s : State} (h : RangesWf s) (args : List Byte) :
    RangesWf (handleWriteSlotConfig args s).state := by
  unfold Machine.handleWriteSlotConfig
  split
  · exact h
  · next n v _ =>
    extract_lets cfg s1 s2
    have h1 : RangesWf s1 := h.modSlot n fun hc =>
      { meter :=
          ⟨hc.meter.residue, hc.meter.orphanResidue, hc.meter.metered, hc.meter.unverifiedUnits, hc.meter.flaggedUnits,
            hc.meter.sinceVerify, hc.meter.orphanCount, hc.meter.swathCredited, hc.meter.swathOrphaned,
            hc.meter.failedAttempts, hc.meter.evidence⟩
        config := slotConfigWf_writeSlotConfig hc.config v }
    have h2 : RangesWf s2 := by
      unfold s2
      split
      · refine h1.modSlot n fun hc => ?_
        unfold restartIdle
        split
        · exact hc.congr rfl ⟨rfl, rfl, rfl, rfl, rfl, rfl⟩
        · exact hc
      · exact h1
    refine RangesWf.modSlot (f := fun c =>
      mergeStatus _ none 0 _ { c with record := _ }) h2 n fun hc => ?_
    have hr := RecordBound.evidenceIf (p := ((s2.slot n).record, 0)) hc.record
      (marksMove (s.slot n).config cfg && decide ((s2.slot n).bindingState ≠ .released))
      (f := judgeSilently (s2.slot n).config) fun r hr => hr.judgeSilently _
    exact (hc.of_record (d := { s2.slot n with record := _ }) hr ⟨rfl, rfl, rfl, rfl, rfl, rfl⟩).mergeStatus _ _ _ _

theorem RangesWf.haltSlot {s : State} (h : RangesWf s) (n : Slot) : RangesWf (haltSlot n s).state := by
  unfold Machine.haltSlot
  extract_lets removed s1
  have h1 : RangesWf s1 := h.modQuiet n rfl ⟨rfl, rfl, rfl, rfl, rfl, rfl⟩
  have hh : ∀ pending, RangesWf (s1.modSlot n (haltCurrent pending)) := fun pending =>
    h1.modQuiet n rfl ⟨rfl, rfl, rfl, rfl, rfl, rfl⟩
  split
  · exact (h1.modSlot n fun hc => hc.mergeStatus _ _ _ _).waitTest
  · split
    · exact ((hh false).endOp n _ _ _ _).waitTest
    · exact (hh true).waitTest

theorem RangesWf.writeLimits {s : State} (h : RangesWf s) (pairs : List (ThermalInput × Nat)) :
    RangesWf (pairs.foldl writeLimit s) := by
  induction pairs generalizing s with
  | nil => exact h
  | cons p pairs ih =>
    refine ih ?_
    have h1 : RangesWf { s with monitor := { s.monitor with limits := s.monitor.limits.set p.1 (clamp 1 4096 p.2) } } :=
      h.withMonitor (h.monitor.withLimit p.1 p.2)
    unfold writeLimit checkLimit
    split
    · exact h1.raise (sticks_overtemp p.1)
    · exact h1

theorem RangesWf.handleWriteLimits {s : State} (h : RangesWf s) (args : List Byte) :
    RangesWf (handleWriteLimits args s).state := by
  unfold Machine.handleWriteLimits
  split
  · exact h
  · next w hw =>
    have ht : RangesWf (writeThresholds w.thresholds s) := by
      unfold writeThresholds
      split
      · next t hwt => exact h.withMonitor (h.monitor.withThresholds (limitsArguments_legal hw hwt))
      · exact h
    split
    · exact ht
    · exact (ht.writeLimits _).waitTest

theorem RangesWf.handleProvisionKey {s : State} (h : RangesWf s) (args : List Byte) :
    RangesWf (handleProvisionKey args s).state := by
  unfold Machine.handleProvisionKey
  split
  · exact h
  · next root _ =>
    split
    · exact h
    · exact h
    · have hr := h.requestWrite (.key root)
      dsimp only
      split
      · exact hr.congr rfl rfl rfl rfl rfl rfl
      · exact hr

theorem RangesWf.handleClearConditions {s : State} (h : RangesWf s) (args : List Byte) :
    RangesWf (handleClearConditions args s).state := by
  unfold Machine.handleClearConditions
  split
  · exact h
  · refine ⟨h.lanes, h.monitor, h.allowance, h.faultMask, ?_, h.slots⟩
    have hsticky := h.sticky
    change s.agent.sticky &&& _ &&& _ = 0
    rw [BitVec.and_assoc, BitVec.and_comm _ (~~~0x00FF07FF#32), ← BitVec.and_assoc, hsticky]
    exact BitVec.zero_and

theorem RangesWf.handleWriteFaultMask {s : State} (h : RangesWf s) (args : List Byte) :
    RangesWf (handleWriteFaultMask args s).state := by
  unfold Machine.handleWriteFaultMask
  split
  · exact h
  · refine ⟨h.lanes, h.monitor, h.allowance, ?_, h.sticky, h.slots⟩
    change _ &&& maskableBits &&& ~~~maskableBits = 0
    rw [BitVec.and_assoc, BitVec.and_not_self]
    exact BitVec.and_zero

/-- Whatever a request's handler does keeps the ranges. -/
theorem rangesWf_of_requestOf {c : Instr} {row : FrameRow} {handle : List Byte → State → Answer}
    (hc : requestOf c = some (row, handle)) {s : State} (h : RangesWf s) (args : List Byte) : RangesWf (handle args s).state := by
  cases c <;> cases hc
  case unknownRequest => exact h
  case readSummary => unfold handleReadSummary; split <;> exact h
  case readSlot => unfold handleReadSlot; split <;> exact h
  case collectStatus =>
    unfold handleCollectStatus
    split
    · exact h
    · next n _ => exact h.modQuiet n (f := fun c => { c with status := none }) rfl ⟨rfl, rfl, rfl, rfl, rfl, rfl⟩
  case startOperation =>
    unfold handleStartOperation
    split
    · exact h
    · split
      · exact h
      · split
        · exact (h.joinOp _ _ _).waitTest
        · exact h
  case haltSlot =>
    unfold handleHaltSlot
    split
    · exact h
    · exact h.haltSlot _
  case writeSlotConfig => exact h.handleWriteSlotConfig args
  case readSlotConfig => unfold handleReadSlotConfig; split <;> exact h
  case writeLane =>
    unfold handleWriteLane
    split
    · exact h
    · next l v _ =>
      split
      · exact h
      · have hl : RangesWf (s.setLane l (writeLaneEntry v (s.laneEntry l))) :=
          ⟨h.lanes.setEntry l (laneEntryWf_writeLaneEntry (h.lanes.entries l) v), h.monitor, h.allowance, h.faultMask,
            h.sticky, h.slots⟩
        exact hl.waitTest
  case readLane => unfold handleReadLane; split <;> exact h
  case readLaneCounters =>
    unfold handleReadLaneCounters
    split
    · exact h
    · next l clear _ =>
      cases clear
      · exact h
      · exact h.modCounters l (f := fun _ => .zero) fun _ => laneCountersWf_zero
  case writePolicy =>
    unfold handleWritePolicy
    split
    · exact h
    · next v hv =>
      split
      · exact h
      · have hp : RangesWf { s with policy := writePolicyTable v s.policy } :=
          ⟨h.lanes, h.monitor, allowance_writePolicyTable hv h.allowance, h.faultMask, h.sticky, h.slots⟩
        exact hp.waitTest
  case readPolicy => unfold handleReadPolicy; split <;> exact h
  case lockPolicy =>
    unfold handleLockPolicy
    split
    · exact h.congr rfl rfl rfl rfl rfl rfl
    · exact h
  case writeSequence =>
    unfold handleWriteSequence
    split
    · exact h
    · next q hq =>
      split
      · exact h.withMonitor (h.monitor.withSequence (sequenceArguments_length hq))
      · exact h
  case setSampleMode =>
    unfold handleSetSampleMode
    split
    · exact h
    · exact h.withMonitor (h.monitor.setMode _)
  case sampleNext =>
    have ht : RangesWf { s with monitor := s.monitor.pacedTrigger } := h.withMonitor h.monitor.pacedTrigger
    unfold handleSampleNext
    split
    · split
      · dsimp only
        split <;> exact ht
      · exact h
    · exact h
  case sampleInput =>
    unfold handleSampleInput
    split
    · exact h
    · split
      · exact h.withMonitor h.monitor.skip
      · exact h.withMonitor (h.monitor.withConversion _ _)
  case readSamples =>
    unfold handleReadSamples
    split
    · exact h
    · next clear _ =>
      cases clear
      · exact h
      · exact h.withMonitor ⟨h.monitor.depth, h.monitor.position, h.monitor.thresholds, h.monitor.limits, Nat.zero_le _⟩
  case writeLimits => exact h.handleWriteLimits args
  case readRetired => unfold handleReadRetired; split <;> exact h
  case forgetRetired =>
    unfold handleForgetRetired
    split
    · exact h
    · split
      · exact h
      · split
        · exact h
        · exact h.removeRetired _
  case provisionKey => exact h.handleProvisionKey args
  case resumeStream =>
    have hr : RangesWf { s with port := { s.port with stream := .resumePending } } := h.congr rfl rfl rfl rfl rfl rfl
    unfold handleResumeStream
    split
    · split
      · exact hr.waitTest
      · exact h
    · exact h
  case clearConditions => exact h.handleClearConditions args
  case writeFaultMask => exact h.handleWriteFaultMask args

/-! ### The events -/

theorem RangesWf.raiseRestoreInvalid {s : State} (h : RangesWf s) : RangesWf (raiseRestoreInvalid s) := by
  unfold Machine.raiseRestoreInvalid
  split
  · exact h.raise rfl
  · exact h

theorem RangesWf.endRestore {s : State} (h : RangesWf s) : RangesWf (endRestore s) := by
  have h1 : RangesWf (handResults s) := h.congr rfl rfl rfl rfl rfl rfl
  unfold Machine.endRestore
  split
  · dsimp only
    split
    · exact h1.congr rfl rfl rfl rfl rfl rfl
    · exact h1.raiseRestoreInvalid.overSlots fun n _ ht => ht.bindSeated n
  · exact h

theorem RangesWf.takeHeld {s : State} (h : RangesWf s) : RangesWf (takeHeldRestore (takeHeldFailure (takeHeldCommit s))) := by
  have h1 : RangesWf (takeHeldCommit s) := by
    unfold takeHeldCommit
    split
    · split
      · next root _ =>
        have hk := h.keyCommitted root
        generalize Machine.keyCommitted root s = t at hk ⊢
        exact hk.congr rfl rfl rfl rfl rfl rfl
      all_goals exact h.congr rfl rfl rfl rfl rfl rfl
    · exact h
  have h2 : RangesWf (takeHeldFailure (takeHeldCommit s)) := by
    generalize takeHeldCommit s = t at h1 ⊢
    have ht : RangesWf { t with store := { t.store with heldFailure := false } } := h1.congr rfl rfl rfl rfl rfl rfl
    unfold takeHeldFailure
    split
    · exact ht.raise rfl
    · exact h1
  generalize takeHeldFailure (takeHeldCommit s) = t at h2 ⊢
  unfold takeHeldRestore
  split
  · exact h2.raiseRestoreInvalid.congr rfl rfl rfl rfl rfl rfl
  · exact h2

theorem RangesWf.releaseReset {s : State} (h : RangesWf s) : RangesWf (releaseReset s) := by
  unfold Machine.releaseReset
  split
  · extract_lets src s1
    have hsrc : RangesWf src := h.mapSlots fun c hc => hc.congr rfl ⟨rfl, rfl, rfl, rfl, rfl, rfl⟩
    have h1 : RangesWf s1 := hsrc.congr rfl rfl rfl rfl rfl rfl
    refine RangesWf.takeHeld ?_
    split
    · exact h1
    · exact h1.overSlots fun n _ ht => ht.releaseSlot n
  · exact h

theorem RangesWf.expireDebounce {s : State} (h : RangesWf s) (n : Slot) : RangesWf (expireDebounce n s) := by
  have h1 : RangesWf (s.modSlot n fun c => { c with debounce := none, seat := c.rawSeat }) :=
    h.modQuiet n rfl ⟨rfl, rfl, rfl, rfl, rfl, rfl⟩
  unfold Machine.expireDebounce seatEvent insertionEvent removalEvent
  dsimp only
  generalize (s.modSlot n fun c => { c with debounce := none, seat := c.rawSeat }) = t at h1 ⊢
  split
  · split
    · exact h1
    · split
      · exact h1
      · split
        · refine RangesWf.waitTest ?_
          split
          · exact h1.bindAuto n
          · exact h1
        · refine RangesWf.waitTest ?_
          split
          · exact h1
          · exact h1.removeCartridge n
  · exact h

theorem RangesWf.withStore {s : State} (h : RangesWf s) (st : RecordStore) : RangesWf { s with store := st } :=
  h.congr rfl rfl rfl rfl rfl rfl

theorem RangesWf.reportCommit {s : State} (h : RangesWf s) (w : Write) : RangesWf (reportCommit w s) := by
  unfold Machine.reportCommit
  split
  · split
    · exact h.congr rfl rfl rfl rfl rfl rfl
    · exact (h.keyCommitted _).waitTest
  all_goals exact h

theorem RangesWf.reportAbandoned {s : State} (h : RangesWf s) (w : Write) : RangesWf (reportAbandoned w s) := by
  unfold Machine.reportAbandoned
  split
  · exact h.congr rfl rfl rfl rfl rfl rfl
  all_goals exact h

theorem RangesWf.endProgram {s : State} (h : RangesWf s) (passes : Bool) : RangesWf (endProgram passes s) := by
  unfold Machine.endProgram
  split
  · exact h
  · split
    · exact ((h.withStore _).reportCommit _).withStore _
    · split
      · exact h.withStore _
      · exact (((h.withStore _).raise (c := .storeWriteFail) rfl).reportAbandoned _).withStore _

/-- Whatever an event does keeps the ranges. -/
theorem rangesWf_of_eventOf {c : Instr} {f : State → State} (hc : eventOf c = some f) {s : State} (h : RangesWf s) :
    RangesWf (f s) := by
  cases c <;> cases hc
  case endOfRestoring => exact h.endRestore
  case pinResetReleased => exact h.releaseReset
  case seatChange n level =>
    unfold changeSeat
    split
    · exact h
    · exact h.modQuiet n rfl ⟨rfl, rfl, rfl, rfl, rfl, rfl⟩
  case debounceExpiry n => exact h.expireDebounce n
  case settleTimerExpiry n =>
    unfold expireSettle
    dsimp only
    split
    · exact (h.modQuiet n rfl ⟨rfl, rfl, rfl, rfl, rfl, rfl⟩).startAttempt n 1
    · exact h
  case idleTimerExpiry n =>
    unfold expireIdle
    dsimp only
    split
    · exact h.modSlot n fun hc => hc.supplyOff
    · exact h
  case cartridgeResponse n response =>
    unfold receiveResponse
    split
    · split
      · exact (h.judgeResponse n _ _ _).waitTest
      · exact h
    · exact h
  case attemptTimeout n received =>
    unfold expireAttempt
    split
    · split
      · exact (h.failAttempt n _).waitTest
      · exact h
    · exact h
  case conversionComplete code =>
    unfold completeConversion
    split
    · exact h
    · next cv _ =>
      have h1 : RangesWf { s with monitor := s.monitor.complete cv code } := h.withMonitor (h.monitor.complete cv code)
      split
      · refine RangesWf.waitTest ?_
        unfold checkLimit
        split
        · exact h1.raise (sticks_overtemp _)
        · exact h1
      · exact h
  case programVerify passes => exact h.endProgram passes

end Sys2Proof.Machine
end

section
/-! The commands of the Swath Port and of power and reset keep the ranges, and every command keeps the capacities (O53). -/

namespace Sys2Proof.Machine

/-! ### Taken frames and the ranges -/

theorem sticks_of_check {c : Condition} (h : c = .frameGuard ∨ c = .frameLength ∨ c = .frameCrc) : c.Sticks := by
  rcases h with rfl | rfl | rfl <;> rfl

theorem RangesWf.withCondition {s : State} (h : RangesWf s) {c : Condition} (hc : c.Sticks) : RangesWf (s.withCondition c) :=
  h.withSticky hc

theorem RangesWf.freePlace {s : State} (h : RangesWf s) : RangesWf (freePlace s) := h.congr rfl rfl rfl rfl rfl rfl

theorem RangesWf.discarded {s : State} (h : RangesWf s) {c : Condition} (hc : c.Sticks) : RangesWf (s.discarded c) :=
  (h.withSticky hc).congr rfl rfl rfl rfl rfl rfl

theorem gapBits_sticks (expected : Option Byte) (seq : Byte) : gapBits expected seq &&& ~~~0x00FF07FF#32 = 0 := by
  unfold gapBits
  split <;> rfl

theorem RangesWf.tracked {s : State} (h : RangesWf s) (seq : Byte) : RangesWf (s.tracked seq) :=
  (h.withSticky (gapBits_sticks s.port.expected seq)).congr rfl rfl rfl rfl rfl rfl

theorem RangesWf.consumed {s : State} (h : RangesWf s) (seq : Byte) : RangesWf (s.consumed seq) := (h.tracked seq).freePlace

theorem RangesWf.forward {s : State} (h : RangesWf s) (bs : List Byte) : RangesWf (forward bs s) :=
  h.congr rfl rfl rfl rfl rfl rfl

theorem RangesWf.filterFire {s : State} (h : RangesWf s) (bs : List Byte) : RangesWf (filterFire bs s) := by
  unfold Machine.filterFire
  split
  · exact (h.countFrame _ _ _ _ _).forward bs
  · exact (h.countFrame _ _ _ _ _).forward bs
  · exact (h.countFrame _ _ _ _ _).forward bs
  · exact (h.modCounters _ laneCountersWf_countBlanked).forward _

theorem RangesWf.closeSwath {s : State} (h : RangesWf s) (unterminated : Bool) (closing : Byte) :
    RangesWf (closeSwath unterminated closing s) := by
  have hq : ∀ f, RangesWf (queueReport f s) := fun f => by
    rcases queueReport_cases f s with ⟨-, he⟩ | ⟨-, he⟩ <;> rw [he]
    · exact h.congr rfl rfl rfl rfl rfl rfl
    · refine RangesWf.raise (c := .reportOverrun) ?_ rfl
      exact h.congr rfl rfl rfl rfl rfl rfl
  exact (hq _).congr rfl rfl rfl rfl rfl rfl

theorem RangesWf.holdStream {s : State} (h : RangesWf s) : RangesWf (holdStream s) := by
  unfold Machine.holdStream
  extract_lets port policy s1
  have h1 : RangesWf s1 := h.congr rfl rfl rfl rfl rfl rfl
  split
  · exact h1.raise rfl
  · exact h1

theorem RangesWf.startSwath {s : State} (h : RangesWf s) (bs : List Byte) : RangesWf (startSwath bs s) := by
  rcases startSwath_cases bs s with ⟨-, he⟩ | ⟨-, he⟩ <;> rw [he]
  · exact h.openSwath.forward bs
  · exact h.holdStream

theorem RangesWf.beforeStart {s : State} (h : RangesWf s) (seq : Byte) : RangesWf (s.beforeStart seq) := by
  unfold State.beforeStart
  split
  · exact (h.tracked seq).closeSwath true seq
  · exact h.tracked seq

theorem RangesWf.handleStreamReset {s : State} (h : RangesWf s) (bs : List Byte) : RangesWf (handleStreamReset bs s) :=
  h.freePlace.zeroSums.congr rfl rfl rfl rfl rfl rfl

/-- Taking a frame keeps the ranges, if the handling of a good one does. -/
theorem RangesWf.takeFrame {s : State} (h : RangesWf s) {row : FrameRow} {handle : List Byte → State → State}
    (hh : ∀ bs, TakenNext bs s → RangesWf (handle bs s)) : RangesWf (takeFrame row handle s) := by
  rcases takeFrame_taken row handle s with he | ⟨bs, ht, -, ⟨c, hc, he⟩ | ⟨-, he⟩⟩ <;> rw [he]
  · exact h
  · exact h.discarded (sticks_of_check (failedCheck_spec hc))
  · exact hh bs ht

/-! ### Power and reset -/

theorem allowance_initial : PolicyUnit.initial.allowance ≤ 65535 := by decide

theorem agent_initial : Agent.initial.faultMask &&& ~~~maskableBits = 0 ∧ Agent.initial.sticky &&& ~~~0x00FF07FF#32 = 0 := by
  decide

theorem rangesWf_volatileReset (st : RecordStore) (s : State) : RangesWf (volatileReset st s) where
  lanes := lanesBound_initial
  monitor := monitorWf_initial
  allowance := allowance_initial
  faultMask := agent_initial.1
  sticky := agent_initial.2
  slots n := by
    have hs : (volatileReset st s).slot n = .initial (s.slot n).rawSeat := by simp [volatileReset, State.slot]
    rw [hs]
    exact slotBound_initial _

theorem RangesWf.assertReset {s : State} (h : RangesWf s) : RangesWf (assertReset s) := by
  unfold Machine.assertReset
  split
  · exact ⟨lanesBound_initial, monitorWf_initial, allowance_initial, agent_initial.1, agent_initial.2, fun n => by
      have hs := State.slot_mapSlots n Machine.assertSlot s
      exact hs ▸ (h.slots n).assertSlot⟩
  · exact h

/-- The commands of the Swath Port and of power and reset keep the ranges. -/
theorem rangesWf_of_portOf {c : Instr} {f : State → State} (hc : portOf c = some f) {s : State} (h : RangesWf s) :
    RangesWf (f s) := by
  cases c <;> cases hc
  case powerOn decayed => unfold applyPower; split; exacts [h, rangesWf_volatileReset _ s]
  case lossOfPower =>
    unfold losePower
    split
    · exact (rangesWf_volatileReset (cutProgram s.store) s).congr rfl rfl rfl rfl rfl rfl
    · exact h
  case pinResetAsserted => exact h.assertReset
  case frameArrivalBegins kind =>
    rcases beginArrival_cases kind s with he | he | ⟨-, -, he⟩ <;> rw [he]
    · exact h
    · exact h.raise rfl
    · exact h.congr rfl rfl rfl rfl rfl rfl
  case frameArrivalEnds rest =>
    rw [endArrival_eq]
    split
    · exact h.congr rfl rfl rfl rfl rfl rfl
    · exact h
  case unknownKindFrame => exact h.takeFrame fun _ _ => h.freePlace.raise rfl
  case fire =>
    refine h.takeFrame fun bs ht => ?_
    rw [handleFire_of_running ht.running]
    split
    · exact (h.tracked _).filterFire bs
    · exact (h.consumed _).withCondition rfl
  case spit =>
    refine h.takeFrame fun bs ht => ?_
    unfold handleSpit
    rw [sequenceCheck_of_released (released_of_running ht.running)]
    exact ((h.tracked _).countFrame _ _ _ _ _).forward bs
  case swathStart =>
    refine h.takeFrame fun bs ht => ?_
    rw [handleSwathStart_of_running ht.running]
    exact (h.beforeStart _).startSwath bs
  case swathEnd =>
    refine h.takeFrame fun bs ht => ?_
    rw [handleSwathEnd_of_running ht.running]
    split
    · exact ((h.tracked _).closeSwath _ _).forward bs
    · exact (h.consumed _).withCondition rfl
  case streamReset => exact h.takeFrame fun bs _ => h.handleStreamReset bs
  case heldSwathStartForwarded =>
    rcases forwardHeld_cases s with he | ⟨f, rest, -, -, -, -, -, he⟩ <;> rw [he]
    · exact h
    · exact h.congr rfl rfl rfl rfl rfl rfl
  case headTransferBegins ready =>
    obtain ⟨_, _, he⟩ := beginTransfer_frame ready s; rw [he]; exact h.congr rfl rfl rfl rfl rfl rfl
  case headTransferCompletes => obtain ⟨_, he⟩ := completeTransfer_frame s; rw [he]; exact h.congr rfl rfl rfl rfl rfl rfl
  case returnTransmissionBegins =>
    obtain ⟨_, _, he⟩ := beginTransmission_frame s; rw [he]; exact h.congr rfl rfl rfl rfl rfl rfl
  case returnTransmissionCompletes =>
    obtain ⟨_, he⟩ := completeTransmission_frame s; rw [he]; exact h.congr rfl rfl rfl rfl rfl rfl

/-- A taken request keeps the ranges, if its handler does. -/
theorem RangesWf.takeRequest {s : State} (h : RangesWf s) {row : FrameRow} {handle : List Byte → State → Answer}
    (hh : ∀ args t, RangesWf t → RangesWf (handle args t).state) : RangesWf (takeRequest row handle s) := by
  rcases takeRequest_cases row handle s with he | ⟨c, hc, he⟩ | ⟨seq, he⟩ | ⟨seq, bs, -, -, he⟩ <;> rw [he]
  · exact h
  · exact h.discarded (sticks_of_check hc)
  · exact (h.consumed seq).withCondition rfl
  · exact (hh _ _ (h.consumed seq)).congr rfl rfl rfl rfl rfl rfl

theorem rangesWf_exec {c : Instr} {s t : State} (he : exec c s = .next t) (h : RangesWf s) : RangesWf t := by
  rcases command_cases c with ⟨row, handle, hc⟩ | ⟨f, hc⟩ | ⟨f, hc⟩
  · cases (exec_of_requestOf hc s).symm.trans he
    exact h.takeRequest fun args t ht => rangesWf_of_requestOf hc ht args
  · cases (exec_of_eventOf hc s).symm.trans he
    exact rangesWf_of_eventOf hc h
  · cases (exec_of_portOf hc s).symm.trans he
    exact rangesWf_of_portOf hc h

/-! ### The capacities -/

/-- Buffer and output queue are no longer than before, and the return queues as before. -/
theorem PortWf.shorter {s t : State} (h : PortWf s) (hb : t.port.buffer.length ≤ s.port.buffer.length)
    (ho : t.port.outQueue.length ≤ s.port.outQueue.length) (hq : t.agent.returnQueue = s.agent.returnQueue) : PortWf t := by
  have hrep : t.replyQueue = s.replyQueue := by simp only [State.replyQueue, hq]
  have hrpt : t.reportQueue = s.reportQueue := by simp only [State.reportQueue, hq]
  exact ⟨hb.trans h.buffer, ho.trans h.outQueue, hrep ▸ h.replies, hrpt ▸ h.reports⟩

theorem PortWf.congr {s t : State} (h : PortWf s) (hb : t.port.buffer = s.port.buffer) (ho : t.port.outQueue = s.port.outQueue)
    (hq : t.agent.returnQueue = s.agent.returnQueue) : PortWf t :=
  h.shorter (by rw [hb]) (by rw [ho]) hq

/-- An empty Swath Port with empty return queues. -/
theorem PortWf.of_empty {t : State} (hb : t.port.buffer = []) (ho : t.port.outQueue = []) (hq : t.agent.returnQueue = []) :
    PortWf t := by
  constructor <;> simp [State.replyQueue, State.reportQueue, hb, ho, hq]

theorem withoutEligible_length (p : SwathPort) : (withoutEligible p).length ≤ p.buffer.length := by
  unfold withoutEligible
  split <;> simp [List.length_eraseP_le]

theorem PortWf.discarded {s : State} (h : PortWf s) (c : Condition) : PortWf (s.discarded c) :=
  h.shorter (withoutEligible_length _) (Nat.le_refl _) rfl

theorem PortWf.consumed {s : State} (h : PortWf s) (seq : Byte) : PortWf (s.consumed seq) :=
  h.shorter (withoutEligible_length _) (Nat.le_refl _) rfl

/-- A frame leaves its place for an output queue with room. -/
theorem PortWf.forward {s : State} (h : PortWf s) (bs : List Byte) (hroom : s.port.outQueue.length < 4) :
    PortWf (forward bs s) where
  buffer := (withoutEligible_length s.port).trans h.buffer
  outQueue := by
    have hl : (Machine.forward bs s).port.outQueue = s.port.outQueue ++ [bs] := rfl
    rw [hl, List.length_append, List.length_singleton]
    exact hroom
  replies := h.replies
  reports := h.reports

/-- Dropping the oldest report drops the head of the report queue and no reply (R187). -/
theorem filter_dropOldestReport (l : List ReturnFrame) :
    (dropOldestReport l).filter ReturnFrame.isReport = (l.filter ReturnFrame.isReport).tail ∧
      ((dropOldestReport l).filter fun f => !f.isReport) = l.filter fun f => !f.isReport := by
  induction l with
  | nil => exact ⟨rfl, rfl⟩
  | cons f fs ih => cases hf : f.isReport <;> simp [dropOldestReport, hf, ih.1, ih.2]

/-- A report joins, and no more than 2 wait (R187). -/
theorem PortWf.queueReport {s : State} (h : PortWf s) {f : ReturnFrame} (hf : f.isReport = true) :
    PortWf (queueReport f s) := by
  have hrep : (s.agent.returnQueue.filter fun f => !f.isReport).length ≤ 8 := h.replies
  have hrpt : (s.agent.returnQueue.filter ReturnFrame.isReport).length ≤ 2 := h.reports
  rcases queueReport_cases f s with ⟨hq, he⟩ | ⟨hq, he⟩ <;> rw [he]
  · have hq' : (s.agent.returnQueue.filter ReturnFrame.isReport).length < 2 := hq
    exact ⟨h.buffer, h.outQueue, by simpa [State.replyQueue, hf] using hrep, by simpa [State.reportQueue, hf] using hq'⟩
  · obtain ⟨hdrop, hkeep⟩ := filter_dropOldestReport s.agent.returnQueue
    refine ⟨by simpa using h.buffer, by simpa using h.outQueue, ?_, ?_⟩
    · simpa [State.replyQueue, hf, hkeep] using hrep
    · simp [State.reportQueue, hf, hdrop]
      omega

/-- A reply joins a reply queue with room (R184). -/
theorem PortWf.queueReply {s : State} (h : PortWf s) {f : ReturnFrame} (hf : f.isReport = false)
    (hroom : s.replyQueue.length < 8) : PortWf (queueReply f s) := by
  have hrpt : (s.agent.returnQueue.filter ReturnFrame.isReport).length ≤ 2 := h.reports
  have hrep : (s.agent.returnQueue.filter fun f => !f.isReport).length < 8 := hroom
  exact ⟨h.buffer, h.outQueue, by simpa [State.replyQueue, hf] using hrep, by simpa [State.reportQueue, hf] using hrpt⟩

theorem PortWf.closeSwath {s : State} (h : PortWf s) (unterminated : Bool) (closing : Byte) :
    PortWf (closeSwath unterminated closing s) := by
  have hq : ∀ f, ReturnFrame.isReport f = true → PortWf (Machine.queueReport f s) := fun f hf => h.queueReport hf
  exact (hq _ rfl).congr rfl rfl rfl

theorem holdBuffer_length (b : List BufferedFrame) : (holdBuffer b).length ≤ b.length := by
  cases b with
  | nil => exact Nat.le_refl _
  | cons f rest => exact Nat.succ_le_succ (List.length_filter_le _ _)

theorem PortWf.handleSwathStart {s : State} {bs : List Byte} (h : PortWf s) (ht : PrintTaken bs s) :
    PortWf (handleSwathStart bs s) := by
  have hb : PortWf (s.beforeStart (frameSequence bs)) := by
    have htr : PortWf (s.tracked (frameSequence bs)) := h.congr rfl rfl rfl
    unfold State.beforeStart
    split
    · exact htr.closeSwath _ _
    · exact htr
  have hroom : (s.beforeStart (frameSequence bs)).port.outQueue.length < 4 := by
    obtain ⟨q, w, he⟩ := beforeStart_frame ht.stream (frameSequence bs)
    rw [he]
    exact ht.room
  rw [handleSwathStart_of_running ht.running]
  rcases startSwath_cases bs (s.beforeStart (frameSequence bs)) with ⟨-, he⟩ | ⟨-, he⟩ <;> rw [he]
  · have ho : PortWf (openSwath (s.beforeStart (frameSequence bs))) := hb.congr rfl rfl rfl
    exact ho.forward bs hroom
  · obtain ⟨w, he⟩ := holdStream_frame (s.beforeStart (frameSequence bs))
    rw [he]
    exact hb.shorter (holdBuffer_length _) (Nat.le_refl _) rfl

theorem PortWf.handleSwathEnd {s : State} {bs : List Byte} (h : PortWf s) (ht : PrintTaken bs s) :
    PortWf (handleSwathEnd bs s) := by
  have htr : PortWf (s.tracked (frameSequence bs)) := h.congr rfl rfl rfl
  rw [handleSwathEnd_of_running ht.running]
  split
  · refine PortWf.forward (htr.closeSwath _ _) bs ?_
    obtain ⟨q, w, he⟩ := closeSwath_frame false (frameSequence bs) (s.tracked (frameSequence bs))
    rw [he]
    exact ht.room
  · exact (h.consumed _).congr rfl rfl rfl

/-- Work that leaves the Swath Port alone, and a forwarded frame after it. -/
theorem PortWf.forward_of_portKept {s u : State} (h : PortWf s) (hk : PortKept s u) (hroom : s.port.outQueue.length < 4)
    (bs : List Byte) : PortWf (Machine.forward bs u) :=
  PortWf.forward (h.congr (by rw [hk.port]) (by rw [hk.port]) hk.returnQueue) bs (by rw [hk.port]; exact hroom)

theorem PortWf.handleFire {s : State} {bs : List Byte} (h : PortWf s) (ht : PrintTaken bs s) : PortWf (handleFire bs s) := by
  have htr : PortWf (s.tracked (frameSequence bs)) := h.congr rfl rfl rfl
  rw [handleFire_of_running ht.running]
  split
  · obtain ⟨out, u, hk, he⟩ := filterFire_forwards bs (s.tracked (frameSequence bs))
    rw [he]
    exact htr.forward_of_portKept hk ht.room out
  · exact (h.consumed _).congr rfl rfl rfl

theorem PortWf.handleSpit {s : State} {bs : List Byte} (h : PortWf s) (ht : PrintTaken bs s) : PortWf (handleSpit bs s) := by
  have htr : PortWf (s.tracked (frameSequence bs)) := h.congr rfl rfl rfl
  obtain ⟨u, hk, he⟩ := handleSpit_forwards ht.running bs
  rw [he]
  exact htr.forward_of_portKept hk ht.room bs

theorem PortWf.handleStreamReset {s : State} (h : PortWf s) (bs : List Byte) : PortWf (handleStreamReset bs s) where
  buffer := ((List.length_filter_le _ _).trans (withoutEligible_length s.port)).trans h.buffer
  outQueue := by
    have hl : (Machine.handleStreamReset bs s).port.outQueue = [bs] := rfl
    simp [hl]
  replies := Nat.zero_le _
  reports := Nat.zero_le _

theorem PortWf.beginTransfer {s : State} (h : PortWf s) (ready : Bool) : PortWf (beginTransfer ready s) := by
  unfold Machine.beginTransfer
  extract_lets s1
  split
  · next f rest _ hq =>
    split
    · refine h.shorter (Nat.le_refl _) ?_ rfl
      rw [hq]
      exact Nat.le_succ _
    · exact h.congr rfl rfl rfl
  · exact h.congr rfl rfl rfl

/-- The oldest frame leaves the return queues. -/
theorem PortWf.beginTransmission {s : State} (h : PortWf s) : PortWf (beginTransmission s) := by
  have hrep : (s.agent.returnQueue.filter fun f => !f.isReport).length ≤ 8 := h.replies
  have hrpt : (s.agent.returnQueue.filter ReturnFrame.isReport).length ≤ 2 := h.reports
  unfold Machine.beginTransmission
  split
  · next f rest _ hq =>
    have hsub : rest.Sublist s.agent.returnQueue := hq ▸ List.sublist_cons_self f rest
    split
    · exact ⟨h.buffer, h.outQueue, (hsub.filter _).length_le.trans hrep, (hsub.filter _).length_le.trans hrpt⟩
    · exact h
  · exact h

/-- The commands of the Swath Port and of power and reset keep the capacities. -/
theorem portWf_of_portOf {c : Instr} {f : State → State} (hc : portOf c = some f) {s : State} (h : PortWf s) : PortWf (f s) := by
  have hprint : ∀ (row : FrameRow) (handle : List Byte → State → State), row.isPrint = true →
      (∀ bs, PrintTaken bs s → PortWf (handle bs s)) → PortWf (takeFrame row handle s) := fun row handle hp hh =>
    takeFrame_gives (P := PortWf) h h.discarded fun bs ht hrow _ => hh bs (ht.printTaken_of_row hrow hp)
  cases c <;> cases hc
  case powerOn decayed => unfold applyPower; split; exacts [h, .of_empty rfl rfl rfl]
  case lossOfPower => unfold losePower; split; exacts [.of_empty rfl rfl rfl, h]
  case pinResetAsserted => unfold assertReset; split; exacts [.of_empty rfl rfl rfl, h]
  case frameArrivalBegins kind =>
    rcases beginArrival_cases kind s with he | he | ⟨hb, -, he⟩ <;> rw [he]
    · exact h
    · exact h.congr (by simp) (by simp) (by simp)
    · exact ⟨by simpa using hb, h.outQueue, h.replies, h.reports⟩
  case frameArrivalEnds rest =>
    rw [endArrival_eq]
    split
    · exact h.shorter (by simp) (Nat.le_refl _) rfl
    · exact h
  case unknownKindFrame =>
    exact takeFrame_gives (P := PortWf) h h.discarded fun bs ht _ _ => by
      rw [discardUnknown_eq ht]; exact h.discarded _
  case fire => exact hprint _ _ rfl fun bs ht => h.handleFire ht
  case spit => exact hprint _ _ rfl fun bs ht => h.handleSpit ht
  case swathStart => exact hprint _ _ rfl fun bs ht => h.handleSwathStart ht
  case swathEnd => exact hprint _ _ rfl fun bs ht => h.handleSwathEnd ht
  case streamReset => exact takeFrame_gives (P := PortWf) h h.discarded fun bs _ _ _ => h.handleStreamReset bs
  case heldSwathStartForwarded =>
    rcases forwardHeld_cases s with he | ⟨f, rest, hbuf, -, -, -, hq, he⟩ <;> rw [he]
    · exact h
    · have hb := h.buffer
      rw [hbuf, List.length_cons] at hb
      exact ⟨Nat.le_of_succ_le hb, by simpa using hq, h.replies, h.reports⟩
  case headTransferBegins ready => exact h.beginTransfer ready
  case headTransferCompletes => obtain ⟨_, he⟩ := completeTransfer_frame s; rw [he]; exact h.congr rfl rfl rfl
  case returnTransmissionBegins => exact h.beginTransmission
  case returnTransmissionCompletes => obtain ⟨_, he⟩ := completeTransmission_frame s; rw [he]; exact h.congr rfl rfl rfl

/-- A request's handler leaves queues and buffer, and its reply finds room (R184). -/
theorem PortWf.takeRequest {s : State} (h : PortWf s) {row : FrameRow} {handle : List Byte → State → Answer}
    (hw : ∀ args s, WaitStep s (handle args s).state) : PortWf (takeRequest row handle s) := by
  rcases takeRequest_cases row handle s with he | ⟨c, -, he⟩ | ⟨seq, he⟩ | ⟨seq, bs, -, hroom, he⟩ <;> rw [he]
  · exact h
  · exact h.discarded c
  · exact (h.consumed seq).congr rfl rfl rfl
  · have hs := hw (requestArgs bs) (s.consumed seq)
    refine PortWf.queueReply ((h.consumed seq).congr hs.buffer hs.outQueue hs.returnQueue) rfl ?_
    rw [State.replyQueue, hs.returnQueue]
    exact hroom

theorem portWf_exec {c : Instr} {s t : State} (he : exec c s = .next t) (h : PortWf s) : PortWf t := by
  rcases command_cases c with ⟨row, handle, hc⟩ | ⟨f, hc⟩ | ⟨f, hc⟩
  · cases (exec_of_requestOf hc s).symm.trans he
    exact h.takeRequest (waitStep_of_requestOf hc)
  · cases (exec_of_eventOf hc s).symm.trans he
    have hs := waitStep_of_eventOf hc s
    exact h.congr hs.buffer hs.outQueue hs.returnQueue
  · cases (exec_of_portOf hc s).symm.trans he
    exact portWf_of_portOf hc h

/-- Settles O53: each command keeps the capacities, and keeps every block within its ranges. -/
theorem boundsKept : Obligations.BoundsKept := by
  intro s t hport hset hmeter hcount hstep
  have hranges : RangesWf s := (rangesWf_iff s).mpr ⟨hset, hmeter, hcount⟩
  cases hq : s.pending with
  | nil =>
    cases (step_nil hq).symm.trans hstep
    exact ⟨hport, hset, hmeter, hcount⟩
  | cons c rest =>
    rw [step_cons hq] at hstep
    have ht : RangesWf t := rangesWf_exec hstep (hranges.congr rfl rfl rfl rfl rfl rfl)
    exact ⟨portWf_exec hstep (hport.congr rfl rfl rfl), (rangesWf_iff t).mp ht⟩

end Sys2Proof.Machine
end

section
/-! What a blanked frame and a drop report do: the frame forwarded blank and not counted (O12), the report's one destination
(O20). -/

namespace Sys2Proof.Machine

/-! ### A blanked frame -/

/-- Blanking a frame of the swath link gives the frame of the same header and as many payload bytes of 00h (R31). -/
theorem blankFrame_linkFrame (kind shape seq count : Byte) (payload : List Byte) :
    blankFrame (linkFrame kind shape seq count payload) =
      linkFrame kind shape seq count (List.replicate payload.length 0) := by
  have hheader : (linkFrame kind shape seq count payload).take 6 = [kind, shape, seq, count] ++ beBytes 2 payload.length := rfl
  rw [blankFrame, hheader, linkFrame_length, linkFrame, List.length_replicate, Nat.add_sub_cancel]

theorem filterFire_blanked {bs : List Byte} {s : State} (h : s.laneAction (frameLane bs) = .blank) :
    filterFire bs s = fireBlanked bs s := by
  simp [filterFire, h]

/-- Settles O12: the frame is blanked and forwarded, and the lane's two frame counters alone are touched. -/
theorem fireBlanked_holds : Obligations.FireBlanked := by
  intro shape seq count payload s h hs ha h1 h64 hp
  have hrow : frameRow (linkFrame 0x21 shape seq count payload) = .fire := rfl
  have hc := failedCheck_fire (seq := seq) h.guard h.length h1 h64 hp
  have he : exec .fire s = .next (takeFrame .fire handleFire s) := rfl
  have ha' : (s.tracked seq).laneAction (frameLane (linkFrame 0x21 shape seq count payload)) = .blank := ha
  rw [he, takeFrame_handles h.taken hrow hc, handleFire_of_running h.taken.running, linkFrame_sequence, if_pos hs,
    filterFire_blanked ha', fireBlanked, blankFrame_linkFrame]
  rfl

/-! ### The counts beside the binding record, through the work at a slot -/

/-- The settings and counts beside slot n's binding record are those of before. -/
def CountsKept (n : Slot) (s t : State) : Prop := SameCounts (s.slot n) (t.slot n)

theorem CountsKept.refl (n : Slot) (s : State) : CountsKept n s s := ⟨rfl, rfl, rfl, rfl, rfl, rfl⟩

theorem CountsKept.trans {n : Slot} {s t u : State} (h : CountsKept n s t) (g : CountsKept n t u) : CountsKept n s u :=
  ⟨g.config.trans h.config, g.failedAttempts.trans h.failedAttempts, g.orphanResidue.trans h.orphanResidue,
    g.orphanCount.trans h.orphanCount, g.swathCredited.trans h.swathCredited, g.swathOrphaned.trans h.swathOrphaned⟩

theorem CountsKept.of_slots {n : Slot} {s t : State} (h : t.slots = s.slots) : CountsKept n s t := by
  rw [CountsKept, State.slot_congr h]
  exact CountsKept.refl n s

theorem countsKept_modSlot {n : Slot} {f : SlotContext → SlotContext} {s : State} (h : SameCounts (s.slot n) (f (s.slot n))) :
    CountsKept n s (s.modSlot n f) := by
  rw [CountsKept, State.slot_modSlot_self]
  exact h

theorem commit_slots (w : Write) (s : State) : (commit w s).slots = s.slots := by rw [commit_frame]

theorem writeCheckpoint_slots (n : Slot) (s : State) : (writeCheckpoint n s).slots = s.slots := by
  unfold writeCheckpoint
  split
  · exact commit_slots _ _
  · rfl

theorem judgeRetirement_slots (n : Slot) (s : State) : (judgeRetirement n s).slots = s.slots := by
  unfold judgeRetirement
  dsimp only
  split
  · exact commit_slots _ _
  · rfl

/-- The end of a binding at the Refill Monitor leaves the slots to the Slot Controller (R146). -/
theorem endBinding_slots (n : Slot) (s : State) : (endBinding n s).slots = s.slots := by
  unfold endBinding
  split
  · rw [judgeRetirement_slots, writeCheckpoint_slots]
  · rfl

theorem countsKept_startAttempt (n : Slot) (k : Nat) (s : State) : CountsKept n s (startAttempt n k s) := by
  unfold startAttempt
  extract_lets c nonce
  split
  · exact .refl n s
  · extract_lets target attempt op' s'
    have h' : CountsKept n s s' :=
      countsKept_modSlot (f := fun _ => { c with attempt := some attempt, current := some op', idleTimer := none })
        ⟨rfl, rfl, rfl, rfl, rfl, rfl⟩
    split
    · exact h'
    · exact h'

theorem countsKept_requestBus (n : Slot) (s : State) : CountsKept n s (requestBus n s) := by
  unfold requestBus
  split
  · exact countsKept_startAttempt n 1 s
  · exact .refl n s
  · exact countsKept_modSlot ⟨rfl, rfl, rfl, rfl, rfl, rfl⟩

theorem countsKept_finishOp (n : Slot) (r : OpResult) (why : Option FailureReason) (e : Byte) (a : Word16) (s : State) :
    CountsKept n s (finishOp n r why e a s) := by
  refine countsKept_modSlot ?_
  dsimp only
  constructor <;> simp

theorem countsKept_setBinding (n : Slot) (b : BindingState) (why : Option FailureReason) (s : State) :
    CountsKept n s (setBinding n b why s) := countsKept_modSlot (sameCounts_enterState _ _ _ _)

theorem countsKept_finishRelease (n : Slot) (a : Word16) (s : State) : CountsKept n s (finishRelease n a s) :=
  have hclosed : CountsKept n s ((endBinding n s).modSlot n fun c => supplyOff (closeRecord c)) :=
    (CountsKept.of_slots (endBinding_slots n s)).trans (countsKept_modSlot ⟨rfl, rfl, rfl, rfl, rfl, rfl⟩)
  (hclosed.trans (countsKept_setBinding n .released none _)).trans (countsKept_finishOp n .released none 0 a _)

theorem sameCounts_replaceBinding (c : SlotContext) : SameCounts c (replaceBinding c) := by
  unfold replaceBinding
  split <;> exact ⟨rfl, rfl, rfl, rfl, rfl, rfl⟩

theorem countsKept_beginOp (n : Slot) (e : QueueEntry) (s : State) : CountsKept n s (beginOp n e s) := by
  unfold beginOp
  extract_lets op s1 s2
  have h1 : CountsKept n s s1 := countsKept_modSlot ⟨rfl, rfl, rfl, rfl, rfl, rfl⟩
  refine h1.trans ?_
  split
  · split
    · exact (countsKept_modSlot (sameCounts_replaceBinding _)).trans (countsKept_requestBus n _)
    · have h2 : CountsKept n s1 s2 := countsKept_modSlot ⟨rfl, rfl, rfl, rfl, rfl, rfl⟩
      refine h2.trans ?_
      split
      · exact countsKept_requestBus n _
      · exact countsKept_finishOp n _ _ _ _ _
    · exact countsKept_requestBus n _
    · split
      · exact countsKept_requestBus n _
      · exact countsKept_finishRelease n _ _
  · exact countsKept_finishOp n _ _ _ _ _

theorem countsKept_runQueue (k : Nat) (n : Slot) (s : State) : CountsKept n s (runQueue k n s) := by
  induction k generalizing s with
  | zero => exact .refl n s
  | succ k ih =>
    unfold runQueue
    split
    · exact ((countsKept_modSlot ⟨rfl, rfl, rfl, rfl, rfl, rfl⟩).trans (countsKept_beginOp n _ _)).trans (ih _)
    · exact .refl n s

theorem countsKept_askAuto (n : Slot) (k : OpKind) (s : State) : CountsKept n s (askAuto n k s) := by
  unfold askAuto
  split
  · exact (countsKept_modSlot ⟨rfl, rfl, rfl, rfl, rfl, rfl⟩).trans (countsKept_runQueue _ n _)
  · exact .refl n s

theorem countsKept_askIfDue (due : SlotContext → Bool) (k : OpKind) (n : Slot) (s : State) :
    CountsKept n s (askIfDue due k n s) := by
  unfold askIfDue
  split
  · exact countsKept_askAuto n k s
  · exact .refl n s

/-! ### The destinations of a drop report -/

theorem handleReport_none {r : DropReport} (h : r.slot = none) (s : State) : handleReport r s = countUnattributed r s := by
  simp [handleReport, h]

theorem handleReport_uncharged {r : DropReport} {n : Slot} {s : State} (h : r.slot = some n) (hc : ¬Charged (s.slot n)) :
    handleReport r s = creditOrphan n (frameVolume s.monitor r) s := by
  unfold Charged at hc
  cases hb : (s.slot n).bindingState <;> simp_all [handleReport]

theorem handleReport_charged {r : DropReport} {n : Slot} {s : State} (h : r.slot = some n) (hc : Charged (s.slot n)) :
    handleReport r s = creditBinding n r.marked (frameVolume s.monitor r) s := by
  unfold Charged at hc
  cases hb : (s.slot n).bindingState <;> simp_all [handleReport]

/-- The counts of a credit's slot, but for swath credited, are kept by the two automatic operations that may follow it (R54). -/
theorem sameCounts_creditBinding (n : Slot) (marked : Bool) (volume : Nat) (s : State) :
    SameCounts (creditSlot s.policy.allowance (swathSum s) marked volume (s.slot n))
      ((creditBinding n marked volume s).slot n) := by
  have h := (countsKept_askIfDue writeBackDue .writeBack n
    (s.modSlot n (creditSlot s.policy.allowance (swathSum s) marked volume))).trans (countsKept_askIfDue verifyDue .verify n _)
  rw [CountsKept, State.slot_modSlot_self] at h
  exact h

/-- Settles O20: unattributed drops, an orphan credit and a credit to the binding are the three destinations, and the credit's
work stays at its slot. -/
theorem dropReportDestinations : Obligations.DropReportDestinations := by
  refine ⟨fun r s h => handleReport_none h s, fun r n s h hc => ?_, fun r n s h hc => ?_⟩
  · rw [handleReport_uncharged h hc]
    rfl
  · have hw := slotWork_handleReport h s
    have hk := sameCounts_creditBinding n r.marked (frameVolume s.monitor r) s
    rw [← handleReport_charged h hc] at hk
    refine ⟨by rw [hw.frame], by rw [hw.frame], by rw [hw.frame], by rw [hw.frame], hw.others, ?_, ?_, ?_⟩
    · rw [hk.orphanResidue]; simp [creditSlot]
    · rw [hk.orphanCount]; simp [creditSlot]
    · rw [hk.swathOrphaned]; simp [creditSlot]

end Sys2Proof.Machine
end

section
/-! What the argument readers refuse, and the selections they read (O27, O34). -/

namespace Sys2Proof.Machine

/-! ### Readers of a fixed number of argument bytes -/

theorem slotOf_eq_none {n : Nat} (h : 7 < n) : slotOf n = none := dif_neg (by omega)

theorem laneOf_eq_none {n : Nat} (h : 15 < n) : laneOf n = none := dif_neg (by omega)

theorem inputOf_eq_none {n : Nat} (h : 7 < n) : inputOf n = none := dif_neg (by omega)

theorem slotOf_val (n : Slot) : slotOf n.val = some n := dif_pos n.isLt

theorem laneOf_val (l : Lane) : laneOf l.val = some l := dif_pos l.isLt

theorem opKind_ofCode_eq_none : ∀ {k : Nat}, k = 0 ∨ 4 < k → OpKind.ofCode k = none
  | 0, _ => rfl
  | 1, h | 2, h | 3, h | 4, h => by omega
  | _ + 5, _ => rfl

theorem sampleMode_ofCode_eq_none : ∀ {k : Nat}, 2 < k → SampleMode.ofCode k = none
  | 0, h | 1, h | 2, h => by omega
  | _ + 3, _ => rfl

theorem oneByte_cases (args : List Byte) :
    (∃ b, args = [b] ∧ oneByte args = some b) ∨ (args.length ≠ 1 ∧ oneByte args = none) := by
  unfold oneByte
  split
  · exact .inl ⟨_, rfl, rfl⟩
  · next h => exact .inr ⟨fun hl => (List.length_eq_one_iff.mp hl).elim h, rfl⟩

/-- A reader of one byte refuses any other number of bytes, and a byte above its bound. -/
theorem oneByte_bind_eq_none {α : Type} {f : Byte → Option α} {bound : Nat} {args : List Byte}
    (hf : ∀ b : Byte, bound < b.toNat → f b = none) (h : args.length ≠ 1 ∨ bound < (args.headD 0).toNat) :
    (oneByte args).bind f = none := by
  rcases oneByte_cases args with ⟨b, rfl, he⟩ | ⟨-, he⟩ <;> rw [he]
  · exact hf b (h.resolve_left (absurd rfl))
  · rfl

section Readers
variable {args : List Byte}

theorem slotArgument_eq_none (h : args.length ≠ 1 ∨ 7 < (args.headD 0).toNat) : slotArgument args = none :=
  oneByte_bind_eq_none (fun _ hb => slotOf_eq_none hb) h

theorem laneArgument_eq_none (h : args.length ≠ 1 ∨ 15 < (args.headD 0).toNat) : laneArgument args = none :=
  oneByte_bind_eq_none (fun _ hb => laneOf_eq_none hb) h

theorem inputArgument_eq_none (h : args.length ≠ 1 ∨ 7 < (args.headD 0).toNat) : inputArgument args = none :=
  oneByte_bind_eq_none (fun _ hb => inputOf_eq_none hb) h

theorem modeArgument_eq_none (h : args.length ≠ 1 ∨ 2 < (args.headD 0).toNat) : modeArgument args = none :=
  oneByte_bind_eq_none (fun _ hb => sampleMode_ofCode_eq_none hb) h

theorem placeArgument_eq_none (h : args.length ≠ 1 ∨ 47 < (args.headD 0).toNat) : placeArgument args = none :=
  oneByte_bind_eq_none (fun _ hb => if_pos hb) h

theorem clearArgument_eq_none (h : args.length ≠ 1) : clearArgument args = none := by
  rcases oneByte_cases args with ⟨b, rfl, -⟩ | ⟨-, he⟩
  · exact absurd rfl h
  · rw [clearArgument, he]; rfl

theorem startArguments_eq_none
    (h : args.length ≠ 2 ∨ 7 < (args.headD 0).toNat ∨ (byteAt args 1).toNat = 0 ∨ 4 < (byteAt args 1).toNat) :
    startArguments args = none := by
  unfold startArguments
  split
  · next n k =>
    rcases h with h | h | h
    · exact absurd rfl h
    · have hn : slotOf n.toNat = none := slotOf_eq_none h
      rw [hn]; rfl
    · have hk : OpKind.ofCode k.toNat = none := opKind_ofCode_eq_none h
      rw [hk]; cases slotOf n.toNat <;> rfl
  · rfl

theorem countersArguments_eq_none (h : args.length ≠ 2 ∨ 15 < (args.headD 0).toNat) : countersArguments args = none := by
  unfold countersArguments
  split
  · next n c =>
    rcases h with h | h
    · exact absurd rfl h
    · have hn : laneOf n.toNat = none := laneOf_eq_none h
      rw [hn]; rfl
  · rfl

theorem serialArgument_eq_none (h : args.length ≠ 8) : serialArgument args = none := if_neg h

theorem keyArgument_eq_none (h : args.length ≠ 32) : keyArgument args = none := if_neg fun hk => h hk.1

theorem maskArgument_eq_none (h : args.length ≠ 4) : maskArgument args = none := if_neg h

theorem sequenceArguments_eq_none (h : args = [] ∨ args.length ≠ 1 + (byteAt args 0).toNat) : sequenceArguments args = none := by
  unfold sequenceArguments
  split
  · rfl
  · next depth entries =>
    have hd : byteAt (depth :: entries) 0 = depth := rfl
    have hlen : entries.length ≠ depth.toNat := by
      rw [hd, List.length_cons] at h
      have := h.resolve_left (by simp)
      omega
    exact if_pos (.inr (.inr hlen))

end Readers

/-! ### Selections -/

/-- The bytes that a selection is read from are as many as it asks for (R185). -/
theorem length_of_selectedValues {ws : List Nat} {i selection : Nat} {bytes : List Byte} {v : List (Option Nat)}
    (h : selectedValues ws i selection bytes = some v) : bytes.length = selectedLength ws (selection / 2 ^ i) := by
  induction ws generalizing i bytes v with
  | nil =>
    simp only [selectedValues] at h
    split at h
    · next he => simpa [selectedLength] using he
    · cases h
  | cons w ws ih =>
    have hnext : selection / 2 ^ i / 2 = selection / 2 ^ (i + 1) := by rw [Nat.div_div_eq_div_mul, pow_succ]
    simp only [selectedValues, Nat.testBit_eq_decide_div_mod_eq, decide_eq_true_eq] at h
    rw [selectedLength, hnext]
    split at h
    · next hbit =>
      split at h
      · cases h
      · next hlen =>
        obtain ⟨v', hv', -⟩ := Option.map_eq_some_iff.mp h
        rw [if_pos hbit, ← ih hv', List.length_drop]
        omega
    · next hbit =>
      obtain ⟨v', hv', -⟩ := Option.map_eq_some_iff.mp h
      rw [if_neg hbit, ← ih hv', Nat.zero_add]

/-- No field is read as selected where none of the fields' bits is set. -/
theorem nothingSelected_of_selectedValues {ws : List Nat} {i selection : Nat} {bytes : List Byte} {v : List (Option Nat)}
    (h : selectedValues ws i selection bytes = some v) (hbits : ∀ k < ws.length, selection.testBit (i + k) = false) :
    nothingSelected v = true := by
  induction ws generalizing i bytes v with
  | nil =>
    simp only [selectedValues] at h
    split at h
    · cases h; rfl
    · cases h
  | cons w ws ih =>
    have h0 : selection.testBit i = false := hbits 0 (by simp)
    simp only [selectedValues, h0] at h
    obtain ⟨v', hv', rfl⟩ := Option.map_eq_some_iff.mp h
    have hv : nothingSelected v' = true := ih hv' fun k hk => by
      have := hbits (k + 1) (by simpa using hk)
      rwa [← Nat.add_assoc, Nat.add_right_comm] at this
    simpa [nothingSelected] using hv

/-- The value bytes of a selection are read back field by field, the selection shifted to the first field's bit. -/
theorem selectedValues_of_fits {ws : List Nat} {v : List (Option Nat)} (h : SelectionFits ws v) {i selection : Nat}
    (hs : selection / 2 ^ i = selectionBits v) : selectedValues ws i selection (selectionBytes ws v) = some v := by
  induction ws generalizing i v with
  | nil =>
    cases v with
    | nil => rfl
    | cons o rest => exact h.elim
  | cons w ws ih =>
    cases v with
    | nil => exact h.elim
    | cons o rest =>
      obtain ⟨ho, hrest⟩ := h
      have hnext : selection / 2 ^ (i + 1) = selectionBits rest := by
        rw [pow_succ, ← Nat.div_div_eq_div_mul, hs, selectionBits]
        split <;> omega
      have hbit : selection.testBit i = o.isSome := by
        rw [Nat.testBit_eq_decide_div_mod_eq, hs, selectionBits]
        cases o <;> simp
      cases o with
      | none => simp [selectedValues, hbit, selectionBytes, ih hrest hnext]
      | some x =>
        have hx : beNat (beBytes w x) = x := beNat_beBytes_of_lt (ho x rfl)
        simp [selectedValues, hbit, selectionBytes, ih hrest hnext, hx, List.take_left', List.drop_left']

theorem length_of_selectionFits {ws : List Nat} {v : List (Option Nat)} (h : SelectionFits ws v) : v.length = ws.length := by
  induction ws generalizing v with
  | nil =>
    cases v with
    | nil => rfl
    | cons o rest => exact h.elim
  | cons w ws ih =>
    cases v with
    | nil => exact h.elim
    | cons o rest => rw [List.length_cons, List.length_cons, ih h.2]

theorem selectionBits_lt (v : List (Option Nat)) : selectionBits v < 2 ^ v.length := by
  induction v with
  | nil => simp [selectionBits]
  | cons o rest ih =>
    rw [selectionBits, List.length_cons, pow_succ]
    split <;> omega

theorem nothingSelected_eq_false {v : List (Option Nat)} (h : ∃ x, some x ∈ v) : nothingSelected v = false := by
  obtain ⟨x, hx⟩ := h
  exact List.all_eq_false.mpr ⟨some x, hx, by simp⟩

/-! ### The readers of a selection -/

theorem fieldAt_one (args : List Byte) (i : Nat) : fieldAt args i 1 = (byteAt args i).toNat := by
  unfold fieldAt byteAt
  by_cases h : i < args.length
  · have hd : (args.drop i).take 1 = [args[i]] := by rw [List.drop_eq_getElem_cons h]; rfl
    simp [hd, beNat, h]
  · have hd : (args.drop i).take 1 = [] := by rw [List.drop_eq_nil_of_le (by omega)]; rfl
    simp [hd, beNat, h]

/-- A reader that wants a field selected refuses a selection without one, or with other bytes than it asks for. -/
theorem selectedValues_bind_eq_none {α : Type} {ws : List Nat} {selection : Nat} {bytes : List Byte}
    {f : List (Option Nat) → Option α} (hf : ∀ v, nothingSelected v = true → f v = none)
    (h : (∀ k < ws.length, selection.testBit k = false) ∨ bytes.length ≠ selectedLength ws selection) :
    (selectedValues ws 0 selection bytes).bind f = none := by
  cases hv : selectedValues ws 0 selection bytes with
  | none => rfl
  | some v =>
    rcases h with h | h
    · exact hf v (nothingSelected_of_selectedValues hv (by simpa using h))
    · exact absurd (by simpa using length_of_selectedValues hv) h

theorem writeLaneArguments_eq_none {args : List Byte}
    (h : args.length < 3 ∨ 15 < (byteAt args 0).toNat ∨ fieldAt args 1 2 % 32768 = 0 ∨
      args.length ≠ 3 + selectedLength laneWidths (fieldAt args 1 2)) : writeLaneArguments args = none := by
  unfold writeLaneArguments
  split
  · rfl
  · next h3 =>
    rw [fieldAt_one]
    rcases h.resolve_left h3 with h | h
    · rw [laneOf_eq_none h]; rfl
    · have hsel : (∀ k < laneWidths.length, (fieldAt args 1 2).testBit k = false) ∨
          (args.drop 3).length ≠ selectedLength laneWidths (fieldAt args 1 2) := by
        refine h.imp (fun h0 k hk => ?_) fun hl => ?_
        · have hm := Nat.testBit_mod_two_pow (fieldAt args 1 2) 15 k
          have hk' : k < 15 := hk
          simpa [h0, hk'] using hm
        · rw [List.length_drop]; omega
      cases laneOf (byteAt args 0).toNat with
      | none => rfl
      | some l => exact selectedValues_bind_eq_none (fun v hv => by simp [hv]) hsel

theorem writeConfigArguments_eq_none {args : List Byte}
    (h : args.length < 2 ∨ 7 < (byteAt args 0).toNat ∨ byteAt args 1 = 0 ∨
      args.length ≠ 2 + selectedLength slotConfigWidths (byteAt args 1).toNat) : writeConfigArguments args = none := by
  unfold writeConfigArguments
  split
  · rfl
  · next h2 =>
    rw [fieldAt_one, fieldAt_one]
    rcases h.resolve_left h2 with h | h
    · rw [slotOf_eq_none h]; rfl
    · have hsel : (∀ k < slotConfigWidths.length, (byteAt args 1).toNat.testBit k = false) ∨
          (args.drop 2).length ≠ selectedLength slotConfigWidths (byteAt args 1).toNat := by
        refine h.imp (fun h0 k _ => by simp [h0]) fun hl => ?_
        rw [List.length_drop]; omega
      cases slotOf (byteAt args 0).toNat with
      | none => rfl
      | some n => exact selectedValues_bind_eq_none (fun v hv => by simp [hv]) hsel

theorem writePolicyArguments_eq_none {args : List Byte}
    (h : args.length < 2 ∨ 8192 ≤ fieldAt args 0 2 ∨ fieldAt args 0 2 = 0 ∨
      args.length ≠ 2 + selectedLength policyWidths (fieldAt args 0 2)) : writePolicyArguments args = none := by
  unfold writePolicyArguments
  split
  · rfl
  · next h2 =>
    obtain ⟨hlen, hbound⟩ := not_or.mp h2
    refine selectedValues_bind_eq_none (fun v hv => by simp [hv]) ?_
    refine ((h.resolve_left hlen).resolve_left hbound).imp (fun h0 k _ => by simp [h0]) fun hl => ?_
    rw [List.length_drop]; omega

end Sys2Proof.Machine
end

section
/-! The refusals of the requests (O27): what each request refuses on its arguments alone, and the answer it then gives. -/

namespace Sys2Proof.Machine

/-- A request refuses the argument bytes of a kind, in any state. -/
def Refuses (handle : List Byte → State → Answer) (bad : List Byte → Prop) : Prop :=
  ∀ args s, bad args → handle args s = refuse .badArgument s

theorem Refuses.mono {handle : List Byte → State → Answer} {bad worse : List Byte → Prop} (h : Refuses handle bad)
    (hw : ∀ args, worse args → bad args) : Refuses handle worse := fun args s hbad => h args s (hw args hbad)

/-- A request that carries k argument bytes refuses any other number of them. -/
abbrev RefusesLength (handle : List Byte → State → Answer) (k : Nat) : Prop := Refuses handle fun args => args.length ≠ k

/-- A request whose first argument byte is at most a bound refuses a greater one. -/
abbrev RefusesAbove (handle : List Byte → State → Answer) (bound : Nat) : Prop :=
  Refuses handle fun args => bound < (args.headD 0).toNat

theorem Refuses.length {handle : List Byte → State → Answer} {k : Nat} {q : List Byte → Prop}
    (h : Refuses handle fun args => args.length ≠ k ∨ q args) : RefusesLength handle k := h.mono fun _ => .inl

theorem Refuses.above {handle : List Byte → State → Answer} {k bound : Nat}
    (h : Refuses handle fun args => args.length ≠ k ∨ bound < (args.headD 0).toNat) : RefusesAbove handle bound :=
  h.mono fun _ => .inr

/-! ### Requests without an argument -/

theorem not_isEmpty_of_length {args : List Byte} (h : args.length ≠ 0) : ¬args.isEmpty = true :=
  mt List.isEmpty_iff_length_eq_zero.mp h

theorem refuses_readSummary : RefusesLength handleReadSummary 0 := fun _ _ h =>
  if_neg (not_isEmpty_of_length h)

theorem refuses_readPolicy : RefusesLength handleReadPolicy 0 := fun _ _ h =>
  if_neg (not_isEmpty_of_length h)

theorem refuses_lockPolicy : RefusesLength handleLockPolicy 0 := fun _ _ h =>
  if_neg (not_isEmpty_of_length h)

theorem refuses_sampleNext : RefusesLength handleSampleNext 0 := fun _ _ h =>
  if_neg (not_isEmpty_of_length h)

theorem refuses_resumeStream : RefusesLength handleResumeStream 0 := fun _ _ h =>
  if_neg (not_isEmpty_of_length h)

/-! ### Requests on a slot -/

theorem refuses_readSlot : Refuses handleReadSlot fun args => args.length ≠ 1 ∨ 7 < (args.headD 0).toNat := fun args s h => by
  simp [handleReadSlot, slotArgument_eq_none h]

theorem refuses_collectStatus : Refuses handleCollectStatus fun args => args.length ≠ 1 ∨ 7 < (args.headD 0).toNat :=
  fun args s h => by simp [handleCollectStatus, slotArgument_eq_none h]

theorem refuses_startOperation : Refuses handleStartOperation fun args =>
    args.length ≠ 2 ∨ 7 < (args.headD 0).toNat ∨ (byteAt args 1).toNat = 0 ∨ 4 < (byteAt args 1).toNat := fun args s h => by
  simp [handleStartOperation, startArguments_eq_none h]

theorem refuses_haltSlot : Refuses handleHaltSlot fun args => args.length ≠ 1 ∨ 7 < (args.headD 0).toNat := fun args s h => by
  simp [handleHaltSlot, slotArgument_eq_none h]

theorem refuses_readSlotConfig : Refuses handleReadSlotConfig fun args => args.length ≠ 1 ∨ 7 < (args.headD 0).toNat :=
  fun args s h => by simp [handleReadSlotConfig, slotArgument_eq_none h]

theorem refuses_writeSlotConfig : Refuses handleWriteSlotConfig fun args =>
    args.length < 2 ∨ 7 < (byteAt args 0).toNat ∨ byteAt args 1 = 0 ∨
      args.length ≠ 2 + selectedLength slotConfigWidths (byteAt args 1).toNat := fun args s h => by
  simp [handleWriteSlotConfig, writeConfigArguments_eq_none h]

/-! ### Requests on a lane, on the policy and on the Condition Monitor -/

theorem refuses_readLane : Refuses handleReadLane fun args => args.length ≠ 1 ∨ 15 < (args.headD 0).toNat := fun args s h => by
  simp [handleReadLane, laneArgument_eq_none h]

theorem refuses_readLaneCounters : Refuses handleReadLaneCounters fun args => args.length ≠ 2 ∨ 15 < (args.headD 0).toNat :=
  fun args s h => by simp [handleReadLaneCounters, countersArguments_eq_none h]

theorem refuses_writeLane : Refuses handleWriteLane fun args =>
    args.length < 3 ∨ 15 < (byteAt args 0).toNat ∨ fieldAt args 1 2 % 32768 = 0 ∨
      args.length ≠ 3 + selectedLength laneWidths (fieldAt args 1 2) := fun args s h => by
  simp [handleWriteLane, writeLaneArguments_eq_none h]

theorem refuses_writePolicy : Refuses handleWritePolicy fun args =>
    args.length < 2 ∨ 8192 ≤ fieldAt args 0 2 ∨ fieldAt args 0 2 = 0 ∨
      args.length ≠ 2 + selectedLength policyWidths (fieldAt args 0 2) := fun args s h => by
  simp [handleWritePolicy, writePolicyArguments_eq_none h]

theorem refuses_writeSequence : Refuses handleWriteSequence fun args => args = [] ∨ args.length ≠ 1 + (byteAt args 0).toNat :=
  fun args s h => by simp [handleWriteSequence, sequenceArguments_eq_none h]

theorem refuses_setSampleMode : Refuses handleSetSampleMode fun args => args.length ≠ 1 ∨ 2 < (args.headD 0).toNat :=
  fun args s h => by simp [handleSetSampleMode, modeArgument_eq_none h]

theorem refuses_sampleInput : Refuses handleSampleInput fun args => args.length ≠ 1 ∨ 7 < (args.headD 0).toNat :=
  fun args s h => by simp [handleSampleInput, inputArgument_eq_none h]

theorem refuses_readSamples : RefusesLength handleReadSamples 1 := fun args s h => by
  simp [handleReadSamples, clearArgument_eq_none h]

/-! ### Requests on stored records and on the conditions -/

theorem refuses_readRetired : Refuses handleReadRetired fun args => args.length ≠ 1 ∨ 47 < (args.headD 0).toNat :=
  fun args s h => by simp [handleReadRetired, placeArgument_eq_none h]

theorem refuses_forgetRetired : RefusesLength handleForgetRetired 8 := fun args s h => by
  simp [handleForgetRetired, serialArgument_eq_none h]

theorem refuses_provisionKey : RefusesLength handleProvisionKey 32 := fun args s h => by
  simp [handleProvisionKey, keyArgument_eq_none h]

theorem refuses_clearConditions : RefusesLength handleClearConditions 4 := fun args s h => by
  simp [handleClearConditions, maskArgument_eq_none h]

theorem refuses_writeFaultMask : RefusesLength handleWriteFaultMask 4 := fun args s h => by
  simp [handleWriteFaultMask, maskArgument_eq_none h]

/-! ### The tables of the requests -/

/-- A request code's command and its handler (R185). -/
def HandledBy (code : Nat) (handle : List Byte → State → Answer) : Prop :=
  requestOf (requestCommand (byteOf code)) = some (.request (byteOf code), handle) ∧ knownRequest (byteOf code) = true

/-- Each request of a fixed number of argument bytes refuses any other number (R185). -/
theorem fixedLengths_refused : ∀ p ∈
    ([(1, 0), (2, 1), (3, 1), (4, 2), (5, 1), (7, 1), (9, 1), (10, 2), (12, 0), (13, 0), (15, 1), (16, 0), (17, 1),
      (18, 1), (20, 1), (21, 8), (22, 32), (23, 0), (24, 4), (25, 4)] : List (Nat × Nat)),
    ∃ handle, HandledBy p.1 handle ∧ RefusesLength handle p.2 := by
  simp only [List.forall_mem_cons]
  exact ⟨⟨_, ⟨rfl, rfl⟩, refuses_readSummary⟩, ⟨_, ⟨rfl, rfl⟩, refuses_readSlot.length⟩,
    ⟨_, ⟨rfl, rfl⟩, refuses_collectStatus.length⟩, ⟨_, ⟨rfl, rfl⟩, refuses_startOperation.length⟩,
    ⟨_, ⟨rfl, rfl⟩, refuses_haltSlot.length⟩, ⟨_, ⟨rfl, rfl⟩, refuses_readSlotConfig.length⟩,
    ⟨_, ⟨rfl, rfl⟩, refuses_readLane.length⟩, ⟨_, ⟨rfl, rfl⟩, refuses_readLaneCounters.length⟩,
    ⟨_, ⟨rfl, rfl⟩, refuses_readPolicy⟩, ⟨_, ⟨rfl, rfl⟩, refuses_lockPolicy⟩,
    ⟨_, ⟨rfl, rfl⟩, refuses_setSampleMode.length⟩, ⟨_, ⟨rfl, rfl⟩, refuses_sampleNext⟩,
    ⟨_, ⟨rfl, rfl⟩, refuses_sampleInput.length⟩, ⟨_, ⟨rfl, rfl⟩, refuses_readSamples⟩,
    ⟨_, ⟨rfl, rfl⟩, refuses_readRetired.length⟩, ⟨_, ⟨rfl, rfl⟩, refuses_forgetRetired⟩,
    ⟨_, ⟨rfl, rfl⟩, refuses_provisionKey⟩, ⟨_, ⟨rfl, rfl⟩, refuses_resumeStream⟩,
    ⟨_, ⟨rfl, rfl⟩, refuses_clearConditions⟩, ⟨_, ⟨rfl, rfl⟩, refuses_writeFaultMask⟩, nofun⟩

/-- Each request whose first argument byte has a bound refuses a greater one (R185). -/
theorem firstBytes_refused : ∀ p ∈
    ([(2, 7), (3, 7), (4, 7), (5, 7), (7, 7), (9, 15), (10, 15), (15, 2), (17, 7), (20, 47)] : List (Nat × Nat)),
    ∃ handle, HandledBy p.1 handle ∧ RefusesAbove handle p.2 := by
  simp only [List.forall_mem_cons]
  exact ⟨⟨_, ⟨rfl, rfl⟩, refuses_readSlot.above⟩, ⟨_, ⟨rfl, rfl⟩, refuses_collectStatus.above⟩,
    ⟨_, ⟨rfl, rfl⟩, refuses_startOperation.mono fun _ h => .inr (.inl h)⟩, ⟨_, ⟨rfl, rfl⟩, refuses_haltSlot.above⟩,
    ⟨_, ⟨rfl, rfl⟩, refuses_readSlotConfig.above⟩, ⟨_, ⟨rfl, rfl⟩, refuses_readLane.above⟩,
    ⟨_, ⟨rfl, rfl⟩, refuses_readLaneCounters.above⟩, ⟨_, ⟨rfl, rfl⟩, refuses_setSampleMode.above⟩,
    ⟨_, ⟨rfl, rfl⟩, refuses_sampleInput.above⟩, ⟨_, ⟨rfl, rfl⟩, refuses_readRetired.above⟩, nofun⟩

/-! ### The answers -/

section Answers
variable {code tag shape seq count : Byte} {args : List Byte} {s : State}

/-- A CONTROL frame of an unknown code is answered UNKNOWN_REQUEST (R185, step 1). -/
theorem exec_unknownRequest (h : RequestNext code tag args shape seq count s) (hk : knownRequest code = false) :
    exec .unknownRequest s = .next ((s.consumed seq).replied tag code .unknownRequest []) := by
  have hrow : frameRow (linkFrame 0xA5 shape seq count (code :: tag :: args)) = .unknownRequest := by
    have hcode : byteAt (linkFrame 0xA5 shape seq count (code :: tag :: args)) 6 = code := rfl
    have hkind : frameKind 0xA5 = some .control := rfl
    unfold frameRow
    rw [linkFrame_kind, hkind, hcode]
    exact if_neg (by simp [hk])
  have he : exec .unknownRequest s = .next (takeFrame .unknownRequest (handleControl handleUnknown) s) := rfl
  rw [he, takeFrame_handles h.taken hrow (failedCheck_control h.guard h.arguments),
    handleControl_of_running h.taken.running, linkFrame_sequence, executeRequest, if_pos (by exact h.replies)]
  rfl

theorem exec_refuses {handle : List Byte → State → Answer} {bad : List Byte → Prop}
    (h : RequestNext code tag args shape seq count s) (hc : HandledBy code.toNat handle) (hr : Refuses handle bad)
    (hbad : bad args) : exec (requestCommand code) s = .next ((s.consumed seq).replied tag code .badArgument []) := by
  have hcode : byteOf code.toNat = code := by simp [byteOf]
  obtain ⟨hreq, hknown⟩ := hc
  rw [hcode] at hreq hknown
  rw [exec_request hreq hknown h, hr args _ hbad]
  rfl

end Answers

/-- Settles O27: an unknown code has no request to execute, and what a request refuses is what its argument reader refuses. -/
theorem refusedRequests : Obligations.RefusedRequests := by
  intro code tag args shape seq count s h
  refine ⟨fun hc => exec_unknownRequest h ?_, fun k hk hne => ?_, fun bound hb hlt => ?_, ?_, ?_, ?_, ?_, ?_⟩
  · rcases hc with rfl | hc
    · rfl
    · simp [knownRequest, Nat.not_le.mpr hc]
  · obtain ⟨handle, hc, hr⟩ := fixedLengths_refused _ hk
    exact exec_refuses h hc hr hne
  · obtain ⟨handle, hc, hr⟩ := firstBytes_refused _ hb
    exact exec_refuses h hc hr hlt
  · rintro rfl - hkind
    exact exec_refuses h ⟨rfl, rfl⟩ refuses_startOperation (.inr (.inr hkind))
  · rintro rfl hbad
    exact exec_refuses h ⟨rfl, rfl⟩ refuses_writeLane hbad
  · rintro rfl hbad
    exact exec_refuses h ⟨rfl, rfl⟩ refuses_writeSlotConfig hbad
  · rintro rfl hbad
    exact exec_refuses h ⟨rfl, rfl⟩ refuses_writePolicy hbad
  · rintro rfl hbad
    exact exec_refuses h ⟨rfl, rfl⟩ refuses_writeSequence hbad

end Sys2Proof.Machine
end

section
/-! WRITE LANE (O34): the selection is read back as it was sent, and its fields are judged and stored (R23 to R27). -/

namespace Sys2Proof.Machine

/-! ### The arguments of a WRITE LANE -/

/-- A selection that fits, with a field selected, is read back as the lane and the values sent, where R23, step 3, accepts them. -/
theorem writeLaneArguments_of_fits (l : Lane) {v : List (Option Nat)} (h : SelectionFits laneWidths v) (hv : ∃ x, some x ∈ v) :
    writeLaneArguments ([byteOf l.val] ++ beBytes 2 (selectionBits v) ++ selectionBytes laneWidths v) =
      if laneValuesLegal v then some (l, v) else none := by
  have hbits : selectionBits v < 256 ^ 2 := by
    have hlt := selectionBits_lt v
    rw [length_of_selectionFits h] at hlt
    exact hlt.trans (by decide)
  have hlane : fieldAt ([byteOf l.val] ++ beBytes 2 (selectionBits v) ++ selectionBytes laneWidths v) 0 1 = l.val := by
    have hl : l.val < 256 := by omega
    rw [fieldAt_one]
    exact Nat.mod_eq_of_lt hl
  have hselection : fieldAt ([byteOf l.val] ++ beBytes 2 (selectionBits v) ++ selectionBytes laneWidths v) 1 2 = selectionBits v := by
    have hf := fieldAt_append [byteOf l.val] (beBytes 2 (selectionBits v)) (selectionBytes laneWidths v)
    rwa [beBytes_length, beNat_beBytes_of_lt hbits] at hf
  have hvalues : selectedValues laneWidths 0 (selectionBits v) (selectionBytes laneWidths v) = some v :=
    selectedValues_of_fits h (by simp)
  have hdrop : ([byteOf l.val] ++ beBytes 2 (selectionBits v) ++ selectionBytes laneWidths v).drop 3 =
      selectionBytes laneWidths v := by simp
  unfold writeLaneArguments
  rw [hlane, hselection, hdrop, hvalues, laneOf_val, if_neg (by simp)]
  cases hlegal : laneValuesLegal v <;> simp [nothingSelected_eq_false hv, hlegal]

/-- What R23, step 3, accepts: a slot byte of 0 to 7 or 0FFh, a thermal input and a default band of 0 to 7. -/
theorem laneValuesLegal_iff (v : List (Option Nat)) :
    laneValuesLegal v = true ↔
      ∀ x, (fieldOf v 0 = some x → x < 8 ∨ x = 255) ∧ (fieldOf v 5 = some x → x < 8) ∧ (fieldOf v 6 = some x → x < 8) := by
  have hslot : slotByteLegal (fieldOf v 0) = true ↔ ∀ x, fieldOf v 0 = some x → x < 8 ∨ x = 255 := by
    cases fieldOf v 0 <;> simp [slotByteLegal]
  have hmost : ∀ o : Option Nat, atMost 7 o = true ↔ ∀ x, o = some x → x < 8 := fun o => by
    cases o <;> simp [atMost, Nat.lt_succ_iff]
  rw [laneValuesLegal, Bool.and_eq_true, Bool.and_eq_true, hslot, hmost, hmost, forall_and, forall_and, and_assoc]

/-! ### The fields as they are stored -/

theorem map_written {α β : Type} (g : α → β) (v : List (Option Nat)) (i : Nat) (store : Nat → α) (old : α) :
    g (written v i store old) = written v i (fun x => g (store x)) (g old) := by
  unfold written
  cases fieldOf v i <;> rfl

/-- A field is stored alike by two functions that agree on its selected value. -/
theorem written_congr {α : Type} {v : List (Option Nat)} {i : Nat} {f g : Nat → α} (h : ∀ x, fieldOf v i = some x → f x = g x)
    (old : α) : written v i f old = written v i g old := by
  unfold written
  cases hx : fieldOf v i with
  | none => rfl
  | some x => exact h x hx

theorem storedNozzles_eq (x : Nat) : storedNozzles x = max 64 (min (x - x % 64) 2048) := by
  have h : x / 64 * 64 = x - x % 64 := by omega
  rw [storedNozzles, clamp, h]

theorem slotOf_map_val {x : Nat} (h : x < 8 ∨ x = 255) : (slotOf x).map (·.val) = if x = 255 then none else some x := by
  rcases h with h | rfl
  · have hx : x ≠ 255 := by omega
    simp [slotOf, h, hx]
  · rfl

theorem inputOf_getD_val {x : Nat} (h : x < 8) (d : ThermalInput) : ((inputOf x).getD d).val = x := by simp [inputOf, h]

/-- The slot and nozzles of a lane are fixed by a selection of either of them in OPEN and RESUME_PENDING (R23, step 4). -/
theorem laneFixed_iff (v : List (Option Nat)) (stream : StreamState) :
    laneFixed v stream = true ↔
      (fieldOf v 0 ≠ none ∨ fieldOf v 1 ≠ none) ∧ (stream = .opened ∨ stream = .resumePending) := by
  simp [laneFixed, Option.isSome_iff_ne_none]

/-! ### The answer -/

section Answer
variable {l : Lane} {v : List (Option Nat)} {tag shape seq count : Byte} {s : State}

/-- A WRITE LANE with a field selected is refused for its values, is turned away while slot and nozzles are fixed, or is written
with the wait test after it (R23). -/
theorem exec_writeLane (hv : SelectionFits laneWidths v) (hx : ∃ x, some x ∈ v)
    (h : RequestNext 0x08 tag ([byteOf l.val] ++ beBytes 2 (selectionBits v) ++ selectionBytes laneWidths v) shape seq count s) :
    exec .writeLane s = .next
      (if laneValuesLegal v = false then (s.consumed seq).replied tag 0x08 .badArgument []
      else if laneFixed v s.port.stream then (s.consumed seq).replied tag 0x08 .busy []
      else State.replied tag 0x08 .ok []
        (waitTest ((s.consumed seq).setLane l (writeLaneEntry v (s.laneEntry l))))) := by
  have hstream : (s.consumed seq).port.stream = s.port.stream := rfl
  have hentry : (s.consumed seq).laneEntry l = s.laneEntry l := rfl
  rw [exec_request rfl rfl h, handleWriteLane, writeLaneArguments_of_fits l hv hx]
  cases laneValuesLegal v with
  | false => rfl
  | true =>
    simp only [if_true, hstream, hentry]
    cases laneFixed v s.port.stream <;> rfl

end Answer

/-- Settles O34: the three steps of R23 in their order, and each field stored as its own rule adjusts it. -/
theorem writeLane : Obligations.WriteLane := by
  intro l v tag shape seq count s hv hx h
  rw [exec_writeLane hv hx h]
  refine ⟨fun ⟨x, hbad⟩ => ?_, fun hlegal hsel hs => ?_, fun hlegal hfree hne => ?_⟩
  · have hill : laneValuesLegal v = false := by
      rw [← Bool.not_eq_true, laneValuesLegal_iff]
      intro hlegal
      obtain ⟨h0, h5, h6⟩ := hlegal x
      rcases hbad with ⟨hf, hb, hb'⟩ | ⟨hf, hb⟩ | ⟨hf, hb⟩
      · have := h0 hf; omega
      · have := h5 hf; omega
      · have := h6 hf; omega
    rw [if_pos hill]
  · rw [if_neg (by simp [(laneValuesLegal_iff v).mpr hlegal]), if_pos ((laneFixed_iff v _).mpr ⟨hsel, hs⟩)]
  · have hfix : ¬laneFixed v s.port.stream = true := by
      rw [laneFixed_iff]
      rintro ⟨hsel, hs⟩
      rcases hfree with ⟨h0, h1⟩ | hidle | hheld
      · exact hsel.elim (· h0) (· h1)
      · simp [hidle] at hs
      · simp [hheld] at hs
    have hwait : waitTest ((s.consumed seq).setLane l (writeLaneEntry v (s.laneEntry l))) =
        (s.consumed seq).setLane l (writeLaneEntry v (s.laneEntry l)) := waitTest_of_ne hne
    rw [if_neg (by simp [(laneValuesLegal_iff v).mpr hlegal]), if_neg hfix, hwait]
    refine ⟨writeLaneEntry v (s.laneEntry l), rfl, ?_, ?_, rfl, rfl, rfl, ?_, ?_, fun b => ?_⟩
    · exact (map_written (Option.map fun n : Slot => n.val) v 0 slotOf _).trans
        (written_congr (fun x hf => slotOf_map_val ((hlegal x).1 hf)) _)
    · exact written_congr (fun x _ => storedNozzles_eq x) _
    · exact (map_written (fun x : ThermalInput => x.val) v 5 _ _).trans
        (written_congr (fun x hf => inputOf_getD_val ((hlegal x).2.1 hf) _) _)
    · exact (map_written (fun x : ThermalInput => x.val) v 6 _ _).trans
        (written_congr (fun x hf => inputOf_getD_val ((hlegal x).2.2 hf) _) _)
    · simp only [writeLaneEntry, Fin.getElem_fin, Vector.getElem_ofFn]
      exact written_congr (fun _ _ => rfl) _

end Sys2Proof.Machine
end

section
/-! Layouts of reply data: messages built field after field, blocks of equal fields, and the layouts of READ SLOT, READ POLICY
and READ SAMPLES (section 11.6; O26). -/

namespace Sys2Proof.Machine

/-! ### Messages built field after field -/

/-- The fields stand one behind the other from an offset on. -/
def Consecutive : Nat → List (Nat × List Byte) → Prop
  | _, [] => True
  | i, p :: rest => p.1 = i ∧ Consecutive (i + p.2.length) rest

theorem hasFields_append {pre : List Byte} {fields : List (Nat × List Byte)} (h : Consecutive pre.length fields) :
    HasFields (pre ++ fields.flatMap Prod.snd) fields := by
  induction fields generalizing pre with
  | nil => exact nofun
  | cons p rest ih =>
    obtain ⟨hp, hrest⟩ := h
    have hd : pre ++ (p :: rest).flatMap Prod.snd = (pre ++ p.2) ++ rest.flatMap Prod.snd := by simp
    refine List.forall_mem_cons.mpr ⟨field_of_append (post := rest.flatMap Prod.snd) rfl hp.symm, ?_⟩
    rw [hd]
    exact ih (by rwa [List.length_append])

/-- A message made of consecutive fields holds each of them at its offset. -/
theorem hasFields_of_consecutive {d : List Byte} {fields : List (Nat × List Byte)} (h : Consecutive 0 fields)
    (hd : d = fields.flatMap Prod.snd) : HasFields d fields := by
  rw [hd]
  exact hasFields_append (pre := []) h

/-- A block of parts of one length holds part j at j times that length. -/
theorem flatMap_part {α : Type} {f : α → List Byte} {k : Nat} (hf : ∀ a, (f a).length = k) {l : List α} {j : Nat}
    (hj : j < l.length) : ((l.flatMap f).drop (k * j)).take k = f l[j] := by
  induction l generalizing j with
  | nil => exact absurd hj (Nat.not_lt_zero j)
  | cons a l ih =>
    cases j with
    | zero => simp [List.take_left' (hf a)]
    | succ j =>
      rw [List.flatMap_cons, Nat.mul_succ, Nat.add_comm, ← List.drop_drop, List.drop_left' (hf a)]
      exact ih (by simpa using hj)

theorem flatMap_length {α : Type} {f : α → List Byte} {k : Nat} (hf : ∀ a, (f a).length = k) (l : List α) :
    (l.flatMap f).length = k * l.length := by
  simp [List.length_flatMap, hf, Nat.mul_comm]

/-- A message that holds a block of parts of one length holds each part. -/
theorem hasFields_part {α : Type} {d : List Byte} {i k : Nat} {f : α → List Byte} {l : List α}
    (h : (d.drop i).take (l.flatMap f).length = l.flatMap f) (hf : ∀ a, (f a).length = k) {j : Nat} (hj : j < l.length) :
    HasFields d [(i + k * j, f l[j])] := by
  have hfit : k ≤ k * l.length - k * j := by
    rw [← Nat.mul_sub]
    exact Nat.le_mul_of_pos_right k (Nat.sub_pos_of_lt hj)
  refine List.forall_mem_singleton.mpr ?_
  dsimp only
  rw [hf, ← flatMap_part hf hj, ← h, flatMap_length hf, List.drop_take, List.take_take, Nat.min_eq_left hfit, List.drop_drop]

/-- A list of parts of one length that is cut or filled to m of them. -/
theorem padTo_flatMap {α : Type} {f : α → List Byte} {k : Nat} (hf : ∀ a, (f a).length = k) (m : Nat) (l : List α) :
    padTo (k * m) (l.flatMap f) = (List.range m).flatMap fun i => ((l[i]?).map f).getD (List.replicate k 0) := by
  induction m generalizing l with
  | zero => simp [padTo]
  | succ m ih =>
    rw [List.range_succ_eq_map, List.flatMap_cons, List.flatMap_map, Nat.mul_succ]
    cases l with
    | nil =>
      have h := ih []
      simp only [List.flatMap_nil, List.getElem?_nil, padTo, List.nil_append, List.take_replicate, Nat.min_self] at h ⊢
      rw [Nat.add_comm, List.replicate_add, h]
      rfl
    | cons a l =>
      have h := ih l
      have hfill : ∀ bs : List Byte, padTo (k * m + k) (f a ++ bs) = f a ++ padTo (k * m) bs := fun bs => by
        have ha := hf a
        simp only [padTo, List.append_assoc]
        rw [List.take_append, ha, Nat.add_sub_cancel, List.take_of_length_le (by omega), List.replicate_add,
          ← List.append_assoc, List.take_append_of_le_length (by simp)]
      rw [List.flatMap_cons, hfill, h]
      rfl

/-! ### Bytes and codes -/

theorem beBytes_one (n : Nat) : beBytes 1 n = [byteOf n] := by simp [beBytes, byteOf]

theorem beBytes_two (n : Nat) : beBytes 2 n = [byteOf (n / 256), byteOf n] := by simp [beBytes, byteOf]

theorem supplyCode_eq (c : ContactSupply) : c.code = codeIn [.off, .settling, .poweredOn] c := by cases c <;> rfl

theorem bindingCode_eq (b : BindingState) : b.code = codeIn bindingStates b := by cases b <;> rfl

theorem reasonCode_eq (r : Option FailureReason) : codeOr0 FailureReason.code r = reasonCode r := by
  cases r with
  | none => rfl
  | some r => cases r <;> rfl

theorem kindCode_eq (k : OpKind) : k.code = kindCodeOf (some k) := by cases k <;> rfl

theorem transactionNumber_eq (t : Transaction) :
    t.number = codeIn [none, some .ident, some .challenge, some .advance] (some t) := by cases t <;> rfl

theorem conditionIndex_eq (c : LaneCondition) : c.index.val = codeIn conditionOrder c := by cases c <;> rfl

theorem actionCode_eq (a : Action) : a.code = codeIn actionOrder a := by cases a <;> rfl

theorem modeCode_eq (m : SampleMode) : m.code = codeIn [SampleMode.off, .swathPaced, .requestPaced] m := by cases m <;> rfl

theorem retiredCode_eq (r : RetiredReason) : r.code = codeIn [RetiredReason.emptied, .refill] r := by cases r <;> rfl

/-! ### The slot data -/

theorem uEst_eq (r : BindingRecord) : r.uEst = estimateOf r := rfl

theorem overdraw_eq (r : BindingRecord) : r.overdraw.getD 0 = overdrawIn r := by
  unfold BindingRecord.overdraw BindingRecord.level BindingRecord.capacity overdrawIn
  rw [uEst_eq]
  cases r.identity <;> cases estimateOf r <;> rfl

theorem emptyHolds_eq (r : BindingRecord) : emptyHolds r = emptyOf r := by
  unfold emptyHolds BindingRecord.level BindingRecord.capacity emptyOf
  rw [uEst_eq]
  cases r.identity <;> cases estimateOf r <;> rfl

theorem lowShown_eq (c : SlotContext) : lowShown c = lowOf c := by
  unfold lowShown lowHolds BindingRecord.level BindingRecord.capacity lowOf
  rw [uEst_eq]
  cases c.record.identity <;> cases estimateOf c.record <;> rfl

theorem statusByte_eq (c : SlotContext) :
    byteOf (flagAt 0 (decide (c.seat = .seated)) + flagAt 1 c.debounce.isSome + c.supply.code * 4 +
        flagAt 4 c.record.verifiedOnce + flagAt 5 (lowShown c) + flagAt 6 (emptyHolds c.record)) =
      packed [(0, (decide (c.seat = .seated)).toNat), (1, c.debounce.isSome.toNat),
        (2, codeIn [.off, .settling, .poweredOn] c.supply), (4, c.record.verifiedOnce.toNat), (5, (lowOf c).toNat),
        (6, (emptyOf c.record).toNat)] := by
  rw [byteOf, packed, lowShown_eq, emptyHolds_eq, supplyCode_eq]
  simp only [flagAt_eq]
  simp [Nat.add_assoc]

theorem bindingByte_eq (c : SlotContext) :
    byteOf (c.bindingState.code + codeOr0 FailureReason.code c.record.failure * 16) =
      packed [(0, codeIn bindingStates c.bindingState), (4, reasonCode c.record.failure)] := by
  rw [byteOf, packed, bindingCode_eq, reasonCode_eq]
  simp

theorem currentByte_of_none {c : SlotContext} (h : c.current = none) : byteOf (currentByte c) = 0 := by
  simp [currentByte, h, byteOf]

theorem currentByte_of_some {c : SlotContext} {op : CurrentOp} (h : c.current = some op) :
    byteOf (currentByte c) =
      packed [(0, kindCodeOf (some op.kind)), (3, (decide (op.origin = .requested)).toNat),
        (4, if c.attempt = none then 0 else codeIn [none, some .ident, some .challenge, some .advance] (some op.step)),
        (6, op.haltPending.toNat)] := by
  rw [byteOf, packed, currentByte, h]
  dsimp only
  rw [kindCode_eq, transactionNumber_eq]
  simp only [flagAt_eq]
  cases c.attempt <;> simp [Nat.add_assoc]

theorem attemptByte_eq (a : Option Attempt) : codeOr0 Attempt.number a = (a.map (·.number)).getD 0 := by cases a <;> rfl

theorem placeOf_eq (e : Option QueueEntry) : queuePlace e = placeOf e := by
  cases e with
  | none => rfl
  | some e => simp [queuePlace, placeOf, kindCode_eq, flagAt_eq, Nat.mul_comm]

theorem placeOf_lt (e : Option QueueEntry) : placeOf e < 16 := by
  cases e with
  | none => decide
  | some e =>
    obtain ⟨kind, origin⟩ := e
    cases kind <;> cases origin <;> decide

theorem queueWord_eq (q : List QueueEntry) :
    beBytes 2 (queueWord q) =
      [packed [(4, placeOf q[0]?), (0, placeOf q[1]?)], packed [(4, placeOf q[2]?), (0, placeOf q[3]?)]] := by
  have h2 := placeOf_lt q[2]?
  have h3 := placeOf_lt q[3]?
  have hhigh : queueWord q / 256 = placeOf q[0]? * 16 + placeOf q[1]? := by
    simp only [queueWord, placeOf_eq]; omega
  have hlow : queueWord q % 256 = (placeOf q[2]? * 16 + placeOf q[3]?) % 256 := by
    simp only [queueWord, placeOf_eq]; omega
  have hbyte : byteOf (queueWord q) = byteOf (placeOf q[2]? * 16 + placeOf q[3]?) := BitVec.eq_of_toNat_eq (by
    simpa [byteOf] using hlow)
  rw [beBytes_two, hhigh, hbyte]
  simp [packed, byteOf]

theorem presentByte_eq (r : BindingRecord) :
    byteOf (flagAt 0 r.identity.isSome + flagAt 1 r.uBind.isSome + flagAt 2 r.lastWritten.isSome + flagAt 3 r.uEst.isSome) =
      packed [(0, r.identity.isSome.toNat), (1, r.uBind.isSome.toNat), (2, r.lastWritten.isSome.toNat),
        (3, (estimateOf r).isSome.toNat)] := by
  rw [byteOf, packed, uEst_eq]
  simp only [flagAt_eq]
  simp [Nat.add_assoc]

theorem identityBytes_eq (i : Option Identity) :
    identityBytes i = beBytes 8 ((i.map (·.serial.toNat)).getD 0) ++ beBytes 1 ((i.map (·.inkType)).getD 0) ++
      beBytes 4 ((i.map (·.capacity)).getD 0) ++ beBytes 1 ((i.map (·.generation)).getD 0) := by
  cases i <;> rfl

theorem marksByte_eq (r : BindingRecord) :
    byteOf (flagAt 0 r.lowMark + flagAt 1 r.emptyMark + flagAt 2 r.overdrawMark) =
      packed [(0, r.lowMark.toNat), (1, r.emptyMark.toNat), (2, r.overdrawMark.toNat)] := by
  rw [byteOf, packed]
  simp only [flagAt_eq]
  simp [Nat.add_assoc]

theorem trippedByte_eq (e : Evidence) :
    byteOf (flagAt 0 e.regression.tripped + flagAt 1 e.retiredMatch.tripped + flagAt 2 e.overdraw.tripped +
        flagAt 3 e.advanceRefused.tripped) =
      packed [(0, e.regression.tripped.toNat), (1, e.retiredMatch.tripped.toNat), (2, e.overdraw.tripped.toNat),
        (3, e.advanceRefused.tripped.toNat)] := by
  rw [byteOf, packed]
  simp only [flagAt_eq]
  simp [Nat.add_assoc]

theorem evidenceBytes_eq (c : SlotContext) (k : EvidenceKind) :
    evidenceBytes c k = attributeBytes c (c.record.evidence.get k) (k.threshold c.config) := rfl

@[simp] theorem attributeBytes_length (c : SlotContext) (a : EvidenceAttr) (t : Nat) : (attributeBytes c a t).length = 6 := by
  simp [attributeBytes]

@[simp] theorem signedBytes_length (r : Option Int) : (signedBytes r).length = 5 := by simp [signedBytes]

theorem slotData_length (n : Slot) (c : SlotContext) : (slotData n c).length = 101 := by
  unfold slotData
  simp only [identityBytes_eq, evidenceBytes_eq, remainingBytes_eq, List.length_append, List.length_cons, List.length_nil,
    beBytes_length, attributeBytes_length, signedBytes_length]

theorem slotData_layout (n : Slot) (c : SlotContext) : SlotLayout n c (slotData n c) := by
  refine ⟨slotData_length n c, hasFields_of_consecutive ?_ ?_⟩
  · simp only [Consecutive, List.length_cons, List.length_nil, beBytes_length, attributeBytes_length, signedBytes_length,
      and_true]
  · unfold slotData
    dsimp only
    rw [statusByte_eq, bindingByte_eq, attemptByte_eq, queueWord_eq, presentByte_eq, identityBytes_eq, uEst_eq,
      remainingBytes_eq, remaining_eq_inkLeft, overdraw_eq, marksByte_eq, trippedByte_eq]
    cases hop : c.current with
    | none =>
      simp only [currentByte_of_none hop, evidenceBytes_eq, Evidence.get, EvidenceKind.threshold, List.flatMap_cons,
        List.flatMap_nil, List.append_assoc, List.cons_append, List.nil_append, List.append_nil]
    | some op =>
      simp only [currentByte_of_some hop, evidenceBytes_eq, Evidence.get, EvidenceKind.threshold, List.flatMap_cons,
        List.flatMap_nil, List.append_assoc, List.cons_append, List.nil_append, List.append_nil]

/-! ### The policy data -/

theorem conditionByte_eq (s : State) (l : Lane) :
    byteOf ((s.laneCondition l).index.val + (s.laneAction l).code * 16) =
      packed [(0, codeIn conditionOrder (s.laneCondition l)), (4, codeIn actionOrder (s.laneAction l))] := by
  rw [byteOf, packed, conditionIndex_eq, actionCode_eq]
  simp

/-- The two bytes of a hold cause: its lane and its condition. -/
def causeBytes (h : HoldCause) : List Byte := [byteOf h.lane.val, byteOf (codeIn conditionOrder h.condition)]

/-- The blocks of the policy data: actions, allowance, lock, causes and their number, and the lanes. -/
def policyBlocks (s : State) : List (Nat × List Byte) :=
  [(0, s.policy.actions.toList.flatMap fun a => [byteOf (codeIn actionOrder a)]), (12, beBytes 2 s.policy.allowance),
    (14, [packed [(0, s.policy.locked.toNat)]]), (15, [byteOf s.policy.holdCauses.length]),
    (16, (List.range 16).flatMap fun i => ((s.policy.holdCauses[i]?).map causeBytes).getD (List.replicate 2 0)),
    (48, allLanes.flatMap fun l =>
      [packed [(0, codeIn conditionOrder (s.laneCondition l)), (4, codeIn actionOrder (s.laneAction l))]])]

theorem causePlace_length (l : List HoldCause) (i : Nat) : (((l[i]?).map causeBytes).getD (List.replicate 2 0)).length = 2 := by
  cases l[i]? <;> rfl

theorem policyData_eq (s : State) : policyData s = (policyBlocks s).flatMap Prod.snd := by
  have hcauses : padTo 32 (s.policy.holdCauses.flatMap fun h => [byteOf h.lane.val, byteOf h.condition.index.val]) =
      (List.range 16).flatMap fun i => ((s.policy.holdCauses[i]?).map causeBytes).getD (List.replicate 2 0) := by
    have hf : (fun h : HoldCause => [byteOf h.lane.val, byteOf h.condition.index.val]) = causeBytes :=
      funext fun h => by rw [conditionIndex_eq]; rfl
    rw [hf]
    exact padTo_flatMap (k := 2) (fun _ => rfl) 16 _
  have hlocked : byteOf (flagAt 0 s.policy.locked) = packed [(0, s.policy.locked.toNat)] := by
    cases s.policy.locked <;> rfl
  unfold policyData policyBlocks
  simp only [hcauses, hlocked, conditionByte_eq]
  simp only [actionCode_eq, List.map_eq_flatMap, List.flatMap_cons, List.flatMap_nil, List.append_assoc,
    List.cons_append, List.nil_append, List.append_nil]

theorem policyBlocks_places (s : State) :
    Consecutive 0 (policyBlocks s) ∧ ((policyBlocks s).flatMap Prod.snd).length = 64 := by
  have hactions := flatMap_length (k := 1) (fun _ => rfl) s.policy.actions.toList
    (f := fun a => [byteOf (codeIn actionOrder a)])
  have hcauses := flatMap_length (causePlace_length s.policy.holdCauses) (List.range 16)
  have hlanes := flatMap_length (k := 1) (fun _ => rfl) allLanes (f := fun l =>
    [packed [(0, codeIn conditionOrder (s.laneCondition l)), (4, codeIn actionOrder (s.laneAction l))]])
  have h16 : allLanes.length = 16 := rfl
  rw [Vector.length_toList] at hactions
  rw [List.length_range] at hcauses
  constructor
  · simp only [Consecutive, policyBlocks, hactions, hcauses, List.length_cons, List.length_nil, beBytes_length, and_true]
  · simp only [policyBlocks, List.flatMap_cons, List.flatMap_nil, List.length_append, hactions, hcauses, hlanes, h16,
      List.length_cons, List.length_nil, beBytes_length]

theorem policyData_layout (s : State) : PolicyLayout s (policyData s) := by
  obtain ⟨hplaces, hlength⟩ := policyBlocks_places s
  have hfields := hasFields_of_consecutive hplaces (policyData_eq s)
  simp only [HasFields, policyBlocks, List.forall_mem_cons] at hfields
  obtain ⟨hactions, hallowance, hlocked, hnumber, hcauses, hlanes, -⟩ := hfields
  refine ⟨by rw [policyData_eq, hlength], ?_, fun i => ?_, fun i hi => ?_, fun l => ?_⟩
  · exact List.forall_mem_cons.mpr ⟨hallowance, List.forall_mem_cons.mpr ⟨hlocked, List.forall_mem_singleton.mpr hnumber⟩⟩
  · have h := hasFields_part (k := 1) hactions (fun _ => rfl) (j := i.val) (by simp)
    simpa using h
  · have h := hasFields_part hcauses (causePlace_length _) (j := i) (by simpa using hi)
    rw [List.getElem_range] at h
    cases hh : s.policy.holdCauses[i]? with
    | none => simpa [hh] using h
    | some c => simpa [hh, causeBytes] using h
  · have hl : allLanes[l.val]'l.isLt = l := by revert l; decide
    have h := hasFields_part (k := 1) hlanes (fun _ => rfl) (j := l.val) l.isLt
    simpa [hl] using h

/-! ### The sample data -/

/-- The latest sample in the sample data: 0FFFFh where there is none (R74). -/
def latestBytes (o : Option Code) : List Byte := beBytes 2 ((o.map (·.val)).getD 0xFFFF)

theorem sampleBytes_eq : sampleBytes = latestBytes := funext fun o => by cases o <;> rfl

theorem conversionByte_of_some (cv : Conversion) :
    byteOf (conversionByte (some cv)) = packed [(7, 1), (0, cv.input.val), (3, (decide (cv.origin = .direct)).toNat)] := by
  rw [byteOf, packed, conversionByte, flagAt_eq]
  simp [Nat.add_assoc]

/-- The blocks of the sample data: mode, depth, sequence, position, conversion, samples, thresholds, limits, skipped triggers. -/
def sampleBlocks (m : Monitor) : List (Nat × List Byte) :=
  [(0, [byteOf (codeIn [SampleMode.off, .swathPaced, .requestPaced] m.mode)]), (1, [byteOf m.sequence.length]),
    (2, (List.range 8).flatMap fun i => ((m.sequence[i]?).map fun x => [byteOf x.val]).getD (List.replicate 1 0)),
    (10, [byteOf m.position]), (11, [byteOf (conversionByte m.conversion)]), (12, m.samples.toList.flatMap latestBytes),
    (28, m.thresholds.toList.flatMap fun t => beBytes 2 t), (42, m.limits.toList.flatMap fun t => beBytes 2 t),
    (58, beBytes 4 m.skipped)]

theorem samplesData_eq (m : Monitor) : samplesData m = (sampleBlocks m).flatMap Prod.snd := by
  have hsequence : padTo 8 (m.sequence.map fun x => byteOf x.val) =
      (List.range 8).flatMap fun i => ((m.sequence[i]?).map fun x => [byteOf x.val]).getD (List.replicate 1 0) := by
    rw [List.map_eq_flatMap]
    exact padTo_flatMap (k := 1) (fun _ => rfl) 8 _
  unfold samplesData sampleBlocks
  rw [hsequence, modeCode_eq, sampleBytes_eq]
  simp only [List.flatMap_cons, List.flatMap_nil, List.append_assoc, List.cons_append, List.nil_append, List.append_nil]

theorem sequencePlace_length (l : List ThermalInput) (i : Nat) :
    (((l[i]?).map fun x => [byteOf x.val]).getD (List.replicate 1 0)).length = 1 := by
  cases l[i]? <;> rfl

theorem sampleBlocks_places (m : Monitor) :
    Consecutive 0 (sampleBlocks m) ∧ ((sampleBlocks m).flatMap Prod.snd).length = 62 := by
  have hsequence := flatMap_length (sequencePlace_length m.sequence) (List.range 8)
  have hsamples := flatMap_length (k := 2) (f := latestBytes) (fun _ => beBytes_length 2 _) m.samples.toList
  have hnumbers := flatMap_length (f := fun t => beBytes 2 t) (beBytes_length 2)
  rw [List.length_range] at hsequence
  rw [Vector.length_toList] at hsamples
  constructor
  · simp only [Consecutive, sampleBlocks, hsequence, hsamples, hnumbers, Vector.length_toList, List.length_cons, List.length_nil,
      and_true]
  · simp only [sampleBlocks, List.flatMap_cons, List.flatMap_nil, List.length_append, hsequence, hsamples, hnumbers,
      Vector.length_toList, List.length_cons, List.length_nil, beBytes_length]

theorem samplesData_layout (m : Monitor) : SamplesLayout m (samplesData m) := by
  obtain ⟨hplaces, hlength⟩ := sampleBlocks_places m
  have hfields := hasFields_of_consecutive hplaces (samplesData_eq m)
  simp only [HasFields, sampleBlocks, List.forall_mem_cons] at hfields
  obtain ⟨hmode, hdepth, hsequence, hposition, hconversion, hsamples, hthresholds, hlimits, hskipped, -⟩ := hfields
  refine ⟨by rw [samplesData_eq, hlength], ?_, fun i hi => ?_, fun x => ?_, fun i => ?_⟩
  · simp only [HasFields, List.forall_mem_cons]
    refine ⟨hmode, hdepth, hposition, ?_, hskipped, nofun⟩
    cases hcv : m.conversion with
    | none => rw [hcv] at hconversion; exact hconversion
    | some cv => rw [hcv, conversionByte_of_some] at hconversion; exact hconversion
  · have h := hasFields_part hsequence (sequencePlace_length m.sequence) (j := i) (by simpa using hi)
    rw [List.getElem_range] at h
    cases hx : m.sequence[i]? with
    | none => simpa [hx] using h
    | some x => simpa [hx] using h
  · have hs := hasFields_part hsamples (fun _ => beBytes_length 2 _) (j := x.val) (by simp)
    have hl := hasFields_part hlimits (beBytes_length 2) (j := x.val) (by simp)
    exact List.forall_mem_cons.mpr ⟨by simpa [HasFields, latestBytes] using hs, by simpa [HasFields] using hl⟩
  · have h := hasFields_part hthresholds (beBytes_length 2) (j := i.val) (by simp)
    simpa using h

end Sys2Proof.Machine
end

section
/-! The reading requests (O26): each is answered OK with its data as they stand. -/

namespace Sys2Proof.Machine

/-! ### The data in the words of the statements -/

theorem laneSlotByte_eq (o : Option Slot) : laneSlotByte o = (o.map fun n => byteOf n.val).getD 0xFF := by cases o <;> rfl

theorem retiredBytes_eq (e : RetiredEntry) : retiredBytes e = entryBytes e := by
  rw [retiredBytes, entryBytes, retiredCode_eq, beBytes_one, beBytes_one]

theorem retiredData_eq (l : List RetiredEntry) (p : Nat) :
    retiredData l p = [byteOf l.length, byteOf (min 4 (l.length - p))] ++ ((l.drop p).take 4).flatMap entryBytes := by
  have hf : retiredBytes = entryBytes := funext retiredBytes_eq
  simp only [retiredData, hf, List.length_take, List.length_drop]

/-- The expected number of a frame just consumed is there, so READ SUMMARY shows it and not "any" (R7, R186). -/
theorem summaryData_consumed (seq : Byte) (s : State) :
    summaryData (s.consumed seq) =
      beBytes 4 (s.consumed seq).conditionVector.toNat ++ beBytes 4 s.agent.faultMask.toNat ++
        [byteOf s.store.commitQueue.length, if s.store.program = none then 0x00 else 0x01, byteOf s.store.invalidCount,
          seq + 1, 0x00] := by
  have hprogram : byteOf (flagAt 0 s.store.program.isSome) = if s.store.program = none then 0x00 else 0x01 := by
    cases s.store.program <;> rfl
  rw [← hprogram]
  rfl

theorem clearChoice_eq (b : Byte) : clearChoice b = b.getLsbD 0 := by
  rw [clearChoice, BitVec.getLsbD, Nat.testBit_zero]
  cases Nat.mod_two_eq_zero_or_one b.toNat with
  | inl h => rw [h]; rfl
  | inr h => rw [h]; rfl

/-! ### The arguments as they are read -/

theorem slotArgument_byteOf (n : Slot) : slotArgument [byteOf n.val] = some n := by
  have hn : (byteOf n.val).toNat = n.val := Nat.mod_eq_of_lt (by omega)
  change slotOf (byteOf n.val).toNat = some n
  rw [hn, slotOf_val]

theorem byteOf_lane (l : Lane) : laneOf (byteOf l.val).toNat = some l := by
  have hl : (byteOf l.val).toNat = l.val := Nat.mod_eq_of_lt (by omega)
  rw [hl, laneOf_val]

theorem placeArgument_byteOf {p : Nat} (h : p ≤ 47) : placeArgument [byteOf p] = some p := by
  have hp : (byteOf p).toNat = p := Nat.mod_eq_of_lt (by omega)
  change (if 47 < (byteOf p).toNat then none else some (byteOf p).toNat) = some p
  rw [hp, if_neg (Nat.not_lt.mpr h)]

/-! ### The answers -/

theorem handleReadSlot_byteOf (n : Slot) (s : State) : handleReadSlot [byteOf n.val] s = okWith (slotData n (s.slot n)) s := by
  rw [handleReadSlot, slotArgument_byteOf]

theorem handleReadSlotConfig_byteOf (n : Slot) (s : State) :
    handleReadSlotConfig [byteOf n.val] s = okWith (slotConfigData (s.slot n).config) s := by
  rw [handleReadSlotConfig, slotArgument_byteOf]

theorem handleReadLane_byteOf (l : Lane) (s : State) :
    handleReadLane [byteOf l.val] s = okWith (laneData (s.laneEntry l)) s := by
  have ha : laneArgument [byteOf l.val] = some l := byteOf_lane l
  rw [handleReadLane, ha]

theorem handleReadRetired_byteOf {p : Nat} (h : p ≤ 47) (s : State) :
    handleReadRetired [byteOf p] s = okWith (retiredData s.refill.retired p) s := by
  rw [handleReadRetired, placeArgument_byteOf h]

/-- READ LANE COUNTERS zeroes the counters it has read where bit 0 of its clear byte is set (R36). -/
theorem handleReadLaneCounters_byteOf (l : Lane) (clear : Byte) (s : State) :
    handleReadLaneCounters [byteOf l.val, clear] s =
      okWith (countersData s.lanes.counters[l])
        { s with
            lanes := { s.lanes with
              counters := if clear.getLsbD 0 then s.lanes.counters.set l LaneCounters.zero else s.lanes.counters } } := by
  have ha : countersArguments [byteOf l.val, clear] = some (l, clear.getLsbD 0) := by
    rw [countersArguments, byteOf_lane, clearChoice_eq]
    rfl
  rw [handleReadLaneCounters, ha]
  cases clear.getLsbD 0 <;> rfl

/-- READ SAMPLES zeroes the skipped-trigger count it has read where bit 0 of its clear byte is set (R74). -/
theorem handleReadSamples_clear (clear : Byte) (s : State) :
    handleReadSamples [clear] s =
      okWith (samplesData s.monitor)
        { s with monitor := { s.monitor with skipped := if clear.getLsbD 0 then 0 else s.monitor.skipped } } := by
  have ha : clearArgument [clear] = some (clear.getLsbD 0) := by
    rw [← clearChoice_eq]
    rfl
  rw [handleReadSamples, ha]
  cases clear.getLsbD 0 <;> rfl

/-- Settles O26: each request is answered with its data, which are those of its layout. -/
theorem readRequests : Obligations.ReadRequests := by
  intro tag shape seq count s
  refine ⟨fun h => ?_, fun n h => ⟨?_, slotData_layout n _⟩, fun n h => ?_, fun l h => ?_, fun h => ⟨?_, policyData_layout s⟩,
    fun p hp h => ?_, fun l clear h => ?_, fun clear h => ⟨?_, samplesData_layout _⟩⟩
  · rw [exec_request rfl rfl h, ← summaryData_consumed]
    rfl
  · rw [exec_request rfl rfl h, handleReadSlot_byteOf]
    rfl
  · rw [exec_request rfl rfl h, handleReadSlotConfig_byteOf]
    rfl
  · rw [exec_request rfl rfl h, handleReadLane_byteOf, laneData, laneSlotByte_eq]
    rfl
  · rw [exec_request rfl rfl h]
    rfl
  · rw [exec_request rfl rfl h, handleReadRetired_byteOf hp, retiredData_eq]
    rfl
  · rw [exec_request rfl rfl h, handleReadLaneCounters_byteOf]
    rfl
  · rw [exec_request rfl rfl h, handleReadSamples_clear]
    rfl

end Sys2Proof.Machine
end

section
/-! Marks and status: what a binding's estimate gives (R44, R48 to R51, R135), what a merge adds to the pending status (R118,
R119), and the band of a sample (R38; O24). -/

namespace Sys2Proof.Machine

/-! ### The band of a sample -/

/-- Of an ascending list as many elements are within a bound as there are places whose element is. -/
theorem le_iff_lt_countP_of_ascending {l : List Nat} (h : l.Pairwise (· < ·)) (x i : Nat) (hi : i < l.length) :
    l[i] ≤ x ↔ i < l.countP fun t => decide (t ≤ x) := by
  induction l generalizing i with
  | nil => simp at hi
  | cons a l ih =>
    obtain ⟨ha, hl⟩ := List.pairwise_cons.mp h
    by_cases hx : a ≤ x
    · cases i with
      | zero => simp [hx]
      | succ i => simpa [hx] using ih hl i (by simpa using hi)
    · have hnone : ∀ t ∈ a :: l, ¬t ≤ x := fun t ht => by
        rcases List.mem_cons.mp ht with rfl | ht
        · exact hx
        · have := ha t ht; omega
      have hzero : (a :: l).countP (fun t => decide (t ≤ x)) = 0 :=
        List.countP_eq_zero.mpr fun t ht => by simpa using hnone t ht
      rw [hzero]
      exact iff_of_false (hnone _ (List.getElem_mem hi)) (Nat.not_lt_zero i)

/-- Settles O24: the volume is computed with the report's band, and a threshold is met exactly when it is among the first b. -/
theorem bandOfASample : Obligations.BandOfASample := by
  intro m r hasc
  refine ⟨reportBand m r, rfl, fun hnone => by simp [reportBand, hnone], fun code hcode i => ?_⟩
  have hband : (reportBand m r).val = m.thresholds.toList.countP fun t => decide (t ≤ code.val) := by
    simp [reportBand, hcode, bandOf]
  rw [hband, ← le_iff_lt_countP_of_ascending hasc code.val i.val (by simp)]
  simp

/-! ### Levels at an estimate -/

section Level
variable {r : BindingRecord} {cfg : SlotConfig} {capacity estimate : Nat}

/-- An identified binding with U_bind is judged at U_bind plus metered, against its capacity (R44, R48). -/
theorem level_eq {i : Identity} {u : Nat} (hi : r.identity = some i) (hu : r.uBind = some u) :
    r.level = some (min (u + r.metered) 4294967295, i.capacity) := by
  simp [BindingRecord.level, BindingRecord.uEst, BindingRecord.capacity, hi, hu, satAdd32, satAdd, Config.max32]

theorem level_eq_none (h : r.identity = none ∨ r.uBind = none) : r.level = none := by
  rcases h with h | h
  · cases hu : r.uEst <;> simp [BindingRecord.level, BindingRecord.capacity, h, hu]
  · simp [BindingRecord.level, BindingRecord.uEst, h]

theorem lowHolds_at (h : r.level = some (estimate, capacity)) : lowHolds cfg r = lowAt cfg capacity estimate := by
  simp [lowHolds, h, lowAt]

theorem emptyHolds_at (h : r.level = some (estimate, capacity)) : emptyHolds r = decide (capacity ≤ estimate) := by
  simp [emptyHolds, h]

theorem overdraw_at (h : r.level = some (estimate, capacity)) : r.overdraw = some (overdrawOf capacity estimate) := by
  simp [BindingRecord.overdraw, h, overdrawOf]

theorem overdrawReached_at (h : r.level = some (estimate, capacity)) :
    overdrawReached cfg r = decide (cfg.tolerance ≤ overdrawOf capacity estimate) := by
  simp [overdrawReached, overdraw_at h]

/-- The judgment of the marks with the hand-over, in the words of the statements (R49 to R51, R135). -/
theorem judgeSilently_at (h : r.level = some (estimate, capacity)) :
    judgeSilently cfg r = (judgedAt cfg capacity estimate r, suspectAt cfg capacity estimate r) := by
  have hj : (judgeMarks cfg r).level = some (estimate, capacity) := h
  unfold judgeSilently handOverdraw
  rw [overdraw_at hj]
  refine Prod.ext ?_ ?_
  · simp only [setRaw, judgeMarks, judgedAt, lowHolds_at h, emptyHolds_at h, overdrawReached_at h]
    rfl
  · have hiff : (decide (cfg.tolerance ≤ overdrawOf capacity estimate) && !r.evidence.overdraw.tripped) = true ↔
        r.evidence.overdraw.tripped = false ∧ cfg.tolerance ≤ overdrawOf capacity estimate := by simp [and_comm]
    exact if_congr hiff rfl rfl

/-- Without U_est or a capacity no mark is judged and no overdraw handed over (R50). -/
theorem judgeSilently_none (h : r.level = none) : judgeSilently cfg r = (r, 0) := by
  have hm : judgeMarks cfg r = r := by
    simp [judgeMarks, lowHolds, emptyHolds, overdrawReached, BindingRecord.overdraw, h]
  simp [judgeSilently, hm, handOverdraw, BindingRecord.overdraw, h]

end Level

/-! ### The pending status -/

section Status
variable (allowance : Nat) (p : Option Primary) (e : Byte) (a : Word16) (c : SlotContext)

@[simp] theorem eventsOf_mergeStatus : eventsOf (mergeStatus allowance p e a c) = eventsOf c ||| e := by
  unfold mergeStatus
  split
  · next h => simp [h.2.1]
  · cases hs : c.status <;> simp [eventsOf, hs]

@[simp] theorem alertsOf_mergeStatus : alertsOf (mergeStatus allowance p e a c) = alertsOf c ||| a := by
  unfold mergeStatus
  split
  · next h => simp [h.2.2]
  · cases hs : c.status <;> simp [alertsOf, hs]

@[simp] theorem eventsOf_refreshSnapshot : eventsOf (refreshSnapshot allowance c) = eventsOf c := by
  cases hs : c.status <;> simp [eventsOf, refreshSnapshot, hs]

@[simp] theorem alertsOf_refreshSnapshot : alertsOf (refreshSnapshot allowance c) = alertsOf c := by
  cases hs : c.status <;> simp [alertsOf, refreshSnapshot, hs]

/-- What a merge carries: something, or it is none (R116, R118). -/
def Carries (p : Option Primary) (e : Byte) (a : Word16) : Prop := ¬(p = none ∧ e = 0 ∧ a = 0)

variable {p e a}

theorem carries_alert (h : a ≠ 0) : Carries p e a := fun hn => h hn.2.2

theorem carries_primary {q : Primary} : Carries (some q) e a := fun hn => by simp at hn

/-- A merge that carries something takes its own snapshot, so a refresh before it leaves no trace (R118, R119). -/
theorem mergeStatus_refreshSnapshot (h : Carries p e a) :
    mergeStatus allowance p e a (refreshSnapshot allowance c) = mergeStatus allowance p e a c := by
  unfold mergeStatus
  rw [if_neg h, if_neg h]
  cases hs : c.status <;> simp [refreshSnapshot, hs] <;> rfl

/-- A merge that follows a change of the binding state sees the state and record entered (R90, R118). -/
theorem mergeStatus_enterState (h : Carries p e a) (b : BindingState) (reason : Option FailureReason) :
    mergeStatus allowance p e a (enterState allowance b reason c) =
      mergeStatus allowance p e a
        { c with bindingState := b, record := (enterState allowance b reason c).record } := by
  cases b
  case pendingId | pendingAuth | unverified => rfl
  all_goals exact mergeStatus_refreshSnapshot allowance _ h

/-- A refresh that follows a merge is the merge at the state and record entered (R90, R119). -/
theorem refreshSnapshot_mergeStatus (h : Carries p e a) (b : BindingState) (r : BindingRecord) :
    refreshSnapshot allowance { mergeStatus allowance p e a c with bindingState := b, record := r } =
      mergeStatus allowance p e a { c with bindingState := b, record := r } := by
  unfold mergeStatus
  rw [if_neg h, if_neg h]
  cases hs : c.status <;> simp [refreshSnapshot] <;> rfl

end Status

end Sys2Proof.Machine
end

section
/-! WRITE SLOT CONFIG (O33): the selection is read back as it was sent, its fields are clamped, and the marks are judged where
low mark or tolerance moved (R50, R81, R92, R93). -/

namespace Sys2Proof.Machine

/-! ### The arguments of a WRITE SLOT CONFIG -/

/-- A selected value that fits is below the bound of its field's width. -/
theorem SelectionFits.fieldOf_lt {ws : List Nat} {v : List (Option Nat)} (h : SelectionFits ws v) {i x : Nat}
    (hx : fieldOf v i = some x) : x < 256 ^ ws.getD i 0 := by
  induction ws generalizing v i with
  | nil =>
    cases v with
    | nil => simp [fieldOf] at hx
    | cons o rest => exact h.elim
  | cons w ws ih =>
    cases v with
    | nil => exact h.elim
    | cons o rest =>
      cases i with
      | zero => exact h.1 x hx
      | succ i => exact ih h.2 hx

theorem byteOf_toNat {k : Nat} (h : k < 256) : (byteOf k).toNat = k := Nat.mod_eq_of_lt h

/-- A selection that fits, with a field selected, is read back as the slot and the values sent. -/
theorem writeConfigArguments_of_fits (n : Slot) {v : List (Option Nat)} (h : SelectionFits slotConfigWidths v)
    (hv : ∃ x, some x ∈ v) :
    writeConfigArguments ([byteOf n.val, byteOf (selectionBits v)] ++ selectionBytes slotConfigWidths v) = some (n, v) := by
  have hbits : selectionBits v < 256 := by
    have hlt := selectionBits_lt v
    rwa [length_of_selectionFits h] at hlt
  have hslot : fieldAt ([byteOf n.val, byteOf (selectionBits v)] ++ selectionBytes slotConfigWidths v) 0 1 = n.val := by
    rw [fieldAt_one]
    exact byteOf_toNat (by omega)
  have hselection :
      fieldAt ([byteOf n.val, byteOf (selectionBits v)] ++ selectionBytes slotConfigWidths v) 1 1 = selectionBits v := by
    rw [fieldAt_one]
    exact byteOf_toNat hbits
  have hvalues : selectedValues slotConfigWidths 0 (selectionBits v) (selectionBytes slotConfigWidths v) = some v :=
    selectedValues_of_fits h (by simp)
  have hdrop : ([byteOf n.val, byteOf (selectionBits v)] ++ selectionBytes slotConfigWidths v).drop 2 =
      selectionBytes slotConfigWidths v := rfl
  unfold writeConfigArguments
  rw [hslot, hselection, hdrop, hvalues, slotOf_val, if_neg (by simp)]
  simp [nothingSelected_eq_false hv]

/-- A selection that fits is stored within the ranges of R92 by the clamps that can bind. -/
theorem writeSlotConfig_of_fits {v : List (Option Nat)} (h : SelectionFits slotConfigWidths v) (c : SlotConfig) :
    writeSlotConfig v c =
      { inkType := written v 0 id c.inkType, lowMark := written v 1 (fun x => min x 1000) c.lowMark,
        tolerance := written v 2 (fun x => max 1 (min x 1000)) c.tolerance,
        writeBack := written v 3 (fun x => max 1 x) c.writeBack, verify := written v 4 id c.verify,
        settle := written v 5 (fun x => max 1 (min x 15)) c.settle, idle := written v 6 id c.idle,
        timeout := written v 7 (fun x => max 5 (min x 100)) c.timeout } := by
  have hbyte : ∀ i, slotConfigWidths.getD i 0 = 1 → ∀ x, fieldOf v i = some x → clamp 0 255 x = id x := fun i hi x hx => by
    have hlt := h.fieldOf_lt hx
    rw [hi] at hlt
    simp only [clamp, id]
    omega
  have hword : ∀ i, slotConfigWidths.getD i 0 = 2 → ∀ low x, fieldOf v i = some x → clamp low 65535 x = max low x :=
    fun i hi low x hx => by
      have hlt := h.fieldOf_lt hx
      rw [hi] at hlt
      simp only [clamp]
      omega
  have hlow : clamp 0 1000 = fun x => min x 1000 := funext fun x => Nat.zero_max _
  have hverify : ∀ x, fieldOf v 4 = some x → clamp 0 65535 x = id x := fun x hx =>
    (hword 4 rfl 0 x hx).trans (Nat.zero_max x)
  simp only [writeSlotConfig, written_congr (hbyte 0 rfl), written_congr (hbyte 6 rfl), written_congr (hword 3 rfl 1),
    written_congr hverify, hlow, SlotConfig.mk.injEq, true_and]
  exact ⟨rfl, rfl, rfl⟩

/-! ### The judgment that follows -/

theorem marksMove_iff (old new : SlotConfig) :
    marksMove old new = true ↔ new.lowMark ≠ old.lowMark ∨ new.tolerance ≠ old.tolerance := by
  rw [marksMove, Bool.or_eq_true, decide_eq_true_iff, decide_eq_true_iff]
  exact or_congr ne_comm ne_comm

/-- A configured slot whose marks are not to be judged, or that has no estimate, stays as it is (R50). -/
theorem judgeConfigured_stays {b : Bool} {n : Slot} {s : State}
    (h : b = false ∨ (s.slot n).bindingState = .released ∨ (s.slot n).record.level = none) : judgeConfigured b n s = s := by
  have hp : evidenceIf (b && decide ((s.slot n).bindingState ≠ .released)) (judgeSilently (s.slot n).config)
      ((s.slot n).record, 0) = ((s.slot n).record, 0) := by
    rcases h with h | h | h
    · simp [evidenceIf, h]
    · simp [evidenceIf, h]
    · simp [evidenceIf, judgeSilently_none h]
  unfold judgeConfigured State.modSlot
  dsimp only
  rw [hp]
  exact State.setSlot_slot n s

/-- A configured slot is judged at its estimate, without an event (R50, R51). -/
theorem judgeConfigured_at {n : Slot} {s : State} {capacity estimate : Nat} (hb : (s.slot n).bindingState ≠ .released)
    (hl : (s.slot n).record.level = some (estimate, capacity)) :
    judgeConfigured true n s = s.setSlot n
      (mergeStatus s.policy.allowance none 0 (suspectAt (s.slot n).config capacity estimate (s.slot n).record)
        { s.slot n with record := judgedAt (s.slot n).config capacity estimate (s.slot n).record }) := by
  unfold judgeConfigured State.modSlot
  simp [evidenceIf, hb, judgeSilently_at hl]

theorem judgeConfigured_setSlot (b : Bool) (n : Slot) (c : SlotContext) (s : State) :
    ∃ d, judgeConfigured b n (s.setSlot n c) = s.setSlot n d := by
  unfold judgeConfigured State.modSlot
  exact ⟨_, State.setSlot_setSlot n _ _ s⟩

/-! ### The answer -/

/-- The slot once its configuration is written, before its marks are judged (R81, R93). -/
def configuredSlot (v : List (Option Nat)) (cfg : SlotConfig) (c : SlotContext) : SlotContext :=
  { c with
      config := cfg,
      idleTimer :=
        if fieldOf v 6 ≠ none ∧ c.supply = .poweredOn ∧ c.attempt = none then
          (if cfg.idle = 0 then none else some (cfg.idle * 100))
        else c.idleTimer }

theorem handleWriteSlotConfig_of_arguments {args : List Byte} {n : Slot} {v : List (Option Nat)} (s : State)
    (h : writeConfigArguments args = some (n, v)) :
    handleWriteSlotConfig args s = okWith []
      (judgeConfigured (marksMove (s.slot n).config (writeSlotConfig v (s.slot n).config)) n
        (s.setSlot n (configuredSlot v (writeSlotConfig v (s.slot n).config) (s.slot n)))) := by
  unfold handleWriteSlotConfig
  rw [h]
  dsimp only [State.modSlot]
  generalize writeSlotConfig v (s.slot n).config = cfg
  cases hf : fieldOf v 6 with
  | none => simp [configuredSlot, hf]
  | some x =>
    by_cases hs : (s.slot n).supply = .poweredOn ∧ (s.slot n).attempt = none
    · simp [configuredSlot, hf, hs, restartIdle, idleStart]
    · simp only [Option.isSome_some, if_true, State.slot_setSlot_self, State.setSlot_setSlot, restartIdle, if_neg hs,
        configuredSlot, hf, ne_eq, reduceCtorEq, not_false_eq_true, true_and]

/-- Settles O33: the fields are stored clamped, and the judgment of R50 follows where one of its settings moved. -/
theorem writeSlotConfig_holds : Obligations.WriteSlotConfig := by
  intro n v tag shape seq count cfg c1 s hv hx h hcfg hc1
  have hc1' : c1 = configuredSlot v cfg (s.slot n) := hc1
  have hconf : c1.config = cfg := by rw [hc1]
  have hst : c1 = ((s.consumed seq).setSlot n c1).slot n := (State.slot_setSlot_self n c1 _).symm
  obtain ⟨c', hc'⟩ := judgeConfigured_setSlot (marksMove (s.slot n).config cfg) n c1 (s.consumed seq)
  have hslot : ∀ d, (s.consumed seq).setSlot n c' = (s.consumed seq).setSlot n d → c' = d := fun d hd => by
    simpa using congrArg (·.slot n) hd
  refine ⟨c', ?_, fun hstay => hslot _ ?_, fun i u U hmove hb hi hu hU => hslot _ ?_⟩
  · have hslot' : (s.consumed seq).slot n = s.slot n := rfl
    rw [exec_request rfl rfl h, handleWriteSlotConfig_of_arguments _ (writeConfigArguments_of_fits n hv hx), hslot',
      writeSlotConfig_of_fits hv, ← hcfg, ← hc1', hc']
    rfl
  · rw [← hc']
    refine judgeConfigured_stays ?_
    rw [← hst]
    rcases hstay with hm | hb | hi | hu
    · refine .inl ?_
      rw [← Bool.not_eq_true, marksMove_iff]
      tauto
    · exact .inr (.inl hb)
    · exact .inr (.inr (level_eq_none (.inl hi)))
    · exact .inr (.inr (level_eq_none (.inr hu)))
  · have hl := level_eq hi hu
    rw [← hU, hst] at hl
    rw [hst] at hb
    rw [← hc', (marksMove_iff _ _).mpr hmove, judgeConfigured_at hb hl, State.slot_setSlot_self, State.setSlot_setSlot, ← hconf]
    rfl

end Sys2Proof.Machine
end

section
/-! The operations of a slot as they become current (R99 to R105): how an entry begins, what it leaves of the binding, and how
far the queue runs. -/

namespace Sys2Proof.Machine

/-! ### The tests of R99 -/

theorem stateCondition_iff (kind : OpKind) (c : SlotContext) : stateCondition kind c = true ↔ MeetsCondition kind c := by
  cases kind with
  | bind => cases hb : c.bindingState <;> simp [stateCondition, MeetsCondition, hb]
  | verify => cases hb : c.bindingState <;> simp [stateCondition, MeetsCondition, hb, Option.isSome_iff_ne_none]
  | writeBack => simp [stateCondition, MeetsCondition]
  | release => simp [stateCondition, MeetsCondition]

theorem mayJoin_iff (kind : OpKind) (c : SlotContext) : mayJoin kind c = true ↔ MayJoin kind c := by
  rw [mayJoin, Bool.and_eq_true, stateCondition_iff]
  unfold MayJoin
  refine and_congr_right fun _ => ?_
  cases kind <;> simp [releaseBar]

/-- The state condition reads the binding state and whether there is an identity. -/
theorem stateCondition_congr {c d : SlotContext} (hb : d.bindingState = c.bindingState)
    (hi : d.record.identity = c.record.identity) (kind : OpKind) : stateCondition kind d = stateCondition kind c := by
  cases kind <;> simp [stateCondition, hb, hi]

/-! ### Joining the queue -/

/-- An AUTO entry joins the queue, or leaves the entry of its kind there as it is (R100). -/
theorem joinQueue_auto (kind : OpKind) (q : List QueueEntry) : joinQueue kind .auto q = autoJoined kind q := by
  unfold joinQueue autoJoined
  split
  · simp
  · rfl

theorem isQueued_autoJoined {kind other : OpKind} (h : other ≠ kind) (q : List QueueEntry) :
    isQueued other (autoJoined kind q) = isQueued other q := by
  unfold autoJoined
  split
  · rfl
  · simp [isQueued, h.symm]

/-! ### An operation that ends -/

theorem modSlot_eq (n : Slot) (f : SlotContext → SlotContext) (s : State) : s.modSlot n f = s.setSlot n (f (s.slot n)) := rfl

theorem finishOp_of_current {n : Slot} {s : State} {op : CurrentOp} (h : (s.slot n).current = some op) (r : OpResult)
    (why : Option FailureReason) (e : Byte) (a : Word16) :
    finishOp n r why e a s = s.setSlot n
      (mergeStatus s.policy.allowance (primaryOf op r why) e a { s.slot n with current := none }) := by
  simp only [finishOp, modSlot_eq, h, primaryOf]

/-! ### An attempt that starts -/

/-- A slot replaced with its attempt kept does not move the nonce drawn next (R130). -/
theorem freshNonce_setSlot {n : Slot} {c : SlotContext} {s : State} (h : c.attempt = (s.slot n).attempt) :
    (s.setSlot n c).freshNonce = s.freshNonce := by
  have hf : (s.setSlot n c).noncesInFlight = s.noncesInFlight := by
    unfold State.noncesInFlight
    refine congrArg (List.filterMap · allSlots) (funext fun k => ?_)
    rw [State.slot_setSlot]
    split
    · next hk => rw [hk, h]
    · rfl
  simp only [State.freshNonce, hf, State.setSlot_spentNonces, State.setSlot_nonceCount]

/-- A first transaction that needs the bus begins as R80 and R84 say. -/
theorem requestBus_readied (n : Slot) (kind : OpKind) (origin : Origin) (s : State) :
    requestBus n (s.setSlot n { readied kind (s.slot n) with current := some (newOp kind origin) }) =
      s.begins n kind origin := by
  have ha : (readied kind (s.slot n)).attempt = (s.slot n).attempt := by
    cases kind <;> simp only [readied]
    split <;> rfl
  unfold requestBus State.begins
  dsimp only
  rw [State.slot_setSlot_self]
  generalize readied kind (s.slot n) = c at ha ⊢
  cases hs : c.supply with
  | off => simp only [modSlot_eq, State.slot_setSlot_self, State.setSlot_setSlot, waitsFor, newOp]
  | settling => rfl
  | poweredOn =>
    simp only [startAttempt, State.slot_setSlot_self, State.setSlot_setSlot]
    cases kind with
    | bind => rfl
    | verify =>
      have hn : ∀ supply current, (s.setSlot n { c with supply := supply, current := current }).freshNonce = s.freshNonce :=
        fun _ _ => freshNonce_setSlot ha
      rw [hn]
      rfl
    | writeBack => rfl
    | release => rfl

/-! ### An entry that becomes current -/

section BeginOp
variable {n : Slot} {e : QueueEntry} {s : State}

/-- An entry that no longer meets its state condition ends STALE (R103). -/
theorem beginOp_stale (hc : (s.slot n).current = none) (h : stateCondition e.kind (s.slot n) = false) :
    beginOp n e s = s.setSlot n
      (mergeStatus s.policy.allowance (primaryOf (newOp e.kind e.origin) .stale none) 0 0 (s.slot n)) := by
  have hs : stateCondition e.kind { s.slot n with current := some (newOp e.kind e.origin) } = false := by
    rw [← h]; exact stateCondition_congr rfl rfl _
  have hn : ({ s.slot n with current := none } : SlotContext) = s.slot n := by rw [← hc]
  unfold beginOp
  dsimp only
  rw [modSlot_eq, State.slot_setSlot_self]
  rw [if_neg (by rw [Bool.not_eq_true]; exact hs)]
  rw [finishOp_of_current (op := newOp e.kind e.origin) (by rw [State.slot_setSlot_self]; rfl), State.slot_setSlot_self,
    State.setSlot_setSlot]
  dsimp only
  rw [hn]
  rfl

/-- A VERIFY that finds no key ends UNVERIFIED with KEY_ABSENT, its units since verify set to 0 (R108, R126; log 26). -/
theorem beginOp_keyless (hc : (s.slot n).current = none) (hk : e.kind = .verify) (hkey : s.keyPresent = false)
    (h : stateCondition .verify (s.slot n) = true) :
    beginOp n e s = s.setSlot n
      (mergeStatus s.policy.allowance (primaryOf (newOp e.kind e.origin) .unverified none) 0 0x0100
        { s.slot n with record := { (s.slot n).record with sinceVerify := 0 } }) := by
  obtain ⟨kind, origin⟩ := e
  cases hk
  have hs : stateCondition .verify { s.slot n with current := some (newOp .verify origin) } = true := by
    rw [← h]; exact stateCondition_congr rfl rfl _
  unfold beginOp
  dsimp only
  rw [modSlot_eq, State.slot_setSlot_self, modSlot_eq, State.slot_setSlot_self, State.setSlot_setSlot]
  rw [if_pos (by exact hs), if_neg (by rw [Bool.not_eq_true]; exact hkey)]
  rw [finishOp_of_current (op := newOp .verify origin) (by rw [State.slot_setSlot_self]; rfl), State.slot_setSlot_self,
    State.setSlot_setSlot, ← hc]
  rfl

/-- An operation that needs the bus begins its first transaction (R103, R105, R108 to R110). -/
theorem beginOp_begins (h : stateCondition e.kind (s.slot n) = true) (hv : e.kind = .verify → s.keyPresent = true)
    (hr : e.kind = .release → (s.slot n).bindingState = .verified) : beginOp n e s = s.begins n e.kind e.origin := by
  obtain ⟨kind, origin⟩ := e
  have hs : stateCondition kind { s.slot n with current := some (newOp kind origin) } = true := by
    rw [← h]; exact stateCondition_congr rfl rfl _
  rw [← requestBus_readied]
  unfold beginOp
  dsimp only
  rw [modSlot_eq, State.slot_setSlot_self]
  rw [if_pos (by exact hs)]
  cases kind with
  | bind =>
    dsimp only
    rw [modSlot_eq, State.slot_setSlot_self, State.setSlot_setSlot]
    refine congrArg (fun c => requestBus n (s.setSlot n c)) ?_
    cases hb : (s.slot n).bindingState <;> simp [replaceBinding, readied, beginBinding, hb, newOp]
  | verify =>
    dsimp only
    rw [modSlot_eq, State.slot_setSlot_self, State.setSlot_setSlot]
    rw [if_pos (by exact hv rfl)]
    rfl
  | writeBack => rfl
  | release =>
    dsimp only
    rw [if_pos (by exact hr rfl)]
    rfl

end BeginOp

/-! ### The queue as it runs -/

theorem runQueue_of_current {n : Slot} {s : State} (h : (s.slot n).current ≠ none) (k : Nat) : runQueue k n s = s := by
  cases k with
  | zero => rfl
  | succ k =>
    unfold runQueue
    cases hc : (s.slot n).current with
    | none => exact absurd hc h
    | some op => rfl

theorem runQueue_of_empty {n : Slot} {s : State} (h : (s.slot n).queue = []) (k : Nat) : runQueue k n s = s := by
  cases k with
  | zero => rfl
  | succ k =>
    unfold runQueue
    rw [h]
    cases (s.slot n).current <;> rfl

theorem runQueue_next {n : Slot} {s : State} {e : QueueEntry} {rest : List QueueEntry} (hc : (s.slot n).current = none)
    (hq : (s.slot n).queue = e :: rest) (k : Nat) :
    runQueue (k + 1) n s = runQueue k n (beginOp n e (s.setSlot n { s.slot n with queue := rest })) := by
  rw [runQueue, hc, hq]
  rfl

theorem pump_of_current {n : Slot} {s : State} (h : (s.slot n).current ≠ none) : pump n s = s := runQueue_of_current h _

theorem pump_of_empty {n : Slot} {s : State} (h : (s.slot n).queue = []) : pump n s = s := runQueue_of_empty h _

/-- A slot with no current operation and one queued entry takes it (R103). -/
theorem pump_single {n : Slot} {s : State} {e : QueueEntry} (hc : (s.slot n).current = none) (hq : (s.slot n).queue = [e]) :
    pump n s = beginOp n e (s.setSlot n { s.slot n with queue := [] }) := by
  rw [pump, hq]
  exact runQueue_next hc hq 0

/-- An operation joins the queue behind a current one, and becomes current at an idle slot (R100, R103). -/
theorem joinOp_of_current {n : Slot} {s : State} (h : (s.slot n).current ≠ none) (kind : OpKind) (origin : Origin) :
    joinOp n kind origin s = s.setSlot n { s.slot n with queue := joinQueue kind origin (s.slot n).queue } :=
  pump_of_current (by rw [modSlot_eq, State.slot_setSlot_self]; exact h)

theorem joinOp_of_idle {n : Slot} {s : State} (hc : (s.slot n).current = none) (hq : (s.slot n).queue = []) (kind : OpKind)
    (origin : Origin) : joinOp n kind origin s = beginOp n { kind := kind, origin := origin } s := by
  have hj : joinQueue kind origin (s.slot n).queue = [{ kind := kind, origin := origin }] := by rw [hq]; rfl
  have hs : ({ s.slot n with queue := [] } : SlotContext) = s.slot n := by rw [← hq]
  unfold joinOp
  rw [pump_single (e := { kind := kind, origin := origin }) (by rw [modSlot_eq, State.slot_setSlot_self]; exact hc)
    (by rw [modSlot_eq, State.slot_setSlot_self]; exact hj)]
  rw [modSlot_eq, State.slot_setSlot_self, State.setSlot_setSlot]
  dsimp only
  rw [hs, State.setSlot_slot]

/-! ### What an entry leaves of the binding -/

/-- A binding is kept: its state and its record but for the units since verify, the events placed, and the alerts but for
KEY_ABSENT, which is bit 8. -/
structure BindingKept (c d : SlotContext) : Prop where
  bindingState : d.bindingState = c.bindingState
  record : d.record = { c.record with sinceVerify := d.record.sinceVerify }
  sinceVerify : d.record.sinceVerify = c.record.sinceVerify ∨ d.record.sinceVerify = 0
  events : eventsOf d = eventsOf c
  alerts : ∀ k, k < 8 → (alertsOf d).getLsbD k = (alertsOf c).getLsbD k

theorem BindingKept.of_record {c d : SlotContext} (hb : d.bindingState = c.bindingState) (hr : d.record = c.record)
    (hs : d.status = c.status) : BindingKept c d :=
  ⟨hb, by rw [hr], .inl (by rw [hr]), by simp [eventsOf, hs], fun _ _ => by simp [alertsOf, hs]⟩

theorem BindingKept.refl (c : SlotContext) : BindingKept c c := .of_record rfl rfl rfl

theorem BindingKept.trans {c d f : SlotContext} (h : BindingKept c d) (g : BindingKept d f) : BindingKept c f where
  bindingState := g.bindingState.trans h.bindingState
  record := by
    have hr := g.record
    rw [h.record] at hr
    exact hr
  sinceVerify := by
    rcases g.sinceVerify with hg | hg
    · rw [hg]; exact h.sinceVerify
    · exact .inr hg
  events := g.events.trans h.events
  alerts k hk := (g.alerts k hk).trans (h.alerts k hk)

theorem BindingKept.identity {c d : SlotContext} (h : BindingKept c d) : d.record.identity = c.record.identity := by
  rw [h.record]

/-- Work at slot n that keeps its binding and leaves working copies, Record Store and Agent alone. -/
structure QuietWork (n : Slot) (s t : State) : Prop where
  refill : t.refill = s.refill
  store : t.store = s.store
  agent : t.agent = s.agent
  kept : BindingKept (s.slot n) (t.slot n)

theorem QuietWork.refl (n : Slot) (s : State) : QuietWork n s s := ⟨rfl, rfl, rfl, .refl _⟩

theorem QuietWork.trans {n : Slot} {s t u : State} (h : QuietWork n s t) (g : QuietWork n t u) : QuietWork n s u :=
  ⟨g.refill.trans h.refill, g.store.trans h.store, g.agent.trans h.agent, h.kept.trans g.kept⟩

theorem quietWork_setSlot {n : Slot} {c : SlotContext} {s : State} (h : BindingKept (s.slot n) c) :
    QuietWork n s (s.setSlot n c) := ⟨rfl, rfl, rfl, by rw [State.slot_setSlot_self]; exact h⟩

/-- An operation of a kind has become current at a slot, of which it leaves the rest as it was made ready (R103). -/
structure HasBegun (kind : OpKind) (c d : SlotContext) : Prop where
  current : ∃ op, d.current = some op ∧ op.kind = kind
  bindingState : d.bindingState = c.bindingState
  record : d.record = c.record
  status : d.status = c.status
  queue : d.queue = c.queue
  config : d.config = c.config

theorem HasBegun.current_ne {kind : OpKind} {c d : SlotContext} (h : HasBegun kind c d) : d.current ≠ none := by
  obtain ⟨op, ho, -⟩ := h.current
  simp [ho]

theorem hasBegun_begins (n : Slot) (kind : OpKind) (origin : Origin) (s : State) :
    HasBegun kind (readied kind (s.slot n)) ((s.begins n kind origin).slot n) := by
  have hn : ∀ (c : SlotContext) (k : Nat), State.slot { s.setSlot n c with nonceCount := k } n = c :=
    fun c _ => State.slot_setSlot_self n c s
  unfold State.begins
  dsimp only
  cases (readied kind (s.slot n)).supply with
  | off => rw [State.slot_setSlot_self]; exact ⟨⟨_, rfl, rfl⟩, rfl, rfl, rfl, rfl, rfl⟩
  | settling => rw [State.slot_setSlot_self]; exact ⟨⟨_, rfl, rfl⟩, rfl, rfl, rfl, rfl, rfl⟩
  | poweredOn =>
    cases kind with
    | verify => simp only [hn]; exact ⟨⟨_, rfl, rfl⟩, rfl, rfl, rfl, rfl, rfl⟩
    | bind | writeBack | release =>
      simp only [State.slot_setSlot_self]
      exact ⟨⟨_, rfl, rfl⟩, rfl, rfl, rfl, rfl, rfl⟩

theorem begins_blocks (n : Slot) (kind : OpKind) (origin : Origin) (s : State) :
    (s.begins n kind origin).refill = s.refill ∧ (s.begins n kind origin).store = s.store ∧
      (s.begins n kind origin).agent = s.agent := by
  unfold State.begins
  dsimp only
  cases (readied kind (s.slot n)).supply with
  | off => exact ⟨rfl, rfl, rfl⟩
  | settling => exact ⟨rfl, rfl, rfl⟩
  | poweredOn => cases kind <;> exact ⟨rfl, rfl, rfl⟩

/-- An operation other than a BIND keeps the binding when it begins. -/
theorem quietWork_begins {kind : OpKind} (h : kind ≠ .bind) (n : Slot) (origin : Origin) (s : State) :
    QuietWork n s (s.begins n kind origin) := by
  have hready : BindingKept (s.slot n) (readied kind (s.slot n)) := by
    cases kind with
    | bind => exact absurd rfl h
    | verify => exact ⟨rfl, rfl, .inr rfl, rfl, fun _ _ => rfl⟩
    | writeBack | release => exact .refl _
  have hbegun := hasBegun_begins n kind origin s
  obtain ⟨hrefill, hstore, hagent⟩ := begins_blocks n kind origin s
  exact ⟨hrefill, hstore, hagent, hready.trans (.of_record hbegun.bindingState hbegun.record hbegun.status)⟩

/-- An entry of this kind, once current, neither replaces nor ends the binding (R105, R110). -/
def LeavesBinding (kind : OpKind) (c : SlotContext) : Prop :=
  stateCondition kind c = true → kind ≠ .bind ∧ (kind = .release → c.bindingState = .verified)

theorem LeavesBinding.congr {kind : OpKind} {c d : SlotContext} (h : LeavesBinding kind c)
    (hb : d.bindingState = c.bindingState) (hi : d.record.identity = c.record.identity) : LeavesBinding kind d := by
  unfold LeavesBinding
  rw [stateCondition_congr hb hi, hb]
  exact h

/-- A VERIFIED binding is left by every kind: a BIND is STALE there, and a RELEASE goes to its ADVANCE. -/
theorem leavesBinding_of_verified {c : SlotContext} (h : c.bindingState = .verified) (kind : OpKind) : LeavesBinding kind c :=
  fun hs => ⟨fun hk => by simp [hk, stateCondition, h] at hs, fun _ => h⟩

theorem quietWork_beginOp {n : Slot} {e : QueueEntry} {s : State} (hc : (s.slot n).current = none)
    (h : LeavesBinding e.kind (s.slot n)) :
    QuietWork n s (beginOp n e s) ∧ ((beginOp n e s).slot n).queue = (s.slot n).queue := by
  cases hs : stateCondition e.kind (s.slot n) with
  | false =>
    rw [beginOp_stale hc hs]
    exact ⟨quietWork_setSlot ⟨by simp, by simp, by simp, by simp, by simp⟩, by simp⟩
  | true =>
    obtain ⟨hbind, hrelease⟩ := h hs
    by_cases hkey : e.kind = .verify ∧ s.keyPresent = false
    · obtain ⟨hk, hkey⟩ := hkey
      have h8 : ∀ k, k < 8 → BitVec.getLsbD (0x0100 : Word16) k = false := by decide
      rw [beginOp_keyless hc hk hkey (hk ▸ hs)]
      refine ⟨quietWork_setSlot ⟨by simp, by simp, by simp, ?_, fun k hk => ?_⟩, by simp⟩
      · rw [eventsOf_mergeStatus]
        exact BitVec.or_zero
      · rw [alertsOf_mergeStatus, BitVec.getLsbD_or, h8 k hk, Bool.or_false]
        rfl
    · have hv : e.kind = .verify → s.keyPresent = true := fun hk => by
        rw [← Bool.not_eq_false]
        exact fun hf => hkey ⟨hk, hf⟩
      rw [beginOp_begins hs hv hrelease]
      refine ⟨quietWork_begins hbind n _ s, ?_⟩
      rw [(hasBegun_begins n e.kind e.origin s).queue]
      cases hk : e.kind with
      | bind => exact absurd hk hbind
      | verify | writeBack | release => rfl

/-- Running a queue whose entries leave the binding keeps it (R103, R104). -/
theorem quietWork_runQueue (k : Nat) {n : Slot} {s : State} (h : ∀ e ∈ (s.slot n).queue, LeavesBinding e.kind (s.slot n)) :
    QuietWork n s (runQueue k n s) := by
  induction k generalizing s with
  | zero => exact .refl n s
  | succ k ih =>
    cases hc : (s.slot n).current with
    | some op => rw [runQueue_of_current (by simp [hc])]; exact .refl n s
    | none =>
      cases hq : (s.slot n).queue with
      | nil => rw [runQueue_of_empty hq]; exact .refl n s
      | cons e rest =>
        rw [runQueue_next hc hq]
        have hset : BindingKept (s.slot n) ((s.setSlot n { s.slot n with queue := rest }).slot n) := by
          rw [State.slot_setSlot_self]; exact .of_record rfl rfl rfl
        rw [hq] at h
        have hleaves : ∀ {d : SlotContext}, BindingKept (s.slot n) d → ∀ f ∈ e :: rest, LeavesBinding f.kind d :=
          fun hd f hf => (h f hf).congr hd.bindingState hd.identity
        obtain ⟨hwork, hqueue⟩ := quietWork_beginOp (n := n) (e := e) (s := s.setSlot n { s.slot n with queue := rest })
          (by rw [State.slot_setSlot_self]; exact hc) (hleaves hset e (by simp))
        have hfirst := (quietWork_setSlot (c := { s.slot n with queue := rest }) (.of_record rfl rfl rfl)).trans hwork
        refine hfirst.trans (ih fun f hf => ?_)
        rw [hqueue, State.slot_setSlot_self] at hf
        exact hleaves hfirst.kept f (List.mem_cons_of_mem e hf)

theorem quietWork_pump {n : Slot} {s : State} (h : ∀ e ∈ (s.slot n).queue, LeavesBinding e.kind (s.slot n)) :
    QuietWork n s (pump n s) := quietWork_runQueue _ h

theorem quietWork_pump_verified {n : Slot} {s : State} (h : (s.slot n).bindingState = .verified) : QuietWork n s (pump n s) :=
  quietWork_pump fun e _ => leavesBinding_of_verified h e.kind

end Sys2Proof.Machine
end

section
/-! A credit to a binding (O21 to O23): its counts, its marks with their events and evidence, and the automatic operations
that it asks for (R42 to R54, R99 to R103). -/

namespace Sys2Proof.Machine

/-! ### The slot once credited -/

section Credit
variable (allowance : Nat) (sum : Nat → Nat → Nat) (marked : Bool) (volume : Nat) (c : SlotContext)

/-- Steps 1 to 4 of R54 touch the record, the swath sum and the pending status alone. -/
theorem creditSlot_frame :
    creditSlot allowance sum marked volume c =
      { c with
          record := (creditSlot allowance sum marked volume c).record,
          swathCredited := (creditSlot allowance sum marked volume c).swathCredited,
          status := (creditSlot allowance sum marked volume c).status } := by
  unfold creditSlot
  dsimp only
  rw [mergeStatus_frame, mergeStatus_frame]

/-- The credited record is that of the counts, judged as a silent judgment does it (R49, R51). -/
theorem creditSlot_record :
    (creditSlot allowance sum marked volume c).record =
      (judgeSilently c.config (creditRecord (unproved c) marked volume c.record)).1 := by
  simp [creditSlot, judgeSilently]

theorem creditSlot_swathCredited :
    (creditSlot allowance sum marked volume c).swathCredited =
      sum c.swathCredited ((c.record.residue + volume) / 10240000000) := by
  simp [creditSlot, Config.qIU]

/-- The marks' events stand in the pending status where the credit carries a whole IU (R49; log 18). -/
theorem eventsOf_creditSlot :
    eventsOf (creditSlot allowance sum marked volume c) =
      eventsOf c ||| (if (c.record.residue + volume) / 10240000000 = 0 then 0
        else markEvents c.config (creditRecord (unproved c) marked volume c.record)) := by
  unfold creditSlot
  dsimp only
  rw [eventsOf_mergeStatus]
  exact BitVec.or_zero.trans (eventsOf_mergeStatus allowance none _ 0 _)

theorem alertsOf_creditSlot :
    alertsOf (creditSlot allowance sum marked volume c) =
      alertsOf c ||| (judgeSilently c.config (creditRecord (unproved c) marked volume c.record)).2 := by
  unfold creditSlot
  dsimp only
  rw [alertsOf_mergeStatus]
  refine congrArg (· ||| _) ?_
  exact (alertsOf_mergeStatus allowance none _ 0 _).trans BitVec.or_zero

/-- The judgment leaves what the credit counted (R50, R54). -/
theorem creditSlot_counts :
    (creditSlot allowance sum marked volume c).record =
      { creditRecord (unproved c) marked volume c.record with
          lowMark := (creditSlot allowance sum marked volume c).record.lowMark,
          emptyMark := (creditSlot allowance sum marked volume c).record.emptyMark,
          overdrawMark := (creditSlot allowance sum marked volume c).record.overdrawMark,
          evidence := (creditSlot allowance sum marked volume c).record.evidence } := by
  rw [creditSlot_record]
  exact judgeSilently_frame _ _

end Credit

/-- The events a judgment places, bit by bit (R49, R196). -/
theorem markEvents_bits (cfg : SlotConfig) (r : BindingRecord) :
    (markEvents cfg r).getLsbD 2 = (lowHolds cfg r && !r.lowMark) ∧
      (markEvents cfg r).getLsbD 3 = (emptyHolds r && !r.emptyMark) ∧
      (markEvents cfg r).getLsbD 4 = (overdrawReached cfg r && !r.overdrawMark) := by
  unfold markEvents
  generalize (lowHolds cfg r && !r.lowMark) = low
  generalize (emptyHolds r && !r.emptyMark) = empty
  generalize (overdrawReached cfg r && !r.overdrawMark) = overdrawn
  revert low empty overdrawn
  decide

theorem suspectAt_bit (cfg : SlotConfig) (capacity estimate : Nat) (r : BindingRecord) :
    (suspectAt cfg capacity estimate r).getLsbD 6 = decide (suspectAt cfg capacity estimate r ≠ 0) := by
  unfold suspectAt
  split <;> decide

theorem suspectAt_ne_zero_iff (cfg : SlotConfig) (capacity estimate : Nat) (r : BindingRecord) :
    suspectAt cfg capacity estimate r ≠ 0 ↔
      r.evidence.overdraw.tripped = false ∧ cfg.tolerance ≤ overdrawOf capacity estimate := by
  unfold suspectAt
  split
  · next h => exact iff_of_true (by decide) h
  · next h => exact iff_of_false (by simp) h

/-! ### Operations that a credit asks for -/

section Ask
variable {n : Slot} {s : State} (due : SlotContext → Bool) (kind : OpKind)

/-- Behind a current operation, what is due and may join enters the queue (R99 to R101). -/
theorem askIfDue_of_current (h : (s.slot n).current ≠ none) :
    askIfDue due kind n s = s.setSlot n
      { s.slot n with
          queue :=
            if due (s.slot n) && mayJoin kind (s.slot n) then autoJoined kind (s.slot n).queue else (s.slot n).queue } := by
  unfold askIfDue askAuto
  cases due (s.slot n) with
  | false => exact (State.setSlot_slot n s).symm
  | true =>
    cases hm : mayJoin kind (s.slot n) with
    | false => exact (State.setSlot_slot n s).symm
    | true => simp [joinOp_of_current h, joinQueue_auto]

/-- At an idle slot it becomes current (R103). -/
theorem askIfDue_of_idle (hc : (s.slot n).current = none) (hq : (s.slot n).queue = []) :
    askIfDue due kind n s =
      if due (s.slot n) && mayJoin kind (s.slot n) then beginOp n { kind := kind, origin := .auto } s else s := by
  unfold askIfDue askAuto
  cases due (s.slot n) with
  | false => rfl
  | true =>
    cases hm : mayJoin kind (s.slot n) with
    | false => rfl
    | true => simp [joinOp_of_idle hc hq]

/-- An automatic WRITE_BACK or VERIFY keeps the binding, and leaves a queue only behind a current operation. -/
theorem askIfDue_kept (hk : kind = .writeBack ∨ kind = .verify) (hidle : (s.slot n).current = none → (s.slot n).queue = []) :
    BindingKept (s.slot n) ((askIfDue due kind n s).slot n) ∧
      (((askIfDue due kind n s).slot n).current = none → ((askIfDue due kind n s).slot n).queue = []) := by
  cases hc : (s.slot n).current with
  | some op =>
    have hcur : (s.slot n).current ≠ none := by simp [hc]
    rw [askIfDue_of_current due kind hcur, State.slot_setSlot_self]
    exact ⟨.of_record rfl rfl rfl, fun h => absurd h hcur⟩
  | none =>
    have hq := hidle hc
    rw [askIfDue_of_idle due kind hc hq]
    split
    · have hleaves : LeavesBinding kind (s.slot n) := fun _ => by rcases hk with rfl | rfl <;> simp
      obtain ⟨hwork, hqueue⟩ := quietWork_beginOp (e := { kind := kind, origin := .auto }) hc hleaves
      exact ⟨hwork.kept, fun _ => hqueue.trans hq⟩
    · exact ⟨.refl _, fun _ => hq⟩

/-- An automatic WRITE_BACK leaves the record whole. -/
theorem askIfDue_writeBack_record (hidle : (s.slot n).current = none → (s.slot n).queue = []) :
    ((askIfDue due .writeBack n s).slot n).record = (s.slot n).record := by
  cases hc : (s.slot n).current with
  | some op => rw [askIfDue_of_current due .writeBack (by simp [hc]), State.slot_setSlot_self]
  | none =>
    rw [askIfDue_of_idle due .writeBack hc (hidle hc)]
    split
    · next hm =>
      obtain ⟨-, hm⟩ := Bool.and_eq_true_iff.mp hm
      obtain ⟨hs, -⟩ := Bool.and_eq_true_iff.mp hm
      rw [beginOp_begins (e := { kind := .writeBack, origin := .auto }) hs nofun nofun]
      exact (hasBegun_begins n .writeBack .auto s).record
    · rfl

end Ask

theorem handleReport_credits {r : DropReport} {n : Slot} {s : State} (h : r.slot = some n) (hc : Charged (s.slot n)) :
    handleReport r s = askIfDue verifyDue .verify n (askIfDue writeBackDue .writeBack n (s.setSlot n
      (creditSlot s.policy.allowance (swathSum s) r.marked (frameVolume s.monitor r) (s.slot n)))) :=
  handleReport_charged h hc

/-- A credit's operations keep the credited binding, and begin its units since verify afresh only where R53 asks (R54). -/
theorem handleReport_kept {r : DropReport} {n : Slot} {s : State} {c1 : SlotContext} (h : r.slot = some n)
    (hc : Charged (s.slot n)) (hidle : (s.slot n).current = none → (s.slot n).queue = [])
    (h1 : c1 = creditSlot s.policy.allowance (swathSum s) r.marked (frameVolume s.monitor r) (s.slot n)) :
    BindingKept c1 ((handleReport r s).slot n) ∧
      ((((handleReport r s).slot n).record.sinceVerify = c1.record.sinceVerify) ∨
        (((handleReport r s).slot n).record.sinceVerify = 0 ∧ (s.slot n).config.verify ≠ 0 ∧
          (s.slot n).config.verify ≤ c1.record.sinceVerify)) := by
  rw [handleReport_credits h hc, ← h1]
  have hslot : (s.setSlot n c1).slot n = c1 := State.slot_setSlot_self n c1 s
  have hf := creditSlot_frame s.policy.allowance (swathSum s) r.marked (frameVolume s.monitor r) (s.slot n)
  rw [← h1] at hf
  have hidle1 : ((s.setSlot n c1).slot n).current = none → ((s.setSlot n c1).slot n).queue = [] := by
    rw [hslot, hf]; exact hidle
  obtain ⟨hk1, hidle2⟩ := askIfDue_kept writeBackDue .writeBack (.inl rfl) hidle1
  have hrecord := askIfDue_writeBack_record writeBackDue hidle1
  have hconfig := (countsKept_askIfDue writeBackDue .writeBack n (s.setSlot n c1)).config
  rw [hslot] at hk1 hrecord hconfig
  generalize askIfDue writeBackDue .writeBack n (s.setSlot n c1) = s1 at hk1 hidle2 hrecord hconfig ⊢
  obtain ⟨hk2, -⟩ := askIfDue_kept verifyDue .verify (.inr rfl) hidle2
  refine ⟨hk1.trans hk2, ?_⟩
  cases hdue : verifyDue (s1.slot n) with
  | false =>
    have hs : askIfDue verifyDue .verify n s1 = s1 := by simp [askIfDue, hdue]
    rw [hs, hrecord]
    exact .inl rfl
  | true =>
    have hcfg : (s1.slot n).config = (s.slot n).config := by rw [hconfig, hf]
    simp only [verifyDue, Bool.and_eq_true, decide_eq_true_eq, hrecord, hcfg] at hdue
    obtain ⟨⟨-, hne⟩, hle⟩ := hdue
    rcases hk2.sinceVerify with hsame | hzero
    · exact .inl (by rw [hsame, hrecord])
    · exact .inr ⟨hzero, hne, hle⟩

theorem unproved_iff (c : SlotContext) : unproved c = true ↔
    c.bindingState = .pendingId ∨ c.bindingState = .pendingAuth ∨ c.bindingState = .unverified ∨
      (c.bindingState = .linkLost ∧ c.record.verifiedOnce = false) := by
  cases hb : c.bindingState <;> simp [unproved, hb]

/-- Settles O21: the counts are those of the credited record, and the operations that follow move only units since verify. -/
theorem creditArithmetic : Obligations.CreditArithmetic := by
  intro r n F q c c' s hw hr hc hcharged hF hq hc'
  subst hc
  obtain ⟨hk, hsince⟩ := handleReport_kept hr hcharged (fun h => ((hw.control n).idle h).1) rfl
  have hcounts := (sameCounts_creditBinding n r.marked (frameVolume s.monitor r) s).swathCredited
  rw [← handleReport_charged hr hcharged, creditSlot_swathCredited] at hcounts
  rw [← hc'] at hk hsince hcounts
  have hrecord := hk.record
  rw [creditSlot_counts] at hrecord hsince
  subst hF hq
  refine ⟨by rw [hrecord]; rfl, by rw [hrecord]; rfl, ?_, by rw [hrecord]; rfl, hcounts, by rw [hrecord]; rfl,
    by rw [hrecord]; rfl, by rw [hrecord]; rfl, hsince⟩
  rw [hrecord]
  exact if_congr (unproved_iff _) rfl rfl

/-- Settles O22: the credited record is judged at U, its events and alert are those of the merge, and what follows keeps them.
-/
theorem creditMarksAndEvidence : Obligations.CreditMarksAndEvidence := by
  intro r n q U i u c c' s hw hr hc hcharged hi hu hq hU hc'
  subst hc
  obtain ⟨hk, -⟩ := handleReport_kept hr hcharged (fun h => ((hw.control n).idle h).1) rfl
  rw [← hc'] at hk
  have hlevel : (creditRecord (unproved (s.slot n)) r.marked (frameVolume s.monitor r) (s.slot n).record).level =
      some (U, i.capacity) := by
    rw [hU, hq]
    exact level_eq hi hu
  have hrecord := hk.record
  rw [creditSlot_record, judgeSilently_at hlevel] at hrecord
  have hevents := hk.events
  rw [eventsOf_creditSlot, ← hq] at hevents
  have halert := hk.alerts 6 (by decide)
  rw [alertsOf_creditSlot, judgeSilently_at hlevel, BitVec.getLsbD_or, suspectAt_bit] at halert
  obtain ⟨hbit2, hbit3, hbit4⟩ := markEvents_bits (s.slot n).config
    (creditRecord (unproved (s.slot n)) r.marked (frameVolume s.monitor r) (s.slot n).record)
  rw [lowHolds_at hlevel] at hbit2
  rw [emptyHolds_at hlevel] at hbit3
  rw [overdrawReached_at hlevel] at hbit4
  have hbit : ∀ (k : Nat) (holds mark mark' : Bool), (markEvents (s.slot n).config
      (creditRecord (unproved (s.slot n)) r.marked (frameVolume s.monitor r) (s.slot n).record)).getLsbD k = (holds && !mark) →
      mark' = (mark || holds) →
      (eventsOf c').getLsbD k = ((eventsOf (s.slot n)).getLsbD k || (decide (q ≠ 0) && mark' && !mark)) := by
    intro k holds mark mark' hmark hset
    rw [hevents, BitVec.getLsbD_or, hset]
    by_cases hzero : q = 0
    · simp [hzero]
    · rw [if_neg hzero, hmark, decide_eq_true hzero]
      cases mark <;> simp
  refine ⟨?_, ?_, ?_, hbit 2 _ _ _ hbit2 (by rw [hrecord]; rfl), hbit 3 _ _ _ hbit3 (by rw [hrecord]; rfl),
    hbit 4 _ _ _ hbit4 (by rw [hrecord]; rfl), by rw [hrecord]; rfl, by rw [hrecord]; rfl, ?_, ?_, by rw [hrecord]; rfl,
    by rw [hrecord]; rfl, by rw [hrecord]; rfl⟩
  · rw [hrecord]
    simp [judgedAt, lowAt, creditRecord]
  · rw [hrecord]
    simp [judgedAt, creditRecord]
  · rw [hrecord]
    simp [judgedAt, creditRecord]
  · rw [hrecord]
    simp [judgedAt, creditRecord]
  · rw [halert, hrecord]
    refine congrArg ((alertsOf (s.slot n)).getLsbD 6 || ·) ?_
    rw [Bool.eq_iff_iff, decide_eq_true_iff, suspectAt_ne_zero_iff]
    simp only [judgedAt, creditRecord]
    cases (s.slot n).record.evidence.overdraw.tripped <;> simp

/-! ### What the two tests ask for -/

/-- The release bar of R99 on a WRITE_BACK or a VERIFY. -/
def releaseBars (c : SlotContext) : Bool := isQueued .release c.queue || isCurrent .release c

/-- The test of R53 with the state condition of a VERIFY on an identity. -/
def verifyAskable (c : SlotContext) : Bool := verifyDue c && c.record.identity.isSome

theorem writeBackDue_mayJoin (c : SlotContext) :
    (writeBackDue c && mayJoin .writeBack c) = (writeBackDue c && !releaseBars c) := by
  cases h : writeBackDue c with
  | false => rfl
  | true =>
    have hb : c.bindingState = .verified := by
      simp only [writeBackDue, Bool.and_eq_true, decide_eq_true_eq] at h
      exact h.1.1
    simp [mayJoin, stateCondition, hb, releaseBar, releaseBars]

theorem verifyDue_mayJoin (c : SlotContext) :
    (verifyDue c && mayJoin .verify c) = (verifyAskable c && !releaseBars c) := by
  unfold verifyAskable
  cases h : verifyDue c with
  | false => rfl
  | true =>
    have hb : c.bindingState = .verified ∨ c.bindingState = .linkLost := by
      simp only [verifyDue, Bool.and_eq_true, Bool.or_eq_true, decide_eq_true_eq] at h
      exact h.1.1
    rcases hb with hb | hb <;> simp [mayJoin, stateCondition, hb, releaseBar, releaseBars]

section Asked
variable {r : DropReport} {n : Slot} {s : State} {c1 : SlotContext} (hr : r.slot = some n) (hc : Charged (s.slot n))
  (h1 : c1 = creditSlot s.policy.allowance (swathSum s) r.marked (frameVolume s.monitor r) (s.slot n))
include hr hc h1

/-- Behind a current operation an AUTO WRITE_BACK, then an AUTO VERIFY, joins the queue unless a RELEASE bars it. -/
theorem handleReport_behind (hcur : c1.current ≠ none) {q1 q2 : List QueueEntry}
    (hq1 : q1 = if writeBackDue c1 && !releaseBars c1 then autoJoined .writeBack c1.queue else c1.queue)
    (hq2 : q2 = if verifyAskable c1 && !releaseBars c1 then autoJoined .verify q1 else q1) :
    handleReport r s = s.setSlot n { c1 with queue := q2 } := by
  have hbars : releaseBars { c1 with queue := q1 } = releaseBars c1 := by
    have hq : isQueued .release q1 = isQueued .release c1.queue := by
      rw [hq1]
      split
      · exact isQueued_autoJoined (by decide) _
      · rfl
    simp only [releaseBars, hq]
    rfl
  rw [handleReport_credits hr hc, ← h1,
    askIfDue_of_current writeBackDue .writeBack (by rw [State.slot_setSlot_self]; exact hcur), State.slot_setSlot_self,
    State.setSlot_setSlot, writeBackDue_mayJoin, ← hq1,
    askIfDue_of_current verifyDue .verify (by rw [State.slot_setSlot_self]; exact hcur), State.slot_setSlot_self,
    State.setSlot_setSlot, verifyDue_mayJoin, hbars, hq2]
  rfl

/-- At an idle slot the first of the two that is asked for becomes current, and a VERIFY asked for behind a WRITE_BACK waits. -/
theorem handleReport_idle (hkey : s.keyPresent = true) (hcur : c1.current = none) (hqueue : c1.queue = []) :
    handleReport r s =
      if writeBackDue c1 then
        if verifyAskable c1 then
          ((s.setSlot n c1).begins n .writeBack .auto).setSlot n
            { ((s.setSlot n c1).begins n .writeBack .auto).slot n with queue := [{ kind := .verify, origin := .auto }] }
        else (s.setSlot n c1).begins n .writeBack .auto
      else if verifyAskable c1 then (s.setSlot n c1).begins n .verify .auto
      else s.setSlot n c1 := by
  have hslot : (s.setSlot n c1).slot n = c1 := State.slot_setSlot_self n c1 s
  have hfree : releaseBars c1 = false := by simp [releaseBars, hqueue, hcur, isQueued, isCurrent]
  rw [handleReport_credits hr hc, ← h1, askIfDue_of_idle writeBackDue .writeBack (by rw [hslot]; exact hcur)
    (by rw [hslot]; exact hqueue), hslot, writeBackDue_mayJoin, hfree]
  simp only [Bool.not_false, Bool.and_true]
  cases hgap : writeBackDue c1 with
  | false =>
    simp only [Bool.false_eq_true, if_false]
    rw [askIfDue_of_idle verifyDue .verify (by rw [hslot]; exact hcur) (by rw [hslot]; exact hqueue), hslot,
      verifyDue_mayJoin, hfree]
    simp only [Bool.not_false, Bool.and_true]
    cases hworn : verifyAskable c1 with
    | false => rfl
    | true =>
      have hmay := verifyDue_mayJoin c1
      rw [hworn, hfree, Bool.not_false, Bool.and_true, Bool.and_eq_true, mayJoin, Bool.and_eq_true] at hmay
      obtain ⟨-, hs, -⟩ := hmay
      exact beginOp_begins (e := { kind := .verify, origin := .auto }) (by rw [hslot]; exact hs) (fun _ => hkey) nofun
  | true =>
    have hverified : c1.bindingState = .verified := by
      simp only [writeBackDue, Bool.and_eq_true, decide_eq_true_eq] at hgap
      exact hgap.1.1
    simp only [if_true]
    rw [beginOp_begins (e := { kind := .writeBack, origin := .auto })
      (by rw [hslot]; simp [stateCondition, hverified]) nofun nofun]
    have hbegun := hasBegun_begins n .writeBack .auto (s.setSlot n c1)
    rw [hslot] at hbegun
    generalize (s.setSlot n c1).begins n .writeBack .auto = v at hbegun ⊢
    have hnone : (v.slot n).queue = [] := hbegun.queue.trans hqueue
    have hbars : releaseBars (v.slot n) = false := by
      obtain ⟨op, ho, hk⟩ := hbegun.current
      simp [releaseBars, hnone, isQueued, isCurrent, ho, hk]
    have hask : verifyAskable (v.slot n) = verifyAskable c1 := by
      simp only [verifyAskable, verifyDue, hbegun.bindingState, hbegun.record, hbegun.config]
      rfl
    rw [askIfDue_of_current verifyDue .verify hbegun.current_ne, verifyDue_mayJoin, hbars, hask, hnone]
    cases verifyAskable c1 with
    | true => rfl
    | false =>
      have hsame : ({ v.slot n with queue := [] } : SlotContext) = v.slot n := by rw [← hnone]
      simp only [Bool.false_and, Bool.false_eq_true, if_false, hsame, State.setSlot_slot]

end Asked

section Due
variable {allowance : Nat} {sum : Nat → Nat → Nat} {marked : Bool} {volume q : Nat} {c c1 : SlotContext}
  (h1 : c1 = creditSlot allowance sum marked volume c) (hq : q = (c.record.residue + volume) / 10240000000)
include h1 hq

/-- The write-back test on the credited slot, in the values of before (R52). -/
theorem writeBackDue_credited : writeBackDue c1 = true ↔
    c.bindingState = .verified ∧ isCurrent .writeBack c = false ∧ ∃ u w, c.record.uBind = some u ∧
      c.record.lastWritten = some w ∧ w + c.config.writeBack ≤ min (u + min (c.record.metered + q) 4294967295) 4294967295 := by
  have hb : c1.bindingState = c.bindingState := by rw [h1, creditSlot_frame]
  have hcur : isCurrent .writeBack c1 = isCurrent .writeBack c := by rw [h1, creditSlot_frame]; rfl
  have hcfg : c1.config = c.config := by rw [h1, creditSlot_frame]
  have hlast : c1.record.lastWritten = c.record.lastWritten := by rw [h1, creditSlot_counts]; rfl
  have hest : c1.record.uEst =
      c.record.uBind.map fun u => min (u + min (c.record.metered + q) 4294967295) 4294967295 := by
    rw [h1, hq, creditSlot_counts]; rfl
  simp only [writeBackDue, hb, hcur, hcfg, hlast, hest, Bool.and_eq_true, decide_eq_true_eq, Bool.not_eq_true', and_assoc]
  cases c.record.uBind <;> cases c.record.lastWritten <;> simp

/-- The verify test on the credited slot, with an identity to prove, in the values of before (R53). -/
theorem verifyAskable_credited : verifyAskable c1 = true ↔
    (c.bindingState = .verified ∨ c.bindingState = .linkLost) ∧ c.record.identity ≠ none ∧ c.config.verify ≠ 0 ∧
      c.config.verify ≤ min (c.record.sinceVerify + q) 4294967295 := by
  have hb : c1.bindingState = c.bindingState := by rw [h1, creditSlot_frame]
  have hcfg : c1.config = c.config := by rw [h1, creditSlot_frame]
  have hi : c1.record.identity = c.record.identity := by rw [h1, creditSlot_counts]; rfl
  have hsince : c1.record.sinceVerify = min (c.record.sinceVerify + q) 4294967295 := by
    rw [h1, hq, creditSlot_counts]; rfl
  simp only [verifyAskable, verifyDue, hb, hcfg, hi, hsince, Bool.and_eq_true, Bool.or_eq_true, decide_eq_true_eq,
    Option.isSome_iff_ne_none]
  tauto

end Due

/-- Settles O23: at an idle slot the first test that passes begins its operation and the second waits behind it; behind a
current operation both join the queue. -/
theorem automaticOperations : Obligations.AutomaticOperations := by
  refine ⟨fun r n q U u w c c' s hw hkey hr hc hb hcur hoff hu hlw hq hU hc' => ?_,
    fun r n q c s hw hkey hr hc hcharged hq gap worn hgap hworn => ?_⟩
  · subst hc
    obtain ⟨c1, h1⟩ : ∃ c1, c1 = creditSlot s.policy.allowance (swathSum s) r.marked (frameVolume s.monitor r) (s.slot n) :=
      ⟨_, rfl⟩
    have hf := creditSlot_frame s.policy.allowance (swathSum s) r.marked (frameVolume s.monitor r) (s.slot n)
    rw [← h1] at hf
    have hcur1 : c1.current = none := by rw [hf]; exact hcur
    have hqueue1 : c1.queue = [] := by rw [hf]; exact ((hw.control n).idle hcur).1
    have hoff1 : c1.supply = .off := by rw [hf]; exact hoff
    have hconfig : c1.config = (s.slot n).config := by rw [hf]
    have hcharged : Charged (s.slot n) := by simp [Charged, hb]
    have hid : (s.slot n).record.identity ≠ none := (hw.binding n).evaluated (by simp [hu])
    have hgap : writeBackDue c1 = true ↔ w + (s.slot n).config.writeBack ≤ U := by
      rw [writeBackDue_credited h1 hq]
      simp [hb, isCurrent, hcur, hu, hlw, hU]
    have hworn : verifyAskable c1 = true ↔ (s.slot n).config.verify ≠ 0 ∧
        (s.slot n).config.verify ≤ min ((s.slot n).record.sinceVerify + q) 4294967295 := by
      rw [verifyAskable_credited h1 hq]
      simp [hb, hid]
    have hbegins : ∀ kind, kind ≠ .bind →
        (s.setSlot n c1).begins n kind .auto = s.setSlot n (waitsFor kind .auto (readied kind c1)) := fun kind hk => by
      have hsupply : (readied kind c1).supply = .off := by
        cases kind with
        | bind => exact absurd rfl hk
        | verify | writeBack | release => exact hoff1
      unfold State.begins
      simp only [State.slot_setSlot_self, hsupply, State.setSlot_setSlot]
    rw [handleReport_idle hr hcharged h1 hkey hcur1 hqueue1, hbegins .writeBack nofun, hbegins .verify nofun] at hc'
    refine ⟨fun hle => ?_, fun hlt hne hle => ?_, fun hlt hfresh => ?_⟩
    · rw [if_pos (hgap.mpr hle), State.slot_setSlot_self, State.setSlot_setSlot] at hc'
      subst hc'
      rw [← if_congr hworn rfl rfl, ← hconfig]
      cases verifyAskable c1 with
      | true => rw [if_pos rfl, if_pos rfl, State.slot_setSlot_self]; exact ⟨rfl, rfl, rfl, rfl⟩
      | false => rw [if_neg nofun, if_neg nofun, State.slot_setSlot_self]; exact ⟨rfl, rfl, rfl, hqueue1⟩
    · rw [if_neg (mt hgap.mp (Nat.not_le.mpr hlt)), if_pos (hworn.mpr ⟨hne, hle⟩), State.slot_setSlot_self] at hc'
      subst hc'
      exact ⟨rfl, rfl, congrArg (fun cfg : SlotConfig => some cfg.settle) hconfig, hqueue1, rfl⟩
    · have hnot : ¬(verifyAskable c1 = true) := fun h => by
        obtain ⟨hne, hle⟩ := hworn.mp h
        exact hfresh.elim hne (Nat.not_lt.mpr hle)
      rw [if_neg (mt hgap.mp (Nat.not_le.mpr hlt)), if_neg hnot, State.slot_setSlot_self] at hc'
      subst hc'
      exact ⟨hcur1, hoff1, hqueue1⟩
  · subst hc
    obtain ⟨c1, h1⟩ : ∃ c1, c1 = creditSlot s.policy.allowance (swathSum s) r.marked (frameVolume s.monitor r) (s.slot n) :=
      ⟨_, rfl⟩
    have hf := creditSlot_frame s.policy.allowance (swathSum s) r.marked (frameVolume s.monitor r) (s.slot n)
    rw [← h1] at hf
    have hcur1 : c1.current = (s.slot n).current := by rw [hf]
    have hqueue1 : c1.queue = (s.slot n).queue := by rw [hf]
    rw [← writeBackDue_credited h1 hq] at hgap
    rw [← verifyAskable_credited h1 hq] at hworn
    refine ⟨c1, hf, by rw [h1, creditSlot_counts]; rfl, by rw [h1, creditSlot_counts]; rfl,
      by rw [h1, creditSlot_counts]; rfl, by rw [h1, hq, creditSlot_counts]; rfl, by rw [h1, hq, creditSlot_counts]; rfl,
      fun hcur q1 q2 barred hbarred hq1 hq1' hq2 hq2' => ?_, fun hcur => ?_⟩
    · have hbars : barred ↔ releaseBars c1 = true := by
        rw [hbarred, releaseBars, Bool.or_eq_true, hqueue1]
        simp only [isCurrent, hcur1]
      refine handleReport_behind hr hcharged h1 (by rw [hcur1]; exact hcur) (q1 := q1) ?_ ?_
      · rw [hqueue1]
        split
        · next h => exact hq1 (by simpa [hgap, hbars] using h)
        · next h => exact hq1' (by simpa [hgap, hbars] using h)
      · split
        · next h => exact hq2 (by simpa [hworn, hbars] using h)
        · next h => exact hq2' (by simpa [hworn, hbars] using h)
    · rw [handleReport_idle hr hcharged h1 hkey (by rw [hcur1]; exact hcur)
        (by rw [hqueue1]; exact ((hw.control n).idle hcur).1)]
      refine ⟨fun hg hv => ?_, fun hg hv => ?_, fun hg hv => ?_, fun hg hv v hvdef => ?_⟩
      · simp [mt hgap.mpr hg, mt hworn.mpr hv]
      · simp [mt hgap.mpr hg, hworn.mp hv]
      · simp [hgap.mp hg, mt hworn.mpr hv]
      · simp [hgap.mp hg, hworn.mp hv, hvdef]

end Sys2Proof.Machine
end

section
/-! The end of a binding (R56, R78, R110, R145, R146): what it leaves with the Refill Monitor and the Record Store, and what a
RELEASE and a removal make of the slot (O31, O44). -/

namespace Sys2Proof.Machine

/-! ### The trace of an ended binding -/

/-- Asking for a commit leaves the slots alone, and they do not bear on it (R175). -/
theorem commit_setSlot (w : Write) (n : Slot) (c : SlotContext) (s : State) :
    commit w (s.setSlot n c) = (commit w s).setSlot n c := by
  unfold commit requestWrite
  dsimp only [State.setSlot_store]
  split
  · rfl
  · unfold State.raise
    by_cases hr : s.resetAsserted = true
    · rw [if_pos hr, if_pos (by exact hr)]
    · rw [if_neg hr, if_neg (by exact hr)]; rfl

/-- Neither do the working copies that change with a commit. -/
theorem commit_refill_setSlot (w : Write) (r : RefillMonitor) (n : Slot) (c : SlotContext) (s : State) :
    commit w { s.setSlot n c with refill := r } = (commit w { s with refill := r }).setSlot n c :=
  commit_setSlot w n c { s with refill := r }

theorem checkpointed_setSlot (m : Slot) (k : Checkpoint) (n : Slot) (c : SlotContext) (s : State) :
    (s.setSlot n c).checkpointed m k = (s.checkpointed m k).setSlot n c := commit_refill_setSlot _ _ n c s

theorem addRetired_setSlot (serial : Serial) (generation count : Nat) (reason : RetiredReason) (n : Slot) (c : SlotContext)
    (s : State) : addRetired serial generation count reason (s.setSlot n c) =
      (addRetired serial generation count reason s).setSlot n c := commit_refill_setSlot _ _ n c s

theorem traceOf_setSlot (m : Slot) (r : BindingRecord) (n : Slot) (c : SlotContext) (s : State) :
    (s.setSlot n c).traceOf m r = (s.traceOf m r).setSlot n c := by
  unfold State.traceOf
  split
  · dsimp only
    split
    · rw [checkpointed_setSlot, addRetired_setSlot]
    · split
      · rw [checkpointed_setSlot, addRetired_setSlot]
      · exact checkpointed_setSlot m _ n c s
  · rfl

/-- A record evaluated at BIND holds its identity and its acknowledged count with its U_bind (R91, R142). -/
def Evaluated (r : BindingRecord) : Prop := r.uBind ≠ none → r.identity ≠ none ∧ r.lastWritten ≠ none

theorem BindingWf.isEvaluated {c : SlotContext} (h : BindingWf c) : Evaluated c.record := fun hu => by
  refine ⟨h.evaluated hu, ?_⟩
  rw [← Option.isSome_iff_ne_none] at hu ⊢
  exact h.acknowledged.trans hu

theorem traceOf_of_unevaluated {r : BindingRecord} (h : r.uBind = none) (n : Slot) (s : State) : s.traceOf n r = s := by
  unfold State.traceOf
  rw [h]
  cases r.identity <;> rfl

@[simp] theorem commit_refill (w : Write) (s : State) : (commit w s).refill = s.refill := by rw [commit_frame]

@[simp] theorem checkpointed_refill (n : Slot) (k : Checkpoint) (s : State) :
    (s.checkpointed n k).refill = { s.refill with checkpoints := s.refill.checkpoints.set n (some k) } := commit_refill _ _

@[simp] theorem addRetired_refill (serial : Serial) (generation count : Nat) (reason : RetiredReason) (s : State) :
    (addRetired serial generation count reason s).refill =
      { s.refill with
          retired := (placeRetired
            { serial := serial, generation := generation, finalCount := count, reason := reason,
              sequence := s.refill.nextSeq } s.refill.retired).1,
          nextSeq := nextSequence s.refill.nextSeq } := commit_refill _ _

/-- The trace of an evaluated binding: its checkpoint, then its retired entry or none (R146). -/
theorem traceOf_at {r : BindingRecord} {i : Identity} {u lw : Nat} (hi : r.identity = some i) (hu : r.uBind = some u)
    (hl : r.lastWritten = some lw) (n : Slot) (s : State) :
    s.traceOf n r =
      let final := min (u + r.metered) 4294967295
      let t := s.checkpointed n { serial := i.serial, generation := i.generation, acknowledged := lw, estimate := final }
      if r.evidence.regression.tripped = true ∨ r.evidence.retiredMatch.tripped = true then
        addRetired i.serial i.generation final .refill t
      else if i.capacity ≤ final then addRetired i.serial i.generation final .emptied t
      else t := by
  simp only [State.traceOf, hi, hu, hl]

/-- Of the checkpoint records the end of a binding writes that of its slot (R145, R146). -/
theorem checkpoints_traceOf {r : BindingRecord} {i : Identity} {u lw : Nat} (hi : r.identity = some i) (hu : r.uBind = some u)
    (hl : r.lastWritten = some lw) (n : Slot) (s : State) :
    (s.traceOf n r).refill.checkpoints = s.refill.checkpoints.set n
      (some { serial := i.serial, generation := i.generation, acknowledged := lw,
              estimate := min (u + r.metered) 4294967295 }) := by
  rw [traceOf_at hi hu hl]
  dsimp only
  split
  · rw [addRetired_refill, checkpointed_refill]
  · split
    · rw [addRetired_refill, checkpointed_refill]
    · rw [checkpointed_refill]

theorem writeCheckpoint_at {n : Slot} {s : State} {i : Identity} {u lw : Nat} (hi : (s.slot n).record.identity = some i)
    (hu : (s.slot n).record.uBind = some u) (hl : (s.slot n).record.lastWritten = some lw) :
    writeCheckpoint n s = s.checkpointed n
      { serial := i.serial, generation := i.generation, acknowledged := lw,
        estimate := min (u + (s.slot n).record.metered) 4294967295 } := by
  simp [writeCheckpoint, checkpointOf, State.checkpointed, hi, hl, BindingRecord.uEst, hu, satAdd32, satAdd, Config.max32]

theorem judgeRetirement_at {n : Slot} {s : State} {i : Identity} {u final : Nat} (hi : (s.slot n).record.identity = some i)
    (hu : (s.slot n).record.uBind = some u) (hf : final = min (u + (s.slot n).record.metered) 4294967295) :
    judgeRetirement n s =
      if (s.slot n).record.evidence.regression.tripped = true ∨ (s.slot n).record.evidence.retiredMatch.tripped = true then
        addRetired i.serial i.generation final .refill s
      else if i.capacity ≤ final then addRetired i.serial i.generation final .emptied s
      else s := by
  have hest : (s.slot n).record.uEst = some final := by
    simp [BindingRecord.uEst, hu, satAdd32, satAdd, Config.max32, hf]
  have hempty : emptyHolds (s.slot n).record = decide (i.capacity ≤ final) := by
    rw [emptyHolds_at (level_eq hi hu), ← hf]
  unfold judgeRetirement retirement
  dsimp only
  rw [hi, hest, hempty]
  by_cases hsuspect :
      (s.slot n).record.evidence.regression.tripped = true ∨ (s.slot n).record.evidence.retiredMatch.tripped = true
  · simp [hsuspect]
  · have hclear := hsuspect
    rw [← Bool.or_eq_true] at hclear
    by_cases hspent : i.capacity ≤ final <;> simp [hsuspect, hclear, hspent]

/-- The end of a binding at the Refill Monitor, in the words of the statements (R56, R146). -/
theorem endBinding_eq {n : Slot} {s : State} (h : Evaluated (s.slot n).record) :
    endBinding n s = if (s.slot n).bindingState = .failed then s else s.traceOf n (s.slot n).record := by
  unfold endBinding
  by_cases hf : (s.slot n).bindingState = .failed
  · simp [hf]
  · rw [if_neg hf]
    cases hu : (s.slot n).record.uBind with
    | none => rw [traceOf_of_unevaluated hu]; exact if_neg (by simp)
    | some u =>
      obtain ⟨hident, hack⟩ := h (by simp [hu])
      obtain ⟨i, hi⟩ := Option.ne_none_iff_exists'.mp hident
      obtain ⟨lw, hl⟩ := Option.ne_none_iff_exists'.mp hack
      rw [if_pos ⟨rfl, hf⟩, writeCheckpoint_at hi hu hl]
      have hslot : ∀ k, (s.checkpointed n k).slot n = s.slot n := fun k => by
        simp only [State.slot, State.checkpointed, commit_slots]
      rw [judgeRetirement_at (by rw [hslot]; exact hi) (by rw [hslot]; exact hu) rfl]
      rw [traceOf_at hi hu hl, hslot]

/-- The end of a binding that is there (R146). -/
theorem endBinding_live {n : Slot} {s : State} (h : Evaluated (s.slot n).record)
    (hlive : (s.slot n).bindingState ≠ .noCartridge) (hopen : (s.slot n).bindingState ≠ .released) :
    endBinding n s = s.bindingEnds n (s.slot n) := by
  rw [endBinding_eq h, State.bindingEnds]
  simp [hlive, hopen]

theorem bindingEnds_setSlot (n m : Slot) (c d : SlotContext) (s : State) :
    (s.setSlot m d).bindingEnds n c = (s.bindingEnds n c).setSlot m d := by
  unfold State.bindingEnds
  split
  · rfl
  · exact traceOf_setSlot n c.record m d s

theorem bindingEnds_slot (n m : Slot) (c : SlotContext) (s : State) : (s.bindingEnds n c).slot m = s.slot m := by
  have h := bindingEnds_setSlot n m c (s.slot m) s
  rw [State.setSlot_slot] at h
  rw [h, State.slot_setSlot_self]

/-- The end of a binding reads its state and its record. -/
theorem bindingEnds_congr {c d : SlotContext} (hb : d.bindingState = c.bindingState) (hr : d.record = c.record) (n : Slot)
    (s : State) : s.bindingEnds n d = s.bindingEnds n c := by
  unfold State.bindingEnds
  rw [hb, hr]

/-- A binding that FAILED, that has ended before, or that was never evaluated leaves no trace (R78, R146). -/
theorem bindingEnds_traceless {c : SlotContext}
    (h : c.bindingState = .failed ∨ c.bindingState = .released ∨ c.record.uBind = none) (n : Slot) (s : State) :
    s.bindingEnds n c = s := by
  unfold State.bindingEnds
  rcases h with h | h | h
  · simp [h]
  · simp [h]
  · rw [traceOf_of_unevaluated h, ite_self]

theorem slotWork_checkpointed (n : Slot) (k : Checkpoint) (s : State) : SlotWork n s (s.checkpointed n k) :=
  (slotWork_refill n _ s).trans (slotWork_commit n _ _)

theorem slotWork_traceOf (n : Slot) (r : BindingRecord) (s : State) : SlotWork n s (s.traceOf n r) := by
  unfold State.traceOf
  split
  · dsimp only
    split
    · exact (slotWork_checkpointed n _ s).trans (slotWork_addRetired n _ _ _ _ _)
    · split
      · exact (slotWork_checkpointed n _ s).trans (slotWork_addRetired n _ _ _ _ _)
      · exact slotWork_checkpointed n _ s
  · exact .refl n s

theorem slotWork_bindingEnds (n : Slot) (c : SlotContext) (s : State) : SlotWork n s (s.bindingEnds n c) := by
  unfold State.bindingEnds
  split
  · exact .refl n s
  · exact slotWork_traceOf n c.record s

theorem SlotWork.policy {n : Slot} {s t : State} (h : SlotWork n s t) : t.policy = s.policy := by rw [h.frame]

theorem SlotWork.port {n : Slot} {s t : State} (h : SlotWork n s t) : t.port = s.port := by rw [h.frame]

/-! ### A RELEASE that finishes -/

/-- LOW of the kept record is LOW as it stands at the end (R48). -/
theorem lowAtEnd_keptRecord (c : SlotContext) : (keptRecord c).lowAtEnd = lowHolds c.config c.record := by
  cases hi : c.record.identity with
  | none => simp [keptRecord, lowHolds, level_eq_none (.inl hi), hi]
  | some i =>
    cases hu : c.record.uBind with
    | none => simp [keptRecord, lowHolds, level_eq_none (.inr hu), hi, hu]
    | some u => rw [lowHolds_at (level_eq hi hu)]; simp [keptRecord, hi, hu]

/-- The slot of a binding released, with its supply OFF and its record as it is kept (R110). -/
def releasedSlot (c : SlotContext) : SlotContext :=
  { c with
      supply := .off, settleTimer := none, idleTimer := none, current := none, bindingState := .released,
      record := keptRecord c }

theorem finishRelease_eq {n : Slot} {s : State} {op : CurrentOp} (hc : (s.slot n).current = some op)
    (h : Evaluated (s.slot n).record) (hlive : (s.slot n).bindingState ≠ .noCartridge)
    (hopen : (s.slot n).bindingState ≠ .released) (a : Word16) :
    finishRelease n a s = (s.bindingEnds n (s.slot n)).setSlot n
      (mergeStatus s.policy.allowance (primaryOf op .released none) 0 a
        (refreshSnapshot s.policy.allowance (releasedSlot (s.slot n)))) := by
  have hpolicy : (s.bindingEnds n (s.slot n)).policy = s.policy := (slotWork_bindingEnds n _ s).policy
  have hslot : (s.bindingEnds n (s.slot n)).slot n = s.slot n := bindingEnds_slot n n _ s
  unfold finishRelease setBinding
  rw [endBinding_live h hlive hopen]
  generalize s.bindingEnds n (s.slot n) = t at hpolicy hslot ⊢
  simp only [modSlot_eq, State.slot_setSlot_self, State.setSlot_setSlot, State.setSlot_policy, hslot, hpolicy]
  rw [finishOp_of_current (op := op) (by rw [State.slot_setSlot_self]; exact hc)]
  simp only [State.slot_setSlot_self, State.setSlot_setSlot, State.setSlot_policy, hpolicy]
  have hkept : keptRecord (s.slot n) = { (s.slot n).record with
      failure := none, residue := 0, lowAtEnd := lowHolds (s.slot n).config (s.slot n).record } := by
    rw [← lowAtEnd_keptRecord]; rfl
  unfold releasedSlot
  rw [hkept]
  rfl

/-- A RELEASE of a binding that is not VERIFIED makes no transaction (R110). -/
theorem beginOp_release {n : Slot} {e : QueueEntry} {s : State} (hk : e.kind = .release)
    (h : stateCondition .release (s.slot n) = true) (hv : (s.slot n).bindingState ≠ .verified)
    (he : Evaluated (s.slot n).record) :
    beginOp n e s = (s.bindingEnds n (s.slot n)).setSlot n
      (mergeStatus s.policy.allowance (primaryOf (newOp .release e.origin) .released none) 0 0
        (refreshSnapshot s.policy.allowance (releasedSlot (s.slot n)))) := by
  obtain ⟨kind, origin⟩ := e
  cases hk
  have hs : stateCondition .release { s.slot n with current := some (newOp .release origin) } = true := by
    rw [← h]; exact stateCondition_congr rfl rfl _
  obtain ⟨hlive, hopen⟩ := ((stateCondition_iff _ _).mp h).2.2.2 rfl
  unfold beginOp
  dsimp only
  rw [modSlot_eq, State.slot_setSlot_self]
  rw [if_pos (by exact hs), if_neg (by exact hv)]
  rw [finishRelease_eq (op := newOp .release origin) (by rw [State.slot_setSlot_self]; rfl)
      (by rw [State.slot_setSlot_self]; exact he) (by rw [State.slot_setSlot_self]; exact hlive)
      (by rw [State.slot_setSlot_self]; exact hopen), State.slot_setSlot_self, bindingEnds_setSlot, State.setSlot_setSlot]
  rfl

/-! ### Operations that end at once -/

/-- No kind meets its state condition at a slot without a binding. -/
theorem stateCondition_noCartridge {c : SlotContext} (h : c.bindingState = .noCartridge) (kind : OpKind) :
    stateCondition kind c = false := by
  cases kind <;> simp [stateCondition, h]

/-- START OPERATION of a kind that may join an idle slot: it becomes current, and the answer is PENDING (R102, R103). -/
theorem handleStartOperation_idle {n : Slot} {kind : OpKind} {k : Byte} {s : State} (hk : OpKind.ofCode k.toNat = some kind)
    (hc : (s.slot n).current = none) (hq : (s.slot n).queue = []) (hs : s.port.stream ≠ .resumePending)
    (hm : MayJoin kind (s.slot n)) :
    handleStartOperation [byteOf n.val, k] s =
      pendingWith [byteOf kind.code, 0] (beginOp n { kind := kind, origin := .requested } s) := by
  have hargs : startArguments [byteOf n.val, k] = some (n, kind) := by
    have hn : (byteOf n.val).toNat = n.val := Nat.mod_eq_of_lt (by omega)
    simp [startArguments, hn, slotOf_val, hk]
  have hbound : (s.slot n).bindingState ≠ .noCartridge := fun hb => by
    have hcond := (stateCondition_iff kind _).mpr hm.1
    rw [stateCondition_noCartridge hb] at hcond
    exact Bool.false_ne_true hcond
  unfold handleStartOperation
  rw [hargs]
  dsimp only
  rw [if_neg hbound, if_pos ((mayJoin_iff kind _).mpr hm), joinOp_of_idle hc hq, hq, waitTest_of_ne]
  · rfl
  · rw [(slotWork_beginOp n _ s).port]
    exact hs

/-- START OPERATION of a RELEASE of an unproved binding at an idle slot (R110). -/
theorem exec_startRelease {n : Slot} {tag shape seq count : Byte} {s : State} (hc : (s.slot n).current = none)
    (hq : (s.slot n).queue = []) (hs : s.port.stream ≠ .resumePending)
    (h : RequestNext 0x04 tag [byteOf n.val, 0x04] shape seq count s) (hm : MayJoin .release (s.slot n))
    (he : Evaluated (s.slot n).record) (hv : (s.slot n).bindingState ≠ .verified) :
    exec .startOperation s = .next (State.replied tag 0x04 .pending [0x04, 0x00]
      (((s.consumed seq).bindingEnds n (s.slot n)).setSlot n (mergeStatus s.policy.allowance
        (some { kind := some .release, result := .released, reason := none, nothingActive := false }) 0 0
        { s.slot n with
            supply := .off, settleTimer := none, idleTimer := none, bindingState := .released,
            record := keptRecord (s.slot n) }))) := by
  have hplaced : Carries (primaryOf (newOp .release .requested) .released none) 0 0 := carries_primary
  rw [exec_request rfl rfl h, handleStartOperation_idle (kind := .release) (s := s.consumed seq) rfl hc hq hs hm,
    beginOp_release (e := { kind := .release, origin := .requested }) (s := s.consumed seq) rfl
      ((stateCondition_iff _ _).mpr hm.1) hv he, mergeStatus_refreshSnapshot _ _ hplaced]
  have hslot : (s.consumed seq).slot n = s.slot n := rfl
  rw [hslot, releasedSlot, ← hc]
  rfl

/-- Settles O31: each becomes current at the idle slot, ends in the same step, and leaves the slot idle. -/
theorem operationsThatEndAtOnce : Obligations.OperationsThatEndAtOnce := by
  intro n tag shape seq count s hc hq hs
  refine ⟨fun h hm hkey => ?_, fun h hm hv hu => ?_, fun h hm hw hv => exec_startRelease hc hq hs h hm hw.isEvaluated hv⟩
  · rw [exec_request rfl rfl h, handleStartOperation_idle (kind := .verify) (s := s.consumed seq) rfl hc hq hs hm,
      beginOp_keyless (e := { kind := .verify, origin := .requested }) (s := s.consumed seq) hc rfl hkey
        ((stateCondition_iff _ _).mpr hm.1)]
    rfl
  · have hkept : keptRecord (s.slot n) = { (s.slot n).record with failure := none, residue := 0, lowAtEnd := false } := by
      simp only [keptRecord, hu]
      cases (s.slot n).record.identity <;> rfl
    rw [exec_startRelease hc hq hs h hm (fun hne => absurd hu hne) hv, bindingEnds_traceless (.inr (.inr hu)), hkept]

/-! ### A removal -/

/-- A removal event leaves the slot without a binding, with REMOVED merged (R78). -/
theorem removeCartridge_eq {n : Slot} {s : State} (h : Evaluated (s.slot n).record)
    (hlive : (s.slot n).bindingState ≠ .noCartridge) :
    removeCartridge n s = (s.bindingEnds n (s.slot n)).setSlot n
      (mergeStatus s.policy.allowance none 0 0x0001
        { s.slot n with
            supply := .off, settleTimer := none, idleTimer := none, attempt := none, current := none, queue := [],
            bindingState := .noCartridge, record := .starting }) := by
  have hends : ∀ m : SlotContext, m.record = (s.slot n).record → m.bindingState = (s.slot n).bindingState →
      (if (s.slot n).bindingState = .released then s.setSlot n m else endBinding n (s.setSlot n m)) =
        (s.bindingEnds n (s.slot n)).setSlot n m := fun m hr hb => by
    split
    · next hrel => simp [State.bindingEnds, hrel]
    · next hopen =>
      rw [endBinding_live (by rw [State.slot_setSlot_self, hr]; exact h) (by rw [State.slot_setSlot_self, hb]; exact hlive)
        (by rw [State.slot_setSlot_self, hb]; exact hopen), State.slot_setSlot_self, bindingEnds_setSlot,
        bindingEnds_congr hb hr]
  unfold removeCartridge
  dsimp only
  rw [modSlot_eq, hends _ (by simp [supplyOff]) (by simp [supplyOff]), setBinding, modSlot_eq, State.slot_setSlot_self,
    State.setSlot_setSlot, State.setSlot_policy, (slotWork_bindingEnds n _ s).policy]
  refine congrArg _ ?_
  exact refreshSnapshot_mergeStatus _ _ (carries_alert (by decide)) .noCartridge .starting

/-- The debounce of a seat found empty is a removal event (R76, R78). -/
theorem expireDebounce_empties {n : Slot} {s : State} (ha : s.alive = true) (hr : s.restoring = false)
    (hd : (s.slot n).debounce ≠ none) (hseat : (s.slot n).seat = .seated) (hraw : (s.slot n).rawSeat = .empty)
    (hb : (s.slot n).bindingState ≠ .noCartridge) :
    expireDebounce n s = waitTest (removeCartridge n (s.setSlot n { s.slot n with debounce := none, seat := .empty })) := by
  have hdue : s.alive = true ∧ (s.slot n).debounce.isSome = true := ⟨ha, Option.isSome_iff_ne_none.mpr hd⟩
  unfold expireDebounce
  dsimp only
  rw [if_pos hdue, hraw, hseat, if_neg nofun, modSlot_eq, hraw]
  unfold seatEvent removalEvent
  rw [if_neg (by simp [hr]), State.slot_setSlot_self, if_neg hb]

/-- Settles O44: the slot is emptied, and what its binding leaves is the trace of its end. -/
theorem removal : Obligations.Removal := by
  intro n c s hw ha hr hs hc hd hseat hraw hb
  subst hc
  have he : Evaluated (s.slot n).record := (hw.binding n).isEvaluated
  have hexec : exec (.debounceExpiry n) s = .next (expireDebounce n s) := rfl
  have hwork := slotWork_bindingEnds n (s.slot n) s
  have hends : s.bindingEnds n { s.slot n with debounce := none, seat := .empty } = s.bindingEnds n (s.slot n) :=
    bindingEnds_congr rfl rfl n s
  refine ⟨_, hexec, ?_⟩
  rw [expireDebounce_empties ha hr hd hseat hraw hb, removeCartridge_eq (by rw [State.slot_setSlot_self]; exact he)
    (by rw [State.slot_setSlot_self]; exact hb), State.slot_setSlot_self, bindingEnds_setSlot, State.setSlot_setSlot,
    hends, waitTest_of_ne (by rw [State.setSlot_port, hwork.port]; exact hs)]
  refine ⟨State.slot_setSlot_self n _ _, fun m hm => (State.slot_setSlot_ne hm _ _).trans (hwork.others m hm),
    by rw [State.setSlot_lanes, hwork.frame], by rw [State.setSlot_monitor, hwork.frame],
    by rw [State.setSlot_policy, hwork.frame], by rw [State.setSlot_key, hwork.frame],
    by rw [State.setSlot_port, hwork.frame], rfl, rfl, rfl, fun hnone => ?_,
    fun i u lw U content hf hopen hi hu hl hU hcontent => ?_⟩
  · rw [bindingEnds_traceless hnone]
    exact ⟨rfl, rfl⟩
  · have htrace : s.bindingEnds n (s.slot n) = s.traceOf n (s.slot n).record := by simp [State.bindingEnds, hb, hf, hopen]
    rw [State.setSlot_refill, htrace]
    refine ⟨by rw [checkpoints_traceOf hi hu hl, ← hU], ?_⟩
    rw [traceOf_at hi hu hl, ← hU]
    refine ⟨fun hsuspect => ?_, fun hreg hmatch => ⟨fun hle => ?_, fun hlt => ?_⟩⟩
    · simp [hsuspect, hcontent, nextSequence, Config.max32]
    · simp [hreg, hmatch, hle, hcontent, nextSequence, Config.max32]
    · simp [hreg, hmatch, Nat.not_le.mpr hlt]

end Sys2Proof.Machine
end

section
/-! A good response (R83): what reaches the current operation, how a binding becomes VERIFIED, and the evaluation at VERIFY
(R108, R131, R143; O48). -/

namespace Sys2Proof.Machine

/-! ### Good responses -/

theorem goodMessage_withCrc8 {t : Transaction} {body : List Byte} (h : body.length + 2 = t.responseLength) :
    goodMessage t (withCrc8 (t.code :: body)) = true := by
  have hlast : t.responseLength - 1 = (t.code :: body).length := by rw [← h]; rfl
  unfold goodMessage withCrc8
  rw [hlast, List.take_left]
  simp [byteAt]

/-- A good response of the transaction's length ends the attempt and is handed to the current operation (R81, R83). -/
theorem exec_cartridgeResponse {n : Slot} {op : CurrentOp} {a : Attempt} {s : State} {body : List Byte}
    (h : AttemptRuns n op a s) (hl : body.length + 2 = op.step.responseLength) :
    exec (.cartridgeResponse n (withCrc8 (op.step.code :: body))) s =
      .next (handResponse n op a (withCrc8 (op.step.code :: body)) (s.setSlot n (attemptOver (s.slot n)))) := by
  have hlength : (withCrc8 (op.step.code :: body)).length = op.step.responseLength := by
    rw [withCrc8_length, List.length_cons, hl]
  have hgood := goodMessage_withCrc8 hl
  generalize withCrc8 (op.step.code :: body) = msg at hlength hgood ⊢
  have hport : (handResponse n op a msg (s.setSlot n (attemptOver (s.slot n)))).port = s.port :=
    ((slotWork_setSlot n _ s).trans (slotWork_handResponse n op a msg _)).port
  have hrun : receiveResponse n msg s = waitTest (judgeResponse n a op (msg.take op.step.responseLength) s) := by
    unfold receiveResponse
    rw [h.attempt, h.current]
    exact if_pos ⟨h.alive, hlength.ge⟩
  have hjudge : judgeResponse n a op (msg.take op.step.responseLength) s =
      handResponse n op a msg (s.setSlot n (attemptOver (s.slot n))) := by
    rw [List.take_of_length_le hlength.le]
    unfold judgeResponse
    rw [if_pos hgood]
    rfl
  change Host.Outcome.next (receiveResponse n msg s) = _
  rw [hrun, hjudge, waitTest_of_ne (by rw [hport]; exact h.stream)]

section Challenge
variable (used : Nat) (generation : Byte) (tag : List Byte)

theorem challengeResponse_bytes : ∃ check : Byte,
    challengeResponse used generation tag = [0x6B] ++ beBytes 4 used ++ ([generation] ++ (tag ++ [check])) :=
  ⟨crc8 (0x6B :: (beBytes 4 used ++ [generation] ++ tag)), by simp [challengeResponse, withCrc8]⟩

theorem challengeResponse_used (h : used < 4294967296) : fieldAt (challengeResponse used generation tag) 1 4 = used := by
  obtain ⟨check, hbytes⟩ := challengeResponse_bytes used generation tag
  rw [hbytes]
  exact (fieldAt_append [0x6B] (beBytes 4 used) _).trans (beNat_beBytes_of_lt h)

theorem challengeResponse_generation : fieldAt (challengeResponse used generation tag) 5 1 = generation.toNat := by
  obtain ⟨check, hbytes⟩ := challengeResponse_bytes used generation tag
  rw [hbytes, ← List.append_assoc]
  exact (fieldAt_append ([0x6B] ++ beBytes 4 used) [generation] _).trans (by simp [beNat])

theorem challengeResponse_tag (h : tag.length = 16) : ((challengeResponse used generation tag).drop 6).take 16 = tag := by
  obtain ⟨check, hbytes⟩ := challengeResponse_bytes used generation tag
  rw [hbytes, ← List.append_assoc, List.drop_left' (by simp), List.take_left' h]

end Challenge

/-- The tag comparison of R131, in the words of the statements. -/
theorem tagMatches_iff {root : RootKey} {r : BindingRecord} {i : Identity} {a : Attempt} {nonce : Nonce} {used : Nat}
    {generation : Byte} {tag : List Byte} (hi : r.identity = some i) (ha : a.nonce = some nonce) (hu : used < 4294967296)
    (ht : tag.length = 16) :
    tagMatches (.present root) r a (challengeResponse used generation tag) = true ↔
      tag = keyedDigest (keyedDigest (beBytes 32 root.toNat) (beBytes 8 i.serial.toNat))
        (beBytes 16 nonce.toNat ++ beBytes 8 i.serial.toNat ++ beBytes 4 used ++ [generation]) := by
  have hgen : beBytes 1 generation.toNat = [generation] := by
    rw [beBytes_one, byteOf, BitVec.ofNat_toNat, BitVec.setWidth_eq]
  simp only [tagMatches, hi, ha]
  rw [challengeResponse_used used generation tag hu, challengeResponse_generation, challengeResponse_tag _ _ _ ht, beq_iff_eq,
    expectedTag, cartridgeKey, hgen]

/-! ### A binding VERIFIED as its operation ends -/

/-- An operation ended at a VERIFIED binding with these events and alerts, and left it this record; of it what follows moves
only units since verify, and places KEY_ABSENT at most. -/
structure EndsVerified (n : Slot) (e : Byte) (a : Word16) (r : BindingRecord) (s t : State) : Prop where
  refill : t.refill = s.refill
  store : t.store = s.store
  agent : t.agent = s.agent
  bindingState : (t.slot n).bindingState = .verified
  record : (t.slot n).record = { r with sinceVerify := (t.slot n).record.sinceVerify }
  events : eventsOf (t.slot n) = eventsOf (s.slot n) ||| e
  alerts : ∀ k, k < 8 → (alertsOf (t.slot n)).getLsbD k = ((alertsOf (s.slot n)).getLsbD k || a.getLsbD k)

/-- The slot may have been written before, so long as its pending status is that of before. -/
theorem EndsVerified.of_setSlot {n : Slot} {e : Byte} {a : Word16} {r : BindingRecord} {c : SlotContext} {s t : State}
    (h : EndsVerified n e a r (s.setSlot n c) t) (he : eventsOf c = eventsOf (s.slot n))
    (ha : alertsOf c = alertsOf (s.slot n)) : EndsVerified n e a r s t where
  refill := h.refill
  store := h.store
  agent := h.agent
  bindingState := h.bindingState
  record := h.record
  events := by rw [h.events, State.slot_setSlot_self, he]
  alerts k hk := by rw [h.alerts k hk, State.slot_setSlot_self, ha]

theorem endOp_verified {n : Slot} {s : State} {op : CurrentOp} (hc : (s.slot n).current = some op)
    (hb : (s.slot n).bindingState = .verified) (result : OpResult) (why : Option FailureReason) (e : Byte) (a : Word16) :
    EndsVerified n e a (s.slot n).record s (endOp n result why e a s) := by
  unfold endOp
  rw [finishOp_of_current hc]
  have hwork := quietWork_pump_verified (n := n)
    (s := s.setSlot n (mergeStatus s.policy.allowance (primaryOf op result why) e a { s.slot n with current := none }))
    (by rw [State.slot_setSlot_self]; simpa using hb)
  have hkept := hwork.kept
  rw [State.slot_setSlot_self] at hkept
  refine ⟨hwork.refill, hwork.store, hwork.agent, by rw [hkept.bindingState]; simpa using hb, ?_, ?_, fun k hk => ?_⟩
  · have hrecord := hkept.record
    rw [mergeStatus_record] at hrecord
    exact hrecord
  · rw [hkept.events, eventsOf_mergeStatus]
    rfl
  · rw [hkept.alerts k hk, alertsOf_mergeStatus, BitVec.getLsbD_or]
    rfl

/-- The record of a binding as it becomes VERIFIED (R89, R132). -/
def provedRecord (r : BindingRecord) : BindingRecord := { r with failure := none, verifiedOnce := true }

/-- A binding becomes VERIFIED with the record proved, judged where U_bind was set or raised (R50, R107, R108, R132). -/
theorem becomeVerified_ends {n : Slot} {s : State} {op : CurrentOp} (hc : (s.slot n).current = some op) (event : SlotEvent)
    (judged : Bool) (alerts : Word16) {p : BindingRecord × Word16}
    (hp : p = evidenceIf judged (judgeSilently (s.slot n).config) (provedRecord (s.slot n).record, alerts)) :
    EndsVerified n event.bits p.2 p.1 s (becomeVerified n event judged alerts s) := by
  have hunfold : becomeVerified n event judged alerts s = endOp n .verified none event.bits p.2
      (s.setSlot n { enterState s.policy.allowance .verified none (s.slot n) with record := p.1 }) := by
    unfold becomeVerified setBinding
    simp only [modSlot_eq, State.slot_setSlot_self, State.setSlot_setSlot]
    rw [hp]
    rfl
  have hends := endOp_verified (n := n) (op := op)
    (s := s.setSlot n { enterState s.policy.allowance .verified none (s.slot n) with record := p.1 })
    (by rw [State.slot_setSlot_self]; exact hc) (by rw [State.slot_setSlot_self]; rfl) .verified none event.bits p.2
  rw [State.slot_setSlot_self] at hends
  rw [hunfold]
  exact hends.of_setSlot (eventsOf_refreshSnapshot _ _) (alertsOf_refreshSnapshot _ _)

/-! ### Evidence that counts -/

/-- REGRESSION counts 1 and trips, with REFILL_CONFIRMED at its first trip (R135, R136). -/
theorem countRaw_regression (cfg : SlotConfig) (r : BindingRecord) :
    countRaw cfg .regression r =
      ({ r with evidence := { r.evidence with
          regression :=
            { raw := min (r.evidence.regression.raw + 1) 65535,
              worst := max r.evidence.regression.worst (min (r.evidence.regression.raw + 1) 65535), tripped := true } } },
        if r.evidence.regression.tripped then 0 else 0x0080) := by
  have hreached : (EvidenceKind.regression.threshold cfg ≤ min (r.evidence.regression.raw + 1) 65535) := by
    change 1 ≤ _
    omega
  have hcount : satAdd evidenceMax (r.evidence.get .regression).raw 1 = min (r.evidence.regression.raw + 1) 65535 := rfl
  unfold countRaw setRaw
  rw [hcount]
  dsimp only
  rw [decide_eq_true hreached]
  cases htripped : r.evidence.regression.tripped with
  | true => simp only [Evidence.get, Evidence.put, htripped]; rfl
  | false => simp only [Evidence.get, Evidence.put, htripped]; rfl

/-! ### The evaluation at VERIFY -/

/-- A matching tag of a VERIFY at an evaluated binding has it evaluated at VERIFY (R108, R131, R132). -/
theorem judgeChallenge_verify {n : Slot} {a : Attempt} {msg : List Byte} {s : State}
    (hm : tagMatches s.key (s.slot n).record a msg = true) (hk : isCurrent .bind (s.slot n) = false)
    (hu : (s.slot n).record.uBind ≠ none) {e : (BindingRecord × Word16) × Bool}
    (he : e = evaluateVerify (s.slot n).config (fieldAt msg 1 4) (fieldAt msg 5 1) (s.slot n).record) :
    judgeChallenge n a msg s =
      becomeVerified n .verified e.2 e.1.2 (s.setSlot n { s.slot n with record := e.1.1 }) := by
  have hevaluated : ¬(isCurrent .bind (s.slot n) || (s.slot n).record.uBind.isNone) = true := by
    simp [hk, hu]
  unfold judgeChallenge
  dsimp only
  rw [if_pos hm, if_neg hevaluated, verifiedEvent, if_neg (by simp [hk]), he]
  rfl

/-- The evaluation at VERIFY and the judgment where it raises U_bind: the record, and the alerts. -/
def verifyOutcome (cfg : SlotConfig) (used generation : Nat) (r : BindingRecord) : BindingRecord × Word16 :=
  let e := evaluateVerify cfg used generation r
  evidenceIf e.2 (judgeSilently cfg) (provedRecord e.1.1, e.1.2)

/-- A good CHALLENGE response goes to the tag comparison (R83, R107, R108). -/
theorem exec_challengeResponse {n : Slot} {op : CurrentOp} {a : Attempt} {s : State} {tag : List Byte}
    (h : AttemptRuns n op a s) (hstep : op.step = .challenge) (ht : tag.length = 16) (used : Nat) (generation : Byte) :
    exec (.cartridgeResponse n (challengeResponse used generation tag)) s =
      .next (judgeChallenge n a (challengeResponse used generation tag) (s.setSlot n (attemptOver (s.slot n)))) := by
  have hexec := exec_cartridgeResponse (body := beBytes 4 used ++ [generation] ++ tag) h (by simp [hstep, ht]; rfl)
  rw [hstep] at hexec
  refine hexec.trans ?_
  unfold handResponse
  rw [hstep]
  rfl

section VerifyOutcome
variable {cfg : SlotConfig} {used generation : Nat} {r : BindingRecord} {i : Identity} {u lw U : Nat}
  (hi : r.identity = some i) (hu : r.uBind = some u) (hl : r.lastWritten = some lw)
  (hU : U = min (u + r.metered) 4294967295)
include hi hu hl

/-- A report of another generation, or below last_written, counts REGRESSION (R143). -/
theorem verifyOutcome_regresses (h : generation ≠ i.generation ∨ used < lw) :
    verifyOutcome cfg used generation r =
      (provedRecord (countRaw cfg .regression r).1, (countRaw cfg .regression r).2) := by
  have hest : r.uEst = some (min (u + r.metered) 4294967295) := by simp [BindingRecord.uEst, hu, satAdd32, satAdd, Config.max32]
  simp [verifyOutcome, evaluateVerify, hi, hu, hl, hest, h, evidenceIf]

include hU

/-- A report from last_written to U_est becomes last_written (R143). -/
theorem verifyOutcome_acknowledges (hg : generation = i.generation) (hlo : lw ≤ used) (hhi : used ≤ U) :
    verifyOutcome cfg used generation r = (provedRecord { r with lastWritten := some used }, 0) := by
  have hest : r.uEst = some U := by simp [BindingRecord.uEst, hu, satAdd32, satAdd, Config.max32, hU]
  simp [verifyOutcome, evaluateVerify, hi, hu, hl, hest, hg, Nat.not_lt.mpr hlo, hhi, evidenceIf]

/-- A report above U_est raises U_bind by the difference, and the marks are judged at the new estimate (R50, R143). -/
theorem verifyOutcome_raises (hg : generation = i.generation) (hlo : lw ≤ used) (hhi : U < used) :
    verifyOutcome cfg used generation r =
      (judgedAt cfg i.capacity (min (u + (used - U) + r.metered) 4294967295)
          (provedRecord { r with uBind := some (u + (used - U)), lastWritten := some used }),
        suspectAt cfg i.capacity (min (u + (used - U) + r.metered) 4294967295) r) := by
  have hest : r.uEst = some U := by simp [BindingRecord.uEst, hu, satAdd32, satAdd, Config.max32, hU]
  have hraised : evaluateVerify cfg used generation r =
      (({ r with uBind := some (u + (used - U)), lastWritten := some used }, 0), true) := by
    simp [evaluateVerify, hi, hu, hl, hest, hg, Nat.not_lt.mpr hlo, Nat.not_le.mpr hhi]
  have hlevel : (provedRecord { r with uBind := some (u + (used - U)), lastWritten := some used }).level =
      some (min (u + (used - U) + r.metered) 4294967295, i.capacity) := level_eq hi rfl
  simp only [verifyOutcome, hraised, evidenceIf, if_true, judgeSilently_at hlevel]
  exact congrArg _ BitVec.zero_or

/-- Whatever the report, the identity stays, and the binding has been verified once (R132, R143). -/
theorem verifyOutcome_proved : (verifyOutcome cfg used generation r).1.identity = some i ∧
    (verifyOutcome cfg used generation r).1.verifiedOnce = true := by
  by_cases hback : generation ≠ i.generation ∨ used < lw
  · rw [verifyOutcome_regresses hi hu hl hback, countRaw_regression]
    exact ⟨hi, rfl⟩
  · rw [not_or, not_not, Nat.not_lt] at hback
    obtain ⟨hg, hlo⟩ := hback
    rcases Nat.lt_or_ge U used with hhi | hhi
    · rw [verifyOutcome_raises hi hu hl hU hg hlo hhi]
      exact ⟨hi, rfl⟩
    · rw [verifyOutcome_acknowledges hi hu hl hU hg hlo hhi]
      exact ⟨hi, rfl⟩

end VerifyOutcome

/-- Settles O48: the evaluation of the three kinds of report, carried through the end of the operation. -/
theorem verifyEvaluation : Obligations.VerifyEvaluation := by
  intro n op a root nonce i used u lw U generation c s h hkind hstep hkey hnonce hc hi hu hl hU hused
  subst hc
  generalize htag : keyedDigest (keyedDigest (beBytes 32 root.toNat) (beBytes 8 i.serial.toNat))
    (beBytes 16 nonce.toNat ++ beBytes 8 i.serial.toNat ++ beBytes 4 used ++ [generation]) = tag
  have htaglen : tag.length = 16 := by rw [← htag]; exact keyedDigest_length _ _
  have hexec := exec_challengeResponse h hstep htaglen used generation
  have hwork := (slotWork_setSlot n (attemptOver (s.slot n)) s).trans
    (slotWork_judgeChallenge n a (challengeResponse used generation tag) _)
  have hslot : (s.setSlot n (attemptOver (s.slot n))).slot n = attemptOver (s.slot n) := State.slot_setSlot_self n _ s
  have hends : EndsVerified n SlotEvent.verified.bits
      (verifyOutcome (s.slot n).config used generation.toNat (s.slot n).record).2
      (verifyOutcome (s.slot n).config used generation.toNat (s.slot n).record).1 s
      (judgeChallenge n a (challengeResponse used generation tag) (s.setSlot n (attemptOver (s.slot n)))) := by
    have hmatch : tagMatches (s.setSlot n (attemptOver (s.slot n))).key
        ((s.setSlot n (attemptOver (s.slot n))).slot n).record a (challengeResponse used generation tag) = true := by
      rw [hslot, State.setSlot_key, hkey]
      exact (tagMatches_iff hi hnonce hused htaglen).mpr htag.symm
    rw [judgeChallenge_verify hmatch (by rw [hslot]; simp [isCurrent, attemptOver, h.current, hkind])
      (by rw [hslot]; simp [attemptOver, hu]) rfl, challengeResponse_used _ _ _ hused, challengeResponse_generation, hslot,
      State.setSlot_setSlot]
    refine (becomeVerified_ends (op := op) (by rw [State.slot_setSlot_self]; exact h.current)
      .verified _ _ ?_).of_setSlot rfl rfl
    rw [State.slot_setSlot_self]
    rfl
  generalize judgeChallenge n a (challengeResponse used generation tag) (s.setSlot n (attemptOver (s.slot n))) = t
    at hexec hwork hends
  have hproved := verifyOutcome_proved (cfg := (s.slot n).config) (used := used) (generation := generation.toNat) hi hu hl hU
  have hrecord := hends.record
  have halert := hends.alerts 6 (by decide)
  have hevent : ∀ k, 2 ≤ k → k ≤ 4 → BitVec.getLsbD SlotEvent.verified.bits k = false := by decide
  have hregresses : generation.toNat ≠ i.generation ∨ used < lw →
      (t.slot n).record = { provedRecord (countRaw (s.slot n).config .regression (s.slot n).record).1 with
        sinceVerify := (t.slot n).record.sinceVerify } := fun hback => by
    rw [verifyOutcome_regresses hi hu hl hback] at hrecord
    exact hrecord
  have hacknowledges : generation.toNat = i.generation → lw ≤ used → used ≤ U →
      (t.slot n).record = { provedRecord { (s.slot n).record with lastWritten := some used } with
        sinceVerify := (t.slot n).record.sinceVerify } := fun hg hlo hhi => by
    rw [verifyOutcome_acknowledges hi hu hl hU hg hlo hhi] at hrecord
    exact hrecord
  refine ⟨t, _, hexec, rfl, hwork.others, hends.bindingState, by rw [hrecord]; exact hproved.2, ?_,
    by rw [hrecord]; exact hproved.1, hends.refill, fun k hk hk' => ?_, fun hkeeps => ?_, fun hback => ?_,
    fun hg hlo hhi => ?_, fun hg hlo hhi => ?_⟩
  · rw [hends.events, BitVec.getLsbD_or]
    exact Bool.or_true _
  · rw [hends.events, BitVec.getLsbD_or, hevent k hk hk', Bool.or_false]
  · by_cases hback : generation.toNat ≠ i.generation ∨ used < lw
    · rw [verifyOutcome_regresses hi hu hl hback] at halert
      rw [hregresses hback, halert]
      rw [countRaw_regression]
      refine ⟨⟨rfl, rfl, rfl, rfl⟩, ?_⟩
      dsimp only
      split <;> simp
    · rw [not_or, not_not, Nat.not_lt] at hback
      obtain ⟨hg, hlo⟩ := hback
      have hhi : used ≤ U := hkeeps.resolve_left (not_not_intro hg)
      rw [verifyOutcome_acknowledges hi hu hl hU hg hlo hhi] at halert
      rw [hacknowledges hg hlo hhi, halert]
      exact ⟨⟨rfl, rfl, rfl, rfl⟩, by simp⟩
  · rw [hregresses hback, countRaw_regression]
    exact ⟨hu, hl, rfl, rfl⟩
  · rw [hacknowledges hg hlo hhi]
    exact ⟨hu, rfl, rfl⟩
  · rw [verifyOutcome_raises hi hu hl hU hg hlo hhi] at hrecord halert
    refine ⟨by rw [hrecord]; rfl, by rw [hrecord]; rfl, by rw [hrecord]; rfl, fun V hV => ?_⟩
    subst hV
    rw [hrecord, halert, suspectAt_bit]
    exact ⟨⟨rfl, rfl, rfl, rfl⟩, rfl⟩

end Sys2Proof.Machine
end

section
/-! The tag comparison and the evaluation at BIND (R107, R131 to R133, R139 to R142; O47). -/

namespace Sys2Proof.Machine

/-! ### The checkpoint lookup -/

theorem checkpointsOf_eq (serial : Serial) (s : State) :
    checkpointsOf serial s = s.refill.checkpoints.toList.filterMap fun o =>
      o.bind fun c => if c.serial = serial then some c else none := by
  have hlist : s.refill.checkpoints.toList = allSlots.map fun k => s.refill.checkpoints[k] := by
    refine List.ext_getElem (by simp [allSlots]) fun k hk _ => ?_
    have hlt : k < 8 := by simpa using hk
    interval_cases k <;> rfl
  rw [hlist, List.filterMap_map]
  refine congrArg (List.filterMap · allSlots) (funext fun k => ?_)
  simp only [Function.comp]
  cases s.refill.checkpoints[k] <;> rfl

/-- The greatest of a count over the matching records of the lookup (R140). -/
theorem greatest_matching (f : Checkpoint → Nat) (serial : Serial) (generation : Nat) (s : State) :
    greatest (((checkpointsOf serial s).filter fun c => decide (c.generation = generation)).map f) =
      greatestOf f serial generation s := by
  unfold greatest greatestOf
  rw [checkpointsOf_eq, List.filter_filterMap, List.map_filterMap]
  refine congrArg (fun F => List.foldl max 0 (List.filterMap F s.refill.checkpoints.toList)) (funext fun o => ?_)
  cases o with
  | none => rfl
  | some c =>
    by_cases hs : c.serial = serial <;> by_cases hg : c.generation = generation <;> simp [hs, hg]

theorem ahead_iff (serial : Serial) (generation : Nat) (s : State) :
    ((checkpointsOf serial s).any fun c => decide (generation < c.generation)) = true ↔ AheadRecord serial generation s := by
  rw [checkpointsOf_eq, List.any_eq_true]
  unfold AheadRecord
  simp only [List.mem_filterMap, decide_eq_true_eq, Option.bind_eq_some_iff, Option.ite_none_right_eq_some, Option.some.injEq]
  constructor
  · rintro ⟨c, ⟨o, ho, d, rfl, hs, rfl⟩, hg⟩
    exact ⟨d, ho, hs, hg⟩
  · rintro ⟨c, hc, hs, hg⟩
    exact ⟨c, ⟨some c, hc, c, rfl, hs, rfl⟩, hg⟩

/-- What the first and third steps of the evaluation at BIND find; with no matching record the greatest counts are 0, and the
report stands (R140, R142). -/
theorem bindFromCheckpoints_eq (serial : Serial) (used generation : Nat) (s : State) :
    bindFromCheckpoints (checkpointsOf serial s) used generation =
      (max used (greatestOf (·.estimate) serial generation s), max used (greatestOf (·.acknowledged) serial generation s),
        decide (used < greatestOf (·.acknowledged) serial generation s) ||
          (checkpointsOf serial s).any fun c => decide (generation < c.generation)) := by
  rw [← greatest_matching, ← greatest_matching]
  unfold bindFromCheckpoints
  dsimp only
  cases (checkpointsOf serial s).filter fun c => decide (c.generation = generation) with
  | nil => simp [greatest]
  | cons c rest => rfl

/-! ### The retired lookup -/

section Retired
variable {l : List RetiredEntry} (hl : (l.map fun e => e.content.serial).Nodup) {serial : Serial}
include hl

/-- A serial stands in the retired list once at most, so the lookup finds the entry there is (R147, R148). -/
theorem findRetired_eq_some_iff {e : RetiredEntry} :
    findRetired serial l = some e ↔ e ∈ l ∧ e.content.serial = serial := by
  unfold findRetired
  constructor
  · intro h
    exact ⟨List.mem_of_find?_eq_some h, by simpa using List.find?_some h⟩
  · rintro ⟨he, hs⟩
    cases hf : l.find? fun e => decide (e.content.serial = serial) with
    | none => exact absurd hs (by simpa using List.find?_eq_none.mp hf e he)
    | some f =>
      have hfs : f.content.serial = serial := by simpa using List.find?_some hf
      exact congrArg some (List.inj_on_of_nodup_map hl (List.mem_of_find?_eq_some hf) he (hfs.trans hs.symm))

/-- The lookup finds a refilled cartridge where an entry of the serial holds a later generation, or more ink used in the same
(R141). -/
theorem retiredFinding_refilled_iff (used generation : Nat) : retiredFinding l serial used generation = .refilled ↔
    ∃ e ∈ l, e.content.serial = serial ∧
      (generation < e.content.generation ∨ (generation = e.content.generation ∧ used < e.content.finalCount)) := by
  have hlisted : ∀ e, (e ∈ l ∧ e.content.serial = serial) ↔ findRetired serial l = some e := fun e =>
    (findRetired_eq_some_iff hl).symm
  simp only [← and_assoc, hlisted, retiredFinding]
  cases findRetired serial l with
  | none => simp
  | some e =>
    simp only [Option.some.injEq, exists_eq_left']
    by_cases hlow : e.content.generation < generation
    · simp [hlow]
      omega
    · by_cases heq : generation = e.content.generation ∧ e.content.finalCount ≤ used
      · simp [heq]
      · simp only [hlow, if_false, heq, true_iff]
        omega

/-- An authorised refill is the entry of the serial with an earlier generation (R141). -/
theorem retiredFinding_authorised_iff (used generation : Nat) (e : RetiredEntry) :
    retiredFinding l serial used generation = .authorisedRefill e ↔
      e ∈ l ∧ e.content.serial = serial ∧ e.content.generation < generation := by
  rw [← and_assoc, ← findRetired_eq_some_iff hl, retiredFinding]
  cases findRetired serial l with
  | none => simp
  | some f =>
    simp only [Option.some.injEq]
    by_cases hlow : f.content.generation < generation
    · rw [if_pos hlow, RetiredFinding.authorisedRefill.injEq]
      exact ⟨fun h => ⟨h, h ▸ hlow⟩, fun h => h.1⟩
    · rw [if_neg hlow]
      refine iff_of_false ?_ fun h => hlow (h.1 ▸ h.2)
      split <;> simp

/-- An authorised refill takes away the entry of the serial, which holds an earlier generation (R141, R149). -/
theorem dropSerial_of_authorised {used generation : Nat} {e : RetiredEntry}
    (h : retiredFinding l serial used generation = .authorisedRefill e) : dropSerial e.content.serial l =
      l.filter fun e => decide (e.content.serial ≠ serial ∨ generation ≤ e.content.generation) := by
  obtain ⟨he, hs, hg⟩ := (retiredFinding_authorised_iff hl used generation e).mp h
  refine List.filter_congr fun f hf => ?_
  rw [decide_eq_decide, hs]
  refine ⟨.inl, fun h => h.elim id fun hle heq => ?_⟩
  have hsame : f = e := List.inj_on_of_nodup_map hl hf he (heq.trans hs.symm)
  rw [hsame] at hle
  omega

/-- Without one no entry of the serial holds an earlier generation (R141). -/
theorem filter_of_not_authorised {used generation : Nat}
    (h : ∀ e, retiredFinding l serial used generation ≠ .authorisedRefill e) :
    l.filter (fun e => decide (e.content.serial ≠ serial ∨ generation ≤ e.content.generation)) = l := by
  refine List.filter_eq_self.mpr fun e he => ?_
  have hnot := mt (retiredFinding_authorised_iff hl used generation e).mpr (h e)
  rw [decide_eq_true_iff]
  by_contra hout
  rw [not_or, not_not, Nat.not_le] at hout
  exact hnot ⟨he, hout⟩

end Retired

/-! ### The evaluation at BIND -/

/-- RETIRED_MATCH becomes 1 and trips, with REFILL_CONFIRMED at its first trip (R135, R137). -/
theorem setRaw_retiredMatch (cfg : SlotConfig) (r : BindingRecord) :
    setRaw cfg .retiredMatch 1 r =
      ({ r with evidence := { r.evidence with
          retiredMatch := { raw := 1, worst := max r.evidence.retiredMatch.worst 1, tripped := true } } },
        if r.evidence.retiredMatch.tripped then 0 else 0x0080) := by
  have hreached : decide (EvidenceKind.retiredMatch.threshold cfg ≤ 1) = true := rfl
  unfold setRaw
  rw [hreached]
  cases htripped : r.evidence.retiredMatch.tripped with
  | true => simp only [Evidence.get, Evidence.put, htripped]; rfl
  | false => simp only [Evidence.get, Evidence.put, htripped]; rfl

/-- The record that the evaluation at BIND leaves: the proved generation, U_bind and last_written, and the evidence that counts
(R140 to R142). -/
def boundRecord (generation estimate acknowledged : Nat) (regresses refilled : Bool) (r : BindingRecord) : BindingRecord :=
  { r with
      identity := r.identity.map fun i => { i with generation := generation }, uBind := some estimate,
      lastWritten := some acknowledged,
      evidence := { r.evidence with
        regression :=
          if regresses then
            { raw := min (r.evidence.regression.raw + 1) 65535,
              worst := max r.evidence.regression.worst (min (r.evidence.regression.raw + 1) 65535), tripped := true }
          else r.evidence.regression,
        retiredMatch :=
          if refilled then { raw := 1, worst := max r.evidence.retiredMatch.worst 1, tripped := true }
          else r.evidence.retiredMatch } }

/-- The alert of the evaluation at BIND: REFILL_CONFIRMED at a first trip (R135). -/
def boundAlerts (regresses refilled : Bool) (r : BindingRecord) : Word16 :=
  if (regresses && !r.evidence.regression.tripped) || (refilled && !r.evidence.retiredMatch.tripped) then 0x0080 else 0

theorem boundAlerts_bits (regresses refilled : Bool) (r : BindingRecord) :
    (boundAlerts regresses refilled r).getLsbD 6 = false ∧ (boundAlerts regresses refilled r).getLsbD 7 =
      ((regresses && !r.evidence.regression.tripped) || (refilled && !r.evidence.retiredMatch.tripped)) := by
  unfold boundAlerts
  split
  · next h => exact ⟨by decide, h.symm ▸ by decide⟩
  · next h => exact ⟨by decide, (Bool.eq_false_iff.mpr h).symm ▸ by decide⟩

/-- The two evidence steps at BIND together (R140 to R142). -/
theorem evidence_bound (cfg : SlotConfig) (regresses refilled : Bool) (r : BindingRecord) :
    evidenceIf refilled (setRaw cfg .retiredMatch 1) (evidenceIf regresses (countRaw cfg .regression) (r, 0)) =
      ({ r with evidence := (boundRecord 0 0 0 regresses refilled r).evidence }, boundAlerts regresses refilled r) := by
  have halerts : ∀ tr tm : Bool, ((0 : Word16) ||| if tr = true then 0 else 0x0080) ||| (if tm = true then 0 else 0x0080) =
      if (!tr || !tm) = true then 0x0080 else 0 := by decide
  cases regresses with
  | false =>
    cases refilled with
    | false => rfl
    | true =>
      simp only [evidenceIf, setRaw_retiredMatch]
      refine Prod.ext rfl ?_
      simpa [boundAlerts] using halerts true r.evidence.retiredMatch.tripped
  | true =>
    cases refilled with
    | false =>
      simp only [evidenceIf, countRaw_regression]
      refine Prod.ext rfl ?_
      simpa [boundAlerts] using halerts r.evidence.regression.tripped true
    | true =>
      simp only [evidenceIf, countRaw_regression, setRaw_retiredMatch]
      exact Prod.ext rfl (halerts r.evidence.regression.tripped r.evidence.retiredMatch.tripped)

@[simp] theorem removeRetired_refill (e : RetiredEntry) (s : State) :
    (removeRetired e s).refill = { s.refill with retired := dropSerial e.content.serial s.refill.retired } := commit_refill _ _

@[simp] theorem removeRetired_slot (e : RetiredEntry) (n : Slot) (s : State) : (removeRetired e s).slot n = s.slot n := by
  simp only [State.slot, removeRetired, commit_slots]

/-- What the evaluation at BIND does to slot and working copies. -/
structure BindEvaluated (n : Slot) (i : Identity) (used g : Nat) (regresses refilled : Bool) (s : State)
    (e : State × Word16) : Prop where
  slot : e.1.slot n = { s.slot n with
    record := boundRecord g (max used (greatestOf (·.estimate) i.serial g s))
      (max used (greatestOf (·.acknowledged) i.serial g s)) regresses refilled (s.slot n).record }
  alerts : e.2 = boundAlerts regresses refilled (s.slot n).record
  retired : e.1.refill.retired = s.refill.retired.filter fun e =>
    decide (e.content.serial ≠ i.serial ∨ g ≤ e.content.generation)
  checkpoints : e.1.refill.checkpoints = s.refill.checkpoints

theorem evaluateBind_spec {n : Slot} {i : Identity} {used g : Nat} {regresses refilled : Bool} {s : State}
    (hi : (s.slot n).record.identity = some i) (hl : (s.refill.retired.map fun e => e.content.serial).Nodup)
    (hreg : regresses = (decide (used < greatestOf (·.acknowledged) i.serial g s) ||
      (checkpointsOf i.serial s).any fun c => decide (g < c.generation)))
    (href : refilled = decide (retiredFinding s.refill.retired i.serial used g = .refilled)) :
    BindEvaluated n i used g regresses refilled s (evaluateBind n used g s) := by
  unfold evaluateBind
  rw [hi]
  dsimp only
  rw [bindFromCheckpoints_eq, ← hreg]
  dsimp only
  rw [← href, evidence_bound, modSlot_eq]
  have hrecord : ∀ U A, ({ (s.slot n).record with
      identity := some { i with generation := g }, uBind := some U, lastWritten := some A,
      evidence := (boundRecord 0 0 0 regresses refilled (s.slot n).record).evidence } : BindingRecord) =
      boundRecord g U A regresses refilled (s.slot n).record := fun U A => by
    simp only [boundRecord, hi, Option.map_some]
  cases hf : retiredFinding s.refill.retired i.serial used g with
  | authorisedRefill e =>
    dsimp only
    refine ⟨?_, rfl, ?_, by rw [removeRetired_refill]; rfl⟩
    · rw [removeRetired_slot, State.slot_setSlot_self, ← hrecord]
      rfl
    · rw [← dropSerial_of_authorised hl hf, removeRetired_refill]
      rfl
  | notListed | refilled | emptyCartridge =>
    refine ⟨?_, rfl, (filter_of_not_authorised (used := used) hl (by simp [hf])).symm, rfl⟩
    rw [← hrecord]
    exact State.slot_setSlot_self n _ s

/-! ### The tag comparison -/

/-- Any tag but the expected one fails the binding, and the next entry becomes current (R104, R107, R108, R131). -/
theorem judgeChallenge_fails {n : Slot} {op : CurrentOp} {a : Attempt} {msg : List Byte} {s : State}
    (hc : (s.slot n).current = some op) (hm : tagMatches s.key (s.slot n).record a msg ≠ true) :
    judgeChallenge n a msg s = pump n (s.setSlot n
      (mergeStatus s.policy.allowance (primaryOf op .failed (some .auth)) 0 0x0002
        { s.slot n with
            current := none, bindingState := .failed, record := { (s.slot n).record with failure := some .auth } })) := by
  have hstatus := mergeStatus_enterState s.policy.allowance { s.slot n with current := none }
    (p := primaryOf op .failed (some .auth)) (e := 0) (a := 0x0002) (carries_alert (by decide)) .failed (some .auth)
  unfold judgeChallenge
  dsimp only
  rw [if_neg hm, failBinding, endOp, setBinding, modSlot_eq,
    finishOp_of_current (op := op) (by rw [State.slot_setSlot_self]; exact hc), State.slot_setSlot_self, State.setSlot_setSlot]
  exact congrArg (fun c => pump n (s.setSlot n c)) hstatus

/-- A matching tag of a BIND, or of a binding never evaluated, has it evaluated at BIND (R107, R131, R132). -/
theorem judgeChallenge_binds {n : Slot} {a : Attempt} {msg : List Byte} {s : State}
    (hm : tagMatches s.key (s.slot n).record a msg = true)
    (hb : isCurrent .bind (s.slot n) = true ∨ (s.slot n).record.uBind = none) {e : State × Word16}
    (he : e = evaluateBind n (fieldAt msg 1 4) (fieldAt msg 5 1) s) :
    judgeChallenge n a msg s = becomeVerified n (verifiedEvent (s.slot n)) true e.2 e.1 := by
  unfold judgeChallenge
  dsimp only
  rw [if_pos hm, if_pos (by simpa using hb), he]

/-- The binding as a matching tag leaves it: evaluated at BIND, proved, and judged at the estimate that U_bind then gives (R50,
R132, R133, R142). -/
theorem judgeChallenge_bound {n : Slot} {op : CurrentOp} {a : Attempt} {msg : List Byte} {i : Identity} {used g U : Nat}
    {regresses refilled : Bool} {r : BindingRecord} {s : State} (hc : (s.slot n).current = some op)
    (hm : tagMatches s.key (s.slot n).record a msg = true) (hb : op.kind = .bind ∨ (s.slot n).record.uBind = none)
    (hused : fieldAt msg 1 4 = used) (hg : fieldAt msg 5 1 = g) (hi : (s.slot n).record.identity = some i)
    (hl : (s.refill.retired.map fun e => e.content.serial).Nodup)
    (hreg : regresses = (decide (used < greatestOf (·.acknowledged) i.serial g s) ||
      (checkpointsOf i.serial s).any fun c => decide (g < c.generation)))
    (href : refilled = decide (retiredFinding s.refill.retired i.serial used g = .refilled))
    (hr : r = boundRecord g (max used (greatestOf (·.estimate) i.serial g s))
      (max used (greatestOf (·.acknowledged) i.serial g s)) regresses refilled (s.slot n).record)
    (hU : U = min (max used (greatestOf (·.estimate) i.serial g s) + (s.slot n).record.metered) 4294967295) :
    ∃ e, EndsVerified n (verifiedEvent (s.slot n)).bits
        (boundAlerts regresses refilled (s.slot n).record ||| suspectAt (s.slot n).config i.capacity U (s.slot n).record)
        (judgedAt (s.slot n).config i.capacity U (provedRecord r)) e (judgeChallenge n a msg s) ∧
      eventsOf (e.slot n) = eventsOf (s.slot n) ∧ alertsOf (e.slot n) = alertsOf (s.slot n) ∧
      e.refill.retired = s.refill.retired.filter (fun e => decide (e.content.serial ≠ i.serial ∨ g ≤ e.content.generation)) ∧
      e.refill.checkpoints = s.refill.checkpoints := by
  have hcurrent : isCurrent .bind (s.slot n) = true ∨ (s.slot n).record.uBind = none :=
    hb.imp (fun hk => by simp [isCurrent, hc, hk]) id
  have hspec := evaluateBind_spec hi hl hreg href
  rw [judgeChallenge_binds hm hcurrent rfl, hused, hg]
  generalize evaluateBind n used g s = e at hspec ⊢
  have hslot := hspec.slot
  rw [← hr] at hslot
  have hlevel : (provedRecord r).level = some (U, i.capacity) := by
    rw [hU, hr]
    exact level_eq (i := { i with generation := g }) (by simp [provedRecord, boundRecord, hi]) rfl
  refine ⟨e.1, becomeVerified_ends (op := op)
      (p := (judgedAt (s.slot n).config i.capacity U (provedRecord r),
        boundAlerts regresses refilled (s.slot n).record ||| suspectAt (s.slot n).config i.capacity U (s.slot n).record))
      (by rw [hslot]; exact hc) _ true e.2 ?_, by rw [hslot]; rfl, by rw [hslot]; rfl,
    hspec.retired, hspec.checkpoints⟩
  rw [hspec.alerts, hslot]
  simp only [evidenceIf, if_true, judgeSilently_at hlevel]
  rw [hr]
  rfl

/-- Settles O47: a tag that differs fails the binding; a matching one has it evaluated at BIND, proved and judged. -/
theorem tagComparison : Obligations.TagComparison := by
  intro n op a root nonce i used generation g tag c s h hstep hkey hnonce hc hi hused hg htaglen expected hexpected
  subst hc
  have hexec := exec_challengeResponse h hstep htaglen used generation
  have hslot : (s.setSlot n (attemptOver (s.slot n))).slot n = attemptOver (s.slot n) := State.slot_setSlot_self n _ s
  have hmatch : tagMatches (s.setSlot n (attemptOver (s.slot n))).key
      ((s.setSlot n (attemptOver (s.slot n))).slot n).record a (challengeResponse used generation tag) = true ↔
      tag = expected := by
    rw [hslot, State.setSlot_key, hkey, hexpected]
    exact tagMatches_iff hi hnonce hused htaglen
  refine ⟨fun hne => ?_, fun heq hb hw => ?_⟩
  · rw [hexec, judgeChallenge_fails (op := op) (by rw [hslot]; exact h.current) (mt hmatch.mp hne), hslot,
      State.setSlot_setSlot]
    rfl
  · have hwork := (slotWork_setSlot n (attemptOver (s.slot n)) s).trans
      (slotWork_judgeChallenge n a (challengeResponse used generation tag) _)
    obtain ⟨regresses, hreg⟩ : ∃ b, b = (decide (used < greatestOf (·.acknowledged) i.serial g s) ||
      (checkpointsOf i.serial s).any fun c => decide (g < c.generation)) := ⟨_, rfl⟩
    obtain ⟨refilled, href⟩ : ∃ b, b = decide (retiredFinding s.refill.retired i.serial used g = .refilled) := ⟨_, rfl⟩
    obtain ⟨e, hends, hevents, halerts, hretired, hcheckpoints⟩ := judgeChallenge_bound
      (s := s.setSlot n (attemptOver (s.slot n))) (op := op) (by rw [hslot]; exact h.current) (hmatch.mpr heq)
      (by rw [hslot]; exact hb) (challengeResponse_used used generation tag hused)
      ((challengeResponse_generation used generation tag).trans hg.symm) (by rw [hslot]; exact hi) hw.serials hreg href rfl rfl
    rw [hslot] at hends hevents halerts
    generalize judgeChallenge n a (challengeResponse used generation tag) (s.setSlot n (attemptOver (s.slot n))) = t
      at hexec hwork hends
    have hrecord := hends.record
    have hregresses : regresses = true ↔ used < greatestOf (·.acknowledged) i.serial g s ∨ AheadRecord i.serial g s := by
      rw [hreg, Bool.or_eq_true, decide_eq_true_iff, ahead_iff]
    have hrefilled : refilled = true ↔ ∃ e ∈ s.refill.retired, e.content.serial = i.serial ∧
        (g < e.content.generation ∨ (g = e.content.generation ∧ used < e.content.finalCount)) := by
      rw [href, decide_eq_true_iff, retiredFinding_refilled_iff hw.serials]
    have hverifiedEvent : (verifiedEvent (attemptOver (s.slot n))).bits = if op.kind = .bind then 0x01 else 0x02 := by
      have hcur : isCurrent .bind (attemptOver (s.slot n)) = decide (op.kind = .bind) := by
        simp [isCurrent, attemptOver, h.current]
      rw [verifiedEvent, hcur]
      by_cases hk : op.kind = .bind <;> simp [hk, SlotEvent.bits]
    have hevent := hends.events
    rw [hevents, hverifiedEvent] at hevent
    refine ⟨t, _, hexec, rfl, hwork.others, hends.bindingState, by rw [hrecord]; rfl,
      by rw [hrecord]; exact congrArg (Option.map fun j : Identity => { j with generation := g }) hi,
      by rw [hrecord]; rfl, by rw [hrecord]; rfl, by rw [hrecord]; rfl, by rw [hrecord]; rfl,
      fun hcounts => ?_, fun hnot => ?_, fun hfound => ?_, fun hnone => ?_,
      by rw [hends.refill]; exact hretired, by rw [hends.refill]; exact hcheckpoints, ?_, fun U hU => ?_⟩
    · have hyes := hregresses.mpr hcounts
      refine ⟨by rw [hrecord, hyes]; rfl, fun hfirst => ?_⟩
      have hfirst' : (attemptOver (s.slot n)).record.evidence.regression.tripped = false := hfirst
      rw [hends.alerts 7 (by decide), BitVec.getLsbD_or, (boundAlerts_bits _ _ _).2, hyes, hfirst']
      simp
    · have hno := Bool.eq_false_iff.mpr (mt hregresses.mp hnot)
      rw [hrecord, hno]
      rfl
    · have hyes := hrefilled.mpr hfound
      rw [hrecord, hyes]
      exact ⟨rfl, rfl⟩
    · have hno : refilled = false := Bool.eq_false_iff.mpr <| mt hrefilled.mp fun ⟨e, he, hs, hlater⟩ => by
        have := hnone e he hs
        omega
      rw [hrecord, hno]
      rfl
    · rw [hevent, BitVec.getLsbD_or]
      by_cases hk : op.kind = .bind
      · rw [if_pos hk, if_pos hk]
        exact Bool.or_true _
      · rw [if_neg hk, if_neg hk]
        exact Bool.or_true _
    · subst hU
      have hquiet : ∀ k, 2 ≤ k → k ≤ 4 → BitVec.getLsbD (if op.kind = .bind then 0x01 else 0x02 : Byte) k = false := by
        split <;> decide
      refine ⟨by rw [hrecord]; exact ⟨rfl, rfl, rfl, rfl⟩, fun k hk hk' => ?_, ?_⟩
      · rw [hevent, BitVec.getLsbD_or, hquiet k hk hk', Bool.or_false]
        rfl
      · rw [hends.alerts 6 (by decide), BitVec.getLsbD_or, (boundAlerts_bits _ _ _).1, Bool.false_or, suspectAt_bit, halerts]
        rfl

end Sys2Proof.Machine
end

section
/-! The evaluation at ADVANCE (R109, R110, R113, R138, R144; O49): what the answer makes of the record, the checkpoint it
writes, and how the WRITE_BACK or RELEASE that made it ends. -/

namespace Sys2Proof.Machine

/-! ### What the answer makes of the record -/

/-- ADVANCE_REFUSED counts 1 and trips at 3, with REFILL_SUSPECT at its first trip (R135, R138). -/
theorem countRaw_advanceRefused (cfg : SlotConfig) (r : BindingRecord) :
    countRaw cfg .advanceRefused r =
      ({ r with evidence := { r.evidence with
          advanceRefused :=
            { raw := min (r.evidence.advanceRefused.raw + 1) 65535,
              worst := max r.evidence.advanceRefused.worst (min (r.evidence.advanceRefused.raw + 1) 65535),
              tripped := r.evidence.advanceRefused.tripped || decide (2 ≤ r.evidence.advanceRefused.raw) } } },
        if !r.evidence.advanceRefused.tripped && decide (2 ≤ r.evidence.advanceRefused.raw) then 0x0040 else 0) := by
  have hreached : decide (EvidenceKind.advanceRefused.threshold cfg ≤ min (r.evidence.advanceRefused.raw + 1) 65535) =
      decide (2 ≤ r.evidence.advanceRefused.raw) := by
    rw [decide_eq_decide]
    change 3 ≤ _ ↔ _
    omega
  have hcount : satAdd evidenceMax (r.evidence.get .advanceRefused).raw 1 = min (r.evidence.advanceRefused.raw + 1) 65535 := rfl
  unfold countRaw setRaw
  rw [hcount]
  dsimp only
  rw [hreached, Bool.and_comm]
  rfl

/-- The record that an answer below the target leaves (R138, R144). -/
def refusedRecord (below : Bool) (r : BindingRecord) : BindingRecord :=
  { r with
      evidence := { r.evidence with
        advanceRefused :=
          { raw := min (r.evidence.advanceRefused.raw + 1) 65535,
            worst := max r.evidence.advanceRefused.worst (min (r.evidence.advanceRefused.raw + 1) 65535),
            tripped := r.evidence.advanceRefused.tripped || decide (2 ≤ r.evidence.advanceRefused.raw) },
        regression :=
          if below then
            { raw := min (r.evidence.regression.raw + 1) 65535,
              worst := max r.evidence.regression.worst (min (r.evidence.regression.raw + 1) 65535), tripped := true }
          else r.evidence.regression } }

/-- The alerts of an answer below the target (R135). -/
def refusedAlerts (below : Bool) (r : BindingRecord) : Word16 :=
  (if !r.evidence.advanceRefused.tripped && decide (2 ≤ r.evidence.advanceRefused.raw) then 0x0040 else 0) |||
    (if below && !r.evidence.regression.tripped then 0x0080 else 0)

theorem refusedAlerts_bits (below : Bool) (r : BindingRecord) :
    (refusedAlerts below r).getLsbD 6 =
        (!r.evidence.advanceRefused.tripped && decide (2 ≤ r.evidence.advanceRefused.raw)) ∧
      (refusedAlerts below r).getLsbD 7 = (below && !r.evidence.regression.tripped) := by
  unfold refusedAlerts
  generalize (!r.evidence.advanceRefused.tripped && decide (2 ≤ r.evidence.advanceRefused.raw)) = suspect
  generalize (below && !r.evidence.regression.tripped) = confirmed
  revert suspect confirmed
  decide

/-- The record that an answer at or above the target leaves before its marks are judged (R144). -/
def takenRecord (v bound : Nat) (r : BindingRecord) : BindingRecord :=
  { r with
      uBind := some bound, lastWritten := some v,
      evidence := { r.evidence with
        advanceRefused := { r.evidence.advanceRefused with raw := 0 } } }

section Outcome
variable {cfg : SlotConfig} {v T u lw U : Nat} {i : Identity} {r : BindingRecord}

theorem evaluateAdvance_refused (hl : r.lastWritten = some lw) (h : v < T) :
    evaluateAdvance cfg v T r =
      { record := refusedRecord (decide (v < lw)) r, alerts := refusedAlerts (decide (v < lw)) r, raised := false,
        taken := false } := by
  unfold evaluateAdvance
  rw [if_neg (Nat.not_le.mpr h), hl]
  dsimp only [Option.getD_some]
  have hstep : evidenceIf true (countRaw cfg .advanceRefused) (r, 0) = countRaw cfg .advanceRefused r :=
    Prod.ext rfl BitVec.zero_or
  rw [hstep]
  cases hbelow : decide (v < lw) with
  | false =>
    simp only [evidenceIf, countRaw_advanceRefused, Bool.false_eq_true, if_false, refusedRecord, refusedAlerts, Bool.false_and]
    exact congrArg (AdvanceOutcome.mk _ · false false) BitVec.or_zero.symm
  | true =>
    simp only [evidenceIf, if_true, countRaw_regression, countRaw_advanceRefused, refusedRecord, refusedAlerts, Bool.true_and]
    cases r.evidence.regression.tripped <;> rfl

theorem evaluateAdvance_taken (hu : r.uBind = some u) (hU : U = min (u + r.metered) 4294967295) (h : T ≤ v) :
    evaluateAdvance cfg v T r =
      { record := takenRecord v (if U < v then u + (v - U) else u) r, alerts := 0,
        raised := decide (U < v), taken := true } := by
  have hest : r.uEst = some U := by simp [BindingRecord.uEst, hu, satAdd32, satAdd, Config.max32, hU]
  have hzero : setRaw cfg .advanceRefused 0 { r with lastWritten := some v } = (takenRecord v u r, 0) := by
    simp [setRaw, EvidenceKind.threshold, Evidence.get, Evidence.put, takenRecord, hu]
  unfold evaluateAdvance
  rw [if_pos h, hzero, hu, hest]
  by_cases hv : U < v
  · simp [hv, takenRecord]
  · simp [hv]

/-- The answer is taken when it is at or above the target (R144). -/
theorem evaluateAdvance_takes : (evaluateAdvance cfg v T r).taken = decide (T ≤ v) := by
  unfold evaluateAdvance
  by_cases h : T ≤ v
  · rw [if_pos h, decide_eq_true h]
    cases r.uBind with
    | none => rfl
    | some u =>
      cases r.uEst with
      | none => rfl
      | some est => dsimp only; split <;> rfl
  · rw [if_neg h, decide_eq_false h]

/-- The record and the alerts after an ADVANCE, its marks judged where U_bind was raised (R50, R144). -/
def advanceOutcome (cfg : SlotConfig) (v T : Nat) (r : BindingRecord) : BindingRecord × Word16 :=
  let e := evaluateAdvance cfg v T r
  evidenceIf e.raised (judgeSilently cfg) (e.record, e.alerts)

theorem advanceOutcome_refused (hl : r.lastWritten = some lw) (h : v < T) :
    advanceOutcome cfg v T r = (refusedRecord (decide (v < lw)) r, refusedAlerts (decide (v < lw)) r) := by
  simp [advanceOutcome, evaluateAdvance_refused hl h, evidenceIf]

theorem advanceOutcome_kept (hu : r.uBind = some u) (hU : U = min (u + r.metered) 4294967295) (h : T ≤ v) (hv : v ≤ U) :
    advanceOutcome cfg v T r = (takenRecord v u r, 0) := by
  simp [advanceOutcome, evaluateAdvance_taken hu hU h, evidenceIf, Nat.not_lt.mpr hv]

/-- An estimate raised to the answer is the answer (R144). -/
theorem estimate_raised (hU : U = min (u + r.metered) 4294967295) (hv : v < 4294967296) (h : U < v) :
    min (u + (v - U) + r.metered) 4294967295 = v := by omega

theorem advanceOutcome_raised (hi : r.identity = some i) (hu : r.uBind = some u) (hU : U = min (u + r.metered) 4294967295)
    (h : T ≤ v) (hv : v < 4294967296) (hraise : U < v) :
    advanceOutcome cfg v T r =
      (judgedAt cfg i.capacity v (takenRecord v (u + (v - U)) r), suspectAt cfg i.capacity v r) := by
  have hlevel : (takenRecord v (u + (v - U)) r).level = some (v, i.capacity) := by
    rw [level_eq (r := takenRecord v (u + (v - U)) r) hi rfl]
    exact congrArg (fun e => some (e, i.capacity)) (estimate_raised hU hv hraise)
  simp only [advanceOutcome, evaluateAdvance_taken hu hU h, evidenceIf, hraise, decide_true, if_true, judgeSilently_at hlevel]
  exact congrArg _ BitVec.zero_or

end Outcome

/-! ### The answer handed to the operation -/

theorem exec_advanceResponse {n : Slot} {op : CurrentOp} {a : Attempt} {s : State} (h : AttemptRuns n op a s)
    (hstep : op.step = .advance) (v : Nat) :
    exec (.cartridgeResponse n (advanceResponse v)) s =
      .next (judgeAdvance n (advanceResponse v) (s.setSlot n (attemptOver (s.slot n)))) := by
  have hexec := exec_cartridgeResponse (body := beBytes 4 v) h (by rw [beBytes_length, hstep]; rfl)
  rw [hstep] at hexec
  refine hexec.trans ?_
  unfold handResponse
  rw [hstep]
  rfl

theorem advanceResponse_count {v : Nat} (h : v < 4294967296) : fieldAt (advanceResponse v) 1 4 = v :=
  (fieldAt_append [0x7C] (beBytes 4 v) [crc8 (0x7C :: beBytes 4 v)]).trans (beNat_beBytes_of_lt h)

/-- The end of the operation that made an ADVANCE (R109, R110, R113). -/
def endAdvance (n : Slot) (op : CurrentOp) (taken : Bool) (alerts : Word16) (s : State) : State :=
  if op.kind = .release then
    if op.haltPending then endOp n .halted none 0 alerts s else pump n (finishRelease n alerts s)
  else endOp n (if taken then .written else .short) none 0 alerts s

/-- The slot takes an evaluation's record, and an answer that was taken writes its checkpoint (R144, R145). -/
def advanceWritten (n : Slot) (e : AdvanceOutcome) (s : State) : State :=
  if e.taken then writeCheckpoint n (s.setSlot n { s.slot n with record := e.record })
  else s.setSlot n { s.slot n with record := e.record }

/-- An evaluation at ADVANCE takes effect, and the operation ends (R109, R110, R144). -/
def concludeAdvance (n : Slot) (op : CurrentOp) (e : AdvanceOutcome) (s : State) : State :=
  let t := advanceWritten n e s
  let p := evidenceIf e.raised (judgeSilently (s.slot n).config) ((t.slot n).record, e.alerts)
  endAdvance n op e.taken p.2 (t.setSlot n { t.slot n with record := p.1 })

theorem judgeAdvance_of_current {n : Slot} {op : CurrentOp} {s : State} (hc : (s.slot n).current = some op) (msg : List Byte) :
    judgeAdvance n msg s =
      concludeAdvance n op (evaluateAdvance (s.slot n).config (fieldAt msg 1 4) (op.target.getD 0) (s.slot n).record) s := by
  unfold judgeAdvance
  dsimp only
  rw [hc]
  rfl

section Judge
variable {n : Slot} {i : Identity} {v T u U : Nat} {k : Checkpoint} {s : State}
  (hlt : v < 4294967296) (hi : (s.slot n).record.identity = some i) (hu : (s.slot n).record.uBind = some u)
  (hU : U = min (u + (s.slot n).record.metered) 4294967295)
  (hk : k = { serial := i.serial, generation := i.generation, acknowledged := v, estimate := max U v })
include hlt hi hu hU hk

/-- An answer at or above the target writes its checkpoint: the answer, and U_est as it then stands (R144, R145). -/
theorem advanceWritten_eq :
    advanceWritten n (evaluateAdvance (s.slot n).config v T (s.slot n).record) s =
      (if T ≤ v then s.checkpointed n k else s).setSlot n
        { s.slot n with record := (evaluateAdvance (s.slot n).config v T (s.slot n).record).record } := by
  unfold advanceWritten
  rw [evaluateAdvance_takes]
  by_cases hle : T ≤ v
  · have hestimate : min ((if U < v then u + (v - U) else u) + (s.slot n).record.metered) 4294967295 = max U v := by
      split <;> omega
    rw [if_pos (decide_eq_true hle), if_pos hle, evaluateAdvance_taken hu hU hle]
    generalize hc : ({ s.slot n with record := takenRecord v (if U < v then u + (v - U) else u) (s.slot n).record } :
      SlotContext) = c
    rw [writeCheckpoint_at (i := i) (u := if U < v then u + (v - U) else u) (lw := v)
      (by rw [State.slot_setSlot_self, ← hc]; exact hi) (by rw [State.slot_setSlot_self, ← hc]; rfl)
      (by rw [State.slot_setSlot_self, ← hc]; rfl), checkpointed_setSlot, State.slot_setSlot_self, hk, ← hestimate, ← hc]
    rfl
  · rw [if_neg (by simp [hle]), if_neg hle]

/-- An answer at or above the target writes the checkpoint, and any answer leaves the outcome's record (R144, R145). -/
theorem judgeAdvance_eq {op : CurrentOp} {msg : List Byte} {p : BindingRecord × Word16} (hc : (s.slot n).current = some op)
    (hv : fieldAt msg 1 4 = v) (hT : op.target = some T)
    (hp : p = advanceOutcome (s.slot n).config v T (s.slot n).record) :
    judgeAdvance n msg s = endAdvance n op (decide (T ≤ v)) p.2
      ((if T ≤ v then s.checkpointed n k else s).setSlot n { s.slot n with record := p.1 }) := by
  rw [judgeAdvance_of_current hc, hv, hT, Option.getD_some, concludeAdvance, advanceWritten_eq hlt hi hu hU hk,
    State.slot_setSlot_self, State.setSlot_setSlot, evaluateAdvance_takes, hp]
  rfl

end Judge

/-! ### What follows a RELEASE -/

/-- Of the kinds only a BIND meets its state condition at a RELEASED binding (R99). -/
theorem stateCondition_released {kind : OpKind} {c : SlotContext} (hb : c.bindingState = .released) (hk : kind ≠ .bind) :
    stateCondition kind c = false := by
  cases kind with
  | bind => exact absurd rfl hk
  | verify | writeBack | release => simp [stateCondition, hb]

/-- The queue of a RELEASED binding leaves the working copies alone: its entries end STALE, up to a BIND (R103, R105). -/
theorem refill_runQueue_released (k : Nat) {n : Slot} {s : State} (hb : (s.slot n).bindingState = .released) :
    (runQueue k n s).refill = s.refill := by
  induction k generalizing s with
  | zero => rfl
  | succ k ih =>
    cases hc : (s.slot n).current with
    | some op => rw [runQueue_of_current (by simp [hc])]
    | none =>
      cases hq : (s.slot n).queue with
      | nil => rw [runQueue_of_empty hq]
      | cons e rest =>
        rw [runQueue_next hc hq]
        have hslot := State.slot_setSlot_self n { s.slot n with queue := rest } s
        by_cases hs : stateCondition e.kind ((s.setSlot n { s.slot n with queue := rest }).slot n) = true
        · have hk : e.kind = .bind := by
            by_contra hk
            rw [stateCondition_released (by rw [hslot]; exact hb) hk] at hs
            exact Bool.false_ne_true hs
          rw [beginOp_begins hs (by simp [hk]) (by simp [hk]), runQueue_of_current (hasBegun_begins n _ _ _).current_ne]
          exact (begins_blocks n _ _ _).1
        · rw [beginOp_stale (by rw [hslot]; exact hc) (Bool.eq_false_iff.mpr hs), State.setSlot_setSlot,
            ih (by rw [State.slot_setSlot_self, mergeStatus_bindingState, hslot]; exact hb), State.setSlot_refill]

/-- A queue whose entries all end STALE runs empty, and of the slot only queue and pending status move (R103, R104). -/
theorem runQueue_stale (k : Nat) {n : Slot} {s : State} (hc : (s.slot n).current = none) (hlen : (s.slot n).queue.length ≤ k)
    (h : ∀ e ∈ (s.slot n).queue, stateCondition e.kind (s.slot n) = false) :
    ∃ status, runQueue k n s = s.setSlot n { s.slot n with queue := [], status := status } := by
  have hempty : ∀ {t : State}, (t.slot n).queue = [] →
      ∃ status, t = t.setSlot n { t.slot n with queue := [], status := status } := fun {t} hq =>
    ⟨(t.slot n).status, by rw [← hq]; exact (State.setSlot_slot n t).symm⟩
  induction k generalizing s with
  | zero => exact hempty (List.length_eq_zero_iff.mp (Nat.le_zero.mp hlen))
  | succ k ih =>
    cases hq : (s.slot n).queue with
    | nil => rw [runQueue_of_empty hq]; exact hempty hq
    | cons e rest =>
      rw [hq] at hlen h
      have hslot := State.slot_setSlot_self n { s.slot n with queue := rest } s
      have hstale : ∀ f ∈ e :: rest, ∀ {d : SlotContext}, d.bindingState = (s.slot n).bindingState →
          d.record = (s.slot n).record → stateCondition f.kind d = false := fun f hf {d} hb hr =>
        (stateCondition_congr hb (by rw [hr]) f.kind).trans (h f hf)
      rw [runQueue_next hc hq, beginOp_stale (by rw [hslot]; exact hc)
        (hstale e (by simp) (by rw [hslot]) (by rw [hslot])), hslot, State.setSlot_setSlot]
      obtain ⟨status, hrun⟩ := ih (s := s.setSlot n (mergeStatus (s.setSlot n { s.slot n with queue := rest }).policy.allowance
          (primaryOf (newOp e.kind e.origin) .stale none) 0 0 { s.slot n with queue := rest }))
        (by rw [State.slot_setSlot_self, mergeStatus_current]; exact hc)
        (by rw [State.slot_setSlot_self, mergeStatus_queue]; exact Nat.le_of_succ_le_succ hlen)
        (fun f hf => by
          rw [State.slot_setSlot_self, mergeStatus_queue] at hf
          exact hstale f (List.mem_cons_of_mem e hf) (by rw [State.slot_setSlot_self, mergeStatus_bindingState])
            (by rw [State.slot_setSlot_self, mergeStatus_record]))
      refine ⟨status, hrun.trans ?_⟩
      rw [State.slot_setSlot_self, State.setSlot_setSlot, mergeStatus_frame]

/-- A RELEASE finished at a slot as it stood, and every entry behind it ended STALE. -/
structure EndsReleased (n : Slot) (a : Word16) (c : SlotContext) (s t : State) : Prop where
  refill : t.refill = s.refill
  store : t.store = s.store
  agent : t.agent = s.agent
  bindingState : (t.slot n).bindingState = .released
  supply : (t.slot n).supply = .off
  attempt : (t.slot n).attempt = c.attempt
  current : (t.slot n).current = none
  queue : (t.slot n).queue = []
  record : (t.slot n).record = keptRecord c
  events : eventsOf (t.slot n) = eventsOf c
  alerts : ∀ k, k < 8 → (alertsOf (t.slot n)).getLsbD k = ((alertsOf c).getLsbD k || a.getLsbD k)

section Release
variable {n : Slot} {s : State} {op : CurrentOp} (hc : (s.slot n).current = some op) (h : Evaluated (s.slot n).record)
  (hb : (s.slot n).bindingState = .verified) (a : Word16)
include hc h hb

/-- The RELEASE of a VERIFIED binding leaves its trace, and the slot released (R110, R146). -/
theorem finishRelease_verified :
    finishRelease n a s = (s.traceOf n (s.slot n).record).setSlot n
      (mergeStatus s.policy.allowance (primaryOf op .released none) 0 a
        (refreshSnapshot s.policy.allowance (releasedSlot (s.slot n)))) := by
  have hends : s.bindingEnds n (s.slot n) = s.traceOf n (s.slot n).record := by simp [State.bindingEnds, hb]
  rw [finishRelease_eq hc h (by simp [hb]) (by simp [hb]), hends]

theorem refill_pump_finishRelease :
    (pump n (finishRelease n a s)).refill = (s.traceOf n (s.slot n).record).refill := by
  rw [finishRelease_verified hc h hb, pump, refill_runQueue_released]
  · rfl
  · rw [State.slot_setSlot_self, mergeStatus_bindingState]
    rfl

theorem pump_finishRelease (hq : isQueued .bind (s.slot n).queue = false) :
    EndsReleased n a (s.slot n) (s.traceOf n (s.slot n).record) (pump n (finishRelease n a s)) := by
  rw [finishRelease_verified hc h hb]
  generalize s.traceOf n (s.slot n).record = w
  generalize hd : mergeStatus s.policy.allowance (primaryOf op .released none) 0 a
    (refreshSnapshot s.policy.allowance (releasedSlot (s.slot n))) = d
  have hreleased : d.bindingState = .released := by rw [← hd, mergeStatus_bindingState]; rfl
  have hstale : ∀ e ∈ d.queue, stateCondition e.kind d = false := fun e he => by
    refine stateCondition_released hreleased fun hk => ?_
    have hmem : e ∈ (s.slot n).queue := by rw [← hd, mergeStatus_queue] at he; exact he
    have hqueued : isQueued .bind (s.slot n).queue = true := List.any_eq_true.mpr ⟨e, hmem, decide_eq_true hk⟩
    rw [hq] at hqueued
    exact Bool.false_ne_true hqueued
  have hslot : (w.setSlot n d).slot n = d := State.slot_setSlot_self n d w
  obtain ⟨status, hrun⟩ := runQueue_stale (n := n) (s := w.setSlot n d) (d.queue.length)
    (by rw [hslot, ← hd, mergeStatus_current]; rfl) (by rw [hslot]) (by rw [hslot]; exact hstale)
  have hwork : QuietWork n (w.setSlot n d) (pump n (w.setSlot n d)) := quietWork_pump fun e he hs => by
    rw [hslot] at he hs
    rw [hstale e he] at hs
    exact absurd hs Bool.false_ne_true
  have hkept := hwork.kept
  have hpump : pump n (w.setSlot n d) = w.setSlot n { d with queue := [], status := status } := by
    rw [pump, hslot, hrun, hslot, State.setSlot_setSlot]
  rw [hslot, hpump, State.slot_setSlot_self] at hkept
  rw [hpump]
  refine ⟨rfl, rfl, rfl, ?_, ?_, ?_, ?_, ?_, ?_, ?_, fun k hk => ?_⟩
  · rw [State.slot_setSlot_self]; exact hreleased
  · rw [State.slot_setSlot_self, ← hd]; dsimp only; rw [mergeStatus_supply]; rfl
  · rw [State.slot_setSlot_self, ← hd]; dsimp only; rw [mergeStatus_attempt]; rfl
  · rw [State.slot_setSlot_self, ← hd]; dsimp only; rw [mergeStatus_current]; rfl
  · rw [State.slot_setSlot_self]
  · rw [State.slot_setSlot_self, ← hd]; dsimp only; rw [mergeStatus_record]; rfl
  · rw [State.slot_setSlot_self, hkept.events, ← hd, eventsOf_mergeStatus, eventsOf_refreshSnapshot]
    exact BitVec.or_zero
  · rw [State.slot_setSlot_self, hkept.alerts k hk, ← hd, alertsOf_mergeStatus, alertsOf_refreshSnapshot, BitVec.getLsbD_or]
    rfl

end Release

end Sys2Proof.Machine
end

section
/-! The evaluation at ADVANCE as a whole (O49): the outcome's record in the slot that the operation leaves, and the trace of a
RELEASE. -/

namespace Sys2Proof.Machine

section Outcome
variable {cfg : SlotConfig} {v T u lw U : Nat} {i : Identity} {r : BindingRecord} (hi : r.identity = some i)
  (hu : r.uBind = some u) (hl : r.lastWritten = some lw) (hU : U = min (u + r.metered) 4294967295) (hv : v < 4294967296)
include hi hu hl hU hv

/-- What the outcome of an ADVANCE holds for a checkpoint: identity, U_bind, last_written and metered (R144, R145). -/
theorem advanceOutcome_binding :
    (advanceOutcome cfg v T r).1.identity = some i ∧
      (advanceOutcome cfg v T r).1.uBind = some (if T ≤ v then (if U < v then u + (v - U) else u) else u) ∧
      (advanceOutcome cfg v T r).1.lastWritten = some (if T ≤ v then v else lw) ∧
      (advanceOutcome cfg v T r).1.metered = r.metered ∧
      (advanceOutcome cfg v T r).1.evidence.retiredMatch = r.evidence.retiredMatch := by
  by_cases hle : T ≤ v
  · rw [if_pos hle, if_pos hle]
    rcases Nat.lt_or_ge U v with hraise | hkeep
    · rw [advanceOutcome_raised hi hu hU hle hv hraise, if_pos hraise]
      exact ⟨hi, rfl, rfl, rfl, rfl⟩
    · rw [advanceOutcome_kept hu hU hle hkeep, if_neg (Nat.not_lt.mpr hkeep)]
      exact ⟨hi, rfl, rfl, rfl, rfl⟩
  · rw [advanceOutcome_refused hl (Nat.lt_of_not_le hle), if_neg hle, if_neg hle]
    exact ⟨hi, hu, hl, rfl, rfl⟩

end Outcome

/-- A slot keeps the outcome of an ADVANCE as its operation ends: the record but for units since verify, residue, failure reason
and LOW at the end, and the pending events and alerts with the outcome's own. -/
structure KeepsOutcome (p : BindingRecord × Word16) (c c' : SlotContext) : Prop where
  record : c'.record = { p.1 with
    sinceVerify := c'.record.sinceVerify, residue := c'.record.residue, failure := c'.record.failure,
    lowAtEnd := c'.record.lowAtEnd }
  events : eventsOf c' = eventsOf c
  alerts : ∀ k, k < 8 → (alertsOf c').getLsbD k = ((alertsOf c).getLsbD k || p.2.getLsbD k)

theorem EndsVerified.keepsOutcome {n : Slot} {p : BindingRecord × Word16} {s t : State} (h : EndsVerified n 0 p.2 p.1 s t) :
    KeepsOutcome p (s.slot n) (t.slot n) where
  record := by
    have hr := h.record
    rw [hr]
  events := h.events.trans BitVec.or_zero
  alerts := h.alerts

theorem EndsReleased.keepsOutcome {n : Slot} {p : BindingRecord × Word16} {c : SlotContext} {s t : State}
    (h : EndsReleased n p.2 c s t) (hr : c.record = p.1) : KeepsOutcome p c (t.slot n) where
  record := by
    rw [h.record, keptRecord, hr]
  events := h.events
  alerts := h.alerts

theorem KeepsOutcome.of_status {p : BindingRecord × Word16} {c d c' : SlotContext} (h : KeepsOutcome p d c')
    (he : eventsOf d = eventsOf c) (ha : alertsOf d = alertsOf c) : KeepsOutcome p c c' :=
  ⟨h.record, h.events.trans he, fun k hk => by rw [h.alerts k hk, ha]⟩

section Kept
variable {p : BindingRecord × Word16} {c c' : SlotContext} {v T u lw U : Nat} {i : Identity} (h : KeepsOutcome p c c')
  (hu : c.record.uBind = some u) (hl : c.record.lastWritten = some lw)
  (hp : p = advanceOutcome c.config v T c.record)
include h hu hl hp

/-- The slot after an answer at or above the target (R144). -/
theorem KeepsOutcome.taken (hi : c.record.identity = some i) (hU : U = min (u + c.record.metered) 4294967295)
    (hv : v < 4294967296) (hle : T ≤ v) :
    c'.record.evidence.advanceRefused.raw = 0 ∧ c'.record.lastWritten = some v ∧
      c'.record.uBind = some (if U < v then u + (v - U) else u) ∧
      c'.record.evidence.regression = c.record.evidence.regression ∧
      (v ≤ U → SameMarks c.record c'.record ∧ (alertsOf c').getLsbD 6 = (alertsOf c).getLsbD 6) ∧
      (U < v → SameMarks (judgedAt c.config i.capacity v c.record) c'.record ∧
        (alertsOf c').getLsbD 6 = ((alertsOf c).getLsbD 6 || decide (suspectAt c.config i.capacity v c.record ≠ 0))) := by
  obtain ⟨-, hpu, hpl, -, -⟩ := advanceOutcome_binding (cfg := c.config) (T := T) hi hu hl hU hv
  rw [if_pos hle] at hpu hpl
  rw [h.record, h.alerts 6 (by decide), hp]
  rcases Nat.lt_or_ge U v with hraise | hkeep
  · rw [advanceOutcome_raised hi hu hU hle hv hraise] at hpu hpl ⊢
    exact ⟨rfl, hpl, hpu, rfl, fun hkeep => absurd hraise (Nat.not_lt.mpr hkeep),
      fun _ => ⟨⟨rfl, rfl, rfl, rfl⟩, by rw [suspectAt_bit]⟩⟩
  · rw [advanceOutcome_kept hu hU hle hkeep] at hpu hpl ⊢
    exact ⟨rfl, hpl, hpu, rfl, fun _ => ⟨⟨rfl, rfl, rfl, rfl⟩, by simp⟩,
      fun hraise => absurd hraise (Nat.not_lt.mpr hkeep)⟩

/-- The slot after an answer below the target (R138, R144). -/
theorem KeepsOutcome.refused (hlt : v < T) :
    c'.record.evidence.advanceRefused.raw = min (c.record.evidence.advanceRefused.raw + 1) 65535 ∧
      (c'.record.evidence.advanceRefused.tripped = true ↔
        c.record.evidence.advanceRefused.tripped = true ∨ 2 ≤ c.record.evidence.advanceRefused.raw) ∧
      c'.record.evidence.regression.raw =
        (if v < lw then min (c.record.evidence.regression.raw + 1) 65535 else c.record.evidence.regression.raw) ∧
      (c'.record.evidence.regression.tripped = true ↔ c.record.evidence.regression.tripped = true ∨ v < lw) ∧
      c'.record.lastWritten = some lw ∧ c'.record.uBind = some u ∧ SameMarks c.record c'.record ∧
      ((alertsOf c').getLsbD 6 = ((alertsOf c).getLsbD 6 ||
        (!c.record.evidence.advanceRefused.tripped && decide (2 ≤ c.record.evidence.advanceRefused.raw)))) ∧
      (alertsOf c').getLsbD 7 =
        ((alertsOf c).getLsbD 7 || (!c.record.evidence.regression.tripped && decide (v < lw))) := by
  obtain ⟨hbit6, hbit7⟩ := refusedAlerts_bits (decide (v < lw)) c.record
  rw [h.record, h.alerts 6 (by decide), h.alerts 7 (by decide), hp, advanceOutcome_refused hl hlt, hbit6, hbit7,
    Bool.and_comm (decide (v < lw))]
  refine ⟨rfl, ?_, ?_, ?_, hl, hu, ⟨rfl, rfl, rfl, rfl⟩, rfl, rfl⟩
  · simp [refusedRecord]
  · by_cases hbelow : v < lw <;> simp [refusedRecord, hbelow]
  · by_cases hbelow : v < lw <;> simp [refusedRecord, hbelow]

end Kept

/-- How the operation that made an ADVANCE ends at a VERIFIED binding: VERIFIED but for a RELEASE that no halt stops. -/
theorem endAdvance_verified {n : Slot} {op : CurrentOp} {s : State} (hc : (s.slot n).current = some op)
    (hb : (s.slot n).bindingState = .verified) (h : ¬(op.kind = .release ∧ op.haltPending = false)) (taken : Bool)
    (a : Word16) :
    EndsVerified n 0 a (s.slot n).record s (endAdvance n op taken a s) := by
  unfold endAdvance
  by_cases hk : op.kind = .release
  · have hhalt : op.haltPending = true := by
      rw [← Bool.not_eq_false]
      exact fun hf => h ⟨hk, hf⟩
    rw [if_pos hk, if_pos hhalt]
    exact endOp_verified hc hb _ _ _ _
  · rw [if_neg hk]
    exact endOp_verified hc hb _ _ _ _

theorem endAdvance_release {n : Slot} {op : CurrentOp} (hk : op.kind = .release) (hh : op.haltPending = false) (taken : Bool)
    (a : Word16) (s : State) : endAdvance n op taken a s = pump n (finishRelease n a s) := by
  simp [endAdvance, hk, hh]

/-- The evaluation at ADVANCE of an answer that ends the attempt: the checkpoint it writes, and the outcome's record (R81,
R144). -/
theorem judgeAdvance_attemptOver {n : Slot} {op : CurrentOp} {i : Identity} {v T u U : Nat} {k : Checkpoint} {s : State}
    {p : BindingRecord × Word16} (hc : (s.slot n).current = some op) (hT : op.target = some T)
    (hi : (s.slot n).record.identity = some i) (hu : (s.slot n).record.uBind = some u)
    (hU : U = min (u + (s.slot n).record.metered) 4294967295) (hv : v < 4294967296)
    (hk : k = { serial := i.serial, generation := i.generation, acknowledged := v, estimate := max U v })
    (hp : p = advanceOutcome (s.slot n).config v T (s.slot n).record) :
    judgeAdvance n (advanceResponse v) (s.setSlot n (attemptOver (s.slot n))) =
      endAdvance n op (decide (T ≤ v)) p.2
        ((if T ≤ v then s.checkpointed n k else s).setSlot n { attemptOver (s.slot n) with record := p.1 }) := by
  have hslot : (s.setSlot n (attemptOver (s.slot n))).slot n = attemptOver (s.slot n) := State.slot_setSlot_self n _ s
  have hwritten : (if T ≤ v then (s.setSlot n (attemptOver (s.slot n))).checkpointed n k
      else s.setSlot n (attemptOver (s.slot n))) =
      (if T ≤ v then s.checkpointed n k else s).setSlot n (attemptOver (s.slot n)) := by
    split
    · exact checkpointed_setSlot n k n _ s
    · rfl
  rw [judgeAdvance_eq (op := op) (p := p) hv (by rw [hslot]; exact hi) (by rw [hslot]; exact hu)
    (by rw [hslot]; exact hU) hk (by rw [hslot]; exact hc) (advanceResponse_count hv) hT (by rw [hslot]; exact hp),
    hwritten, State.setSlot_setSlot, hslot]

/-- A primary placed in a merge is the pending one (R118). -/
theorem primary_mergeStatus (allowance : Nat) (q : Primary) (e : Byte) (a : Word16) (c : SlotContext) :
    (mergeStatus allowance (some q) e a c).status.bind (·.primary) = some q := by
  unfold mergeStatus
  rw [if_neg (by simp)]
  rfl

/-- Settles O49: the outcome's record stands in the slot that the operation leaves, its checkpoint with the Refill Monitor,
and a RELEASE that finishes adds the trace of the binding's end. -/
theorem advanceEvaluation : Obligations.AdvanceEvaluation := by
  intro n op a i v T u lw U k c s h hstep hT hc hb hi hu hl hU hv hk
  subst hc
  obtain ⟨p, hp⟩ : ∃ p, p = advanceOutcome (s.slot n).config v T (s.slot n).record := ⟨_, rfl⟩
  obtain ⟨w, hw⟩ : ∃ w, w = if T ≤ v then s.checkpointed n k else s := ⟨_, rfl⟩
  obtain ⟨c3, hc3⟩ : ∃ c3, c3 = { attemptOver (s.slot n) with record := p.1 } := ⟨_, rfl⟩
  have hexec := exec_advanceResponse h hstep v
  have hwork := (slotWork_setSlot n (attemptOver (s.slot n)) s).trans (slotWork_judgeAdvance n (advanceResponse v) _)
  rw [judgeAdvance_attemptOver h.current hT hi hu hU hv hk hp, ← hw, ← hc3] at hexec hwork
  have hcur3 : ((w.setSlot n c3).slot n).current = some op := by rw [State.slot_setSlot_self, hc3]; exact h.current
  have hb3 : ((w.setSlot n c3).slot n).bindingState = .verified := by rw [State.slot_setSlot_self, hc3]; exact hb
  have hrecord3 : ((w.setSlot n c3).slot n).record = p.1 := by rw [State.slot_setSlot_self, hc3]
  obtain ⟨hpi, hpu, hpl, hpm, hpr⟩ := advanceOutcome_binding (cfg := (s.slot n).config) (T := T) hi hu hl hU hv
  rw [← hp] at hpi hpu hpl hpm hpr
  have hevaluated : Evaluated ((w.setSlot n c3).slot n).record := by
    rw [hrecord3]
    exact fun _ => ⟨by simp [hpi], by simp [hpl]⟩
  have hqueue3 : ((w.setSlot n c3).slot n).queue = (s.slot n).queue := by rw [State.slot_setSlot_self, hc3]; rfl
  have hstatus3 : eventsOf c3 = eventsOf (s.slot n) ∧ alertsOf c3 = alertsOf (s.slot n) := by
    rw [hc3]
    exact ⟨rfl, rfl⟩
  have hverified : ¬(op.kind = .release ∧ op.haltPending = false) → EndsVerified n 0 p.2 p.1 (w.setSlot n c3)
      (endAdvance n op (decide (T ≤ v)) p.2 (w.setSlot n c3)) := fun hend => by
    have hends := endAdvance_verified hcur3 hb3 hend (decide (T ≤ v)) p.2
    rwa [hrecord3] at hends
  have hreleased : op.kind = .release → op.haltPending = false → isQueued .bind (s.slot n).queue = false →
      EndsReleased n p.2 c3 ((w.setSlot n c3).traceOf n p.1) (endAdvance n op (decide (T ≤ v)) p.2 (w.setSlot n c3)) :=
    fun hkind hhalt hnobind => by
      have hends := pump_finishRelease hcur3 hevaluated hb3 p.2 (by rw [hqueue3]; exact hnobind)
      rw [endAdvance_release hkind hhalt]
      rwa [hrecord3, State.slot_setSlot_self] at hends
  have hkeeps : op.kind = .writeBack ∨ op.haltPending = true ∨ isQueued .bind (s.slot n).queue = false →
      KeepsOutcome p (s.slot n) ((endAdvance n op (decide (T ≤ v)) p.2 (w.setSlot n c3)).slot n) := fun hcase => by
    refine KeepsOutcome.of_status ?_ hstatus3.1 hstatus3.2
    by_cases hend : op.kind = .release ∧ op.haltPending = false
    · obtain ⟨hkind, hhalt⟩ := hend
      have hnobind : isQueued .bind (s.slot n).queue = false := by simpa [hkind, hhalt] using hcase
      exact (hreleased hkind hhalt hnobind).keepsOutcome (by rw [hc3])
    · have hkeep := (hverified hend).keepsOutcome
      rwa [State.slot_setSlot_self] at hkeep
  have hwrites : op.kind = .writeBack ∨ op.haltPending = true → ¬(op.kind = .release ∧ op.haltPending = false) :=
    fun hcase => by
    rintro ⟨hkind, hhalt⟩
    simp [hkind, hhalt] at hcase
  refine ⟨_, _, hexec, rfl, hwork.others, fun hcase => ?_, fun hcase => ?_, fun hkind horigin hempty => ?_,
    fun hkind hhalt => ?_, fun hkind hhalt hnobind => ?_⟩
  · have hkeep := hkeeps hcase
    generalize endAdvance n op (decide (T ≤ v)) p.2 (w.setSlot n c3) = t at hkeep ⊢
    have hrecord := hkeep.record
    refine ⟨by rw [hrecord]; exact hpi, by rw [hrecord]; exact hpm, by rw [hrecord]; exact hpr,
      fun b _ _ => by rw [hkeep.events], fun hle => ?_, fun hlt => ?_⟩
    · exact hkeep.taken hu hl hp hi hU hv hle
    · exact hkeep.refused hu hl hp hlt
  · have hends := hverified (hwrites hcase)
    refine ⟨hends.bindingState, fun w' hw' => ?_⟩
    rw [hw', ← hw]
    exact ⟨hends.refill, hends.store, hends.agent⟩
  · have hprimary : primaryOf op (if decide (T ≤ v) = true then .written else .short) none = some
        { kind := some .writeBack, result := if T ≤ v then .written else .short, reason := none, nothingActive := false } := by
      simp [primaryOf, horigin, hkind]
    have hend : endAdvance n op (decide (T ≤ v)) p.2 (w.setSlot n c3) =
        finishOp n (if decide (T ≤ v) = true then .written else .short) none 0 p.2 (w.setSlot n c3) := by
      unfold endAdvance endOp
      rw [if_neg (by simp [hkind]), pump_of_empty]
      rw [finishOp_of_current hcur3, State.slot_setSlot_self, mergeStatus_queue]
      exact hqueue3.trans hempty
    rw [hend, finishOp_of_current hcur3, State.slot_setSlot_self, hprimary, mergeStatus_current]
    exact ⟨primary_mergeStatus _ _ _ _ _, rfl⟩
  · rw [endAdvance_release hkind hhalt, refill_pump_finishRelease hcur3 hevaluated hb3, hrecord3,
      checkpoints_traceOf hpi hpu hpl, hpm, State.setSlot_refill, hw]
    by_cases hle : T ≤ v
    · have hestimate : min ((if U < v then u + (v - U) else u) + (s.slot n).record.metered) 4294967295 = max U v := by
        split <;> omega
      simp only [if_pos hle, hestimate, checkpointed_refill, Vector.set_set]
    · simp only [if_neg hle, hU]
  · have hends := hreleased hkind hhalt hnobind
    refine ⟨hends.bindingState, hends.supply, hends.attempt.trans (by rw [hc3]; rfl), hends.current, hends.queue,
      fun w' hw' => ?_⟩
    have htrace : w' = w.traceOf n p.1 := by
      rw [hw', hends.record, ← hw, hc3]
      rfl
    have hset := traceOf_setSlot n p.1 n c3 w
    rw [htrace]
    rw [hset] at hends
    exact ⟨hends.refill, hends.store, hends.agent⟩

end Sys2Proof.Machine
end

section
/-! The Condition Monitor as its requests and its converter move it: the over-limit check, the completion of a conversion, the
settings and the triggers (R62 to R71; O37, O38, O42). -/

namespace Sys2Proof.Machine

/-! ### The over-limit check -/

theorem overLimit_iff (m : Monitor) (x : ThermalInput) :
    overLimit m x = true ↔ ∃ code : Code, m.samples[x] = some code ∧ m.limits[x] ≤ code.val := by
  unfold overLimit
  split
  · next code h => simp [h]
  · next h => simp [h]

/-- While RESET_N is released the check adds the input's OVERTEMP bit where its sample is over its limit (R71). -/
theorem checkLimit_of_released {s : State} (h : s.resetAsserted = false) (x : ThermalInput) :
    checkLimit x s =
      { s with agent := { s.agent with
          sticky := s.agent.sticky ||| conditionIf (overLimit s.monitor x) (.overtemp x) } } := by
  unfold checkLimit
  cases overLimit s.monitor x with
  | false => simp [conditionIf]
  | true => exact raise_of_released h _

/-- Outside RESUME_PENDING the check is all that happens, the wait test after it being none (R71, R168). -/
theorem waitTest_checkLimit {s : State} (h : s.resetAsserted = false) (hs : s.port.stream ≠ .resumePending) (x : ThermalInput) :
    waitTest (checkLimit x s) =
      { s with agent := { s.agent with
          sticky := s.agent.sticky ||| conditionIf (overLimit s.monitor x) (.overtemp x) } } := by
  rw [checkLimit_of_released h]
  exact waitTest_of_ne hs

/-! ### The completion of a conversion -/

theorem released_of_alive {s : State} (h : s.alive = true) : s.resetAsserted = false := by
  simp only [State.alive, Bool.and_eq_true, Bool.not_eq_true'] at h
  exact h.2

theorem positionAfter_eq (m : Monitor) (o : ConversionOrigin) :
    m.positionAfter o = if o = .sequence true then (m.position + 1) % m.sequence.length else m.position := by
  cases o with
  | direct => rfl
  | sequence advancing => cases advancing <;> rfl

/-- The sample just stored is over its limit where the code is at or above it (R63, R71). -/
theorem overLimit_complete (m : Monitor) (cv : Conversion) (code : Code) :
    overLimit (m.complete cv code) cv.input = true ↔ m.limits[cv.input] ≤ code.val := by
  simp [overLimit_iff, Monitor.complete]

/-- Settles O42: the conversion's steps of R63, and the check of the sample it stored. -/
theorem conversionComplete : Obligations.ConversionComplete := by
  intro code cv s ha hcv hs
  have hexec : exec (.conversionComplete code) s = .next (completeConversion code s) := rfl
  have hchecked := waitTest_checkLimit (s := { s with monitor := s.monitor.complete cv code }) (released_of_alive ha) hs cv.input
  have hlimit := overLimit_complete s.monitor cv code
  rw [hexec, completeConversion, hcv]
  dsimp only
  rw [if_pos ha, hchecked, conditionIf]
  simp only [hlimit]
  rw [Monitor.complete, positionAfter_eq]

/-! ### The inputs that argument bytes name -/

theorem inputOf_val (x : ThermalInput) : inputOf x.val = some x := dif_pos x.isLt

theorem byteOf_input (x : ThermalInput) : (byteOf x.val).toNat = x.val := byteOf_toNat (by omega)

theorem inputArgument_byteOf (x : ThermalInput) : inputArgument [byteOf x.val] = some x := by
  change inputOf (byteOf x.val).toNat = some x
  rw [byteOf_input, inputOf_val]

theorem byteOf_eq_zero_iff {k : Nat} (h : k < 256) : byteOf k = 0 ↔ k = 0 := by
  rw [← BitVec.toNat_inj, byteOf_toNat h]
  rfl

/-- A byte that names an input is the byte of that input. -/
theorem exists_input_of_byte {b : Byte} (h : b.toNat ≤ 7) : ∃ x : ThermalInput, byteOf x.val = b :=
  ⟨⟨b.toNat, by omega⟩, by simp [byteOf]⟩

theorem modeArgument_code (mode : SampleMode) : modeArgument [byteOf mode.code] = some mode := by cases mode <;> rfl

/-! ### WRITE SEQUENCE and SET SAMPLE MODE -/

theorem mapM_inputOf_eq_none {entries : List Byte} {b : Byte} (hb : b ∈ entries) (h : 7 < b.toNat) :
    entries.mapM (fun b => inputOf b.toNat) = none := by
  induction entries with
  | nil => cases hb
  | cons a entries ih =>
    rcases List.mem_cons.mp hb with rfl | hb
    · simp [inputOf_eq_none h]
    · cases ha : inputOf a.toNat <;> simp [ha, ih hb]

theorem mapM_inputOf_map (q : List ThermalInput) :
    (q.map fun x => byteOf x.val).mapM (fun b => inputOf b.toNat) = some q := by
  induction q with
  | nil => rfl
  | cons x q ih => simp [byteOf_input, inputOf_val, ih]

/-- Bytes that all name inputs are the bytes of those inputs. -/
theorem exists_inputs {entries : List Byte} (h : ∀ b ∈ entries, b.toNat ≤ 7) :
    ∃ q : List ThermalInput, q.map (fun x => byteOf x.val) = entries := by
  induction entries with
  | nil => exact ⟨[], rfl⟩
  | cons b entries ih =>
    obtain ⟨hb, hrest⟩ := List.forall_mem_cons.mp h
    obtain ⟨x, hx⟩ := exists_input_of_byte hb
    obtain ⟨q, hq⟩ := ih hrest
    exact ⟨x :: q, by rw [List.map_cons, hx, hq]⟩

/-- The depth sent is the number of the entries, so R64 judges that number and the entries. -/
theorem sequenceArguments_of_depth {entries : List Byte} (h : entries.length < 256) :
    sequenceArguments (byteOf entries.length :: entries) =
      if entries = [] ∨ 8 < entries.length then none else entries.mapM fun b => inputOf b.toNat := by
  have hlen : (byteOf entries.length).toNat = entries.length := byteOf_toNat h
  have hzero : byteOf entries.length = 0 ↔ entries = [] := by rw [byteOf_eq_zero_iff h, List.length_eq_zero_iff]
  simp only [sequenceArguments, hlen, hzero, ne_eq, not_true_eq_false, or_false]

/-- A conversion in flight keeps its input and its kind of origin and loses its advancing flag (R65). -/
theorem clearAdvancing_map (o : Option Conversion) :
    (o.map clearAdvancing).map (·.input) = o.map (·.input) ∧
      ((o.map clearAdvancing).map (·.origin) = some .direct ↔ o.map (·.origin) = some .direct) ∧
      (o.map clearAdvancing).map (·.origin) ≠ some (.sequence true) := by
  rcases o with _ | ⟨x, origin⟩
  · simp
  · cases origin <;> simp [clearAdvancing]

/-- Settles O37: R64 on the number and the inputs of the entries, and the setting of a mode by its definition. -/
theorem sampleSettings : Obligations.SampleSettings := by
  intro tag shape seq count s
  refine ⟨fun entries h => ?_, fun mode h => ?_⟩
  · have hlen : entries.length < 256 := by
      have ha := h.arguments
      rw [List.length_cons] at ha
      omega
    rw [exec_request rfl rfl h, handleWriteSequence, sequenceArguments_of_depth hlen]
    refine ⟨fun hbad => ?_, fun hne h8 hin => ?_⟩
    · have hnone : (if entries = [] ∨ 8 < entries.length then none else entries.mapM fun b => inputOf b.toNat) =
          none := by
        split
        · rfl
        · next hd =>
          obtain ⟨b, hb, h7⟩ := (or_assoc.mpr hbad).resolve_left hd
          exact mapM_inputOf_eq_none hb h7
      rw [hnone]
      rfl
    · obtain ⟨q, rfl⟩ := exists_inputs hin
      rw [if_neg (not_or.mpr ⟨hne, Nat.not_lt.mpr h8⟩), mapM_inputOf_map]
      have hmode : (s.consumed seq).monitor.mode = s.monitor.mode := rfl
      refine ⟨fun hm => ?_, fun hm => ⟨q, by simp [byteOf_input], ?_⟩⟩
      · simp only [hmode, if_neg hm]
        rfl
      · simp only [hmode, if_pos hm]
        rfl
  · rw [exec_request rfl rfl h, handleSetSampleMode, modeArgument_code]
    exact ⟨_, rfl, clearAdvancing_map _⟩

/-! ### SAMPLE NEXT and SAMPLE INPUT -/

theorem busy_of_conversion {m : Monitor} (h : m.conversion ≠ none) : m.busy = true := Option.isSome_iff_ne_none.mpr h

theorem not_busy_of_free {m : Monitor} (h : m.conversion = none) : m.busy = false := by rw [Monitor.busy, h]; rfl

theorem pacedTrigger_of_busy {m : Monitor} (h : m.busy = true) : m.pacedTrigger = m.skip := if_pos h

theorem pacedTrigger_of_free {m : Monitor} (h : m.busy = false) :
    m.pacedTrigger = { m with conversion := some { input := m.dueInput, origin := .sequence true } } := if_neg (by simp [h])

theorem dueInput_of_position {m : Monitor} {x : ThermalInput} (h : m.sequence[m.position]? = some x) : m.dueInput = x := by
  rw [Monitor.dueInput, List.getD_eq_getElem?_getD, h]
  rfl

/-- SAMPLE NEXT outside REQUEST_PACED is refused and not counted; in it a busy converter skips the trigger, and a free one
starts the due conversion (R66, R68). -/
theorem handleSampleNext_eq (s : State) :
    handleSampleNext [] s =
      if s.monitor.mode ≠ .requestPaced then refuse .badState s
      else if s.monitor.busy then refuse .busy { s with monitor := s.monitor.skip }
      else okWith [byteOf s.monitor.position, byteOf s.monitor.dueInput.val]
        { s with monitor := { s.monitor with
            conversion := some { input := s.monitor.dueInput, origin := .sequence true } } } := by
  by_cases hm : s.monitor.mode = .requestPaced
  · cases hb : s.monitor.busy with
    | true => simp [handleSampleNext, hm, hb, pacedTrigger_of_busy hb]
    | false => simp [handleSampleNext, hm, hb, pacedTrigger_of_free hb]
  · simp [handleSampleNext, hm]

theorem modeAfterDirect_eq (mode : SampleMode) :
    modeAfterDirect mode = (if mode = .swathPaced then .off else mode) ∧
      byteOf (modeAfterDirect mode).code = if mode = .requestPaced then 0x02 else 0x00 := by
  cases mode <;> exact ⟨rfl, rfl⟩

/-- Settles O38: the trigger's mode and the converter decide, and a skipped trigger adds 1 to the saturating count. -/
theorem sampleTriggers : Obligations.SampleTriggers := by
  intro tag shape seq count s
  have hmonitor : (s.consumed seq).monitor = s.monitor := rfl
  refine ⟨fun h => ?_, fun x h => ?_⟩
  · rw [exec_request rfl rfl h, handleSampleNext_eq, hmonitor]
    refine ⟨fun hm => ?_, fun hm hc => ?_, fun x hm hc hx => ?_⟩
    · rw [if_pos hm]
      rfl
    · rw [if_neg (not_not.mpr hm), if_pos (busy_of_conversion hc)]
      rfl
    · rw [if_neg (not_not.mpr hm), not_busy_of_free hc, dueInput_of_position hx]
      rfl
  · rw [exec_request rfl rfl h, handleSampleInput, inputArgument_byteOf]
    dsimp only
    rw [hmonitor]
    refine ⟨fun hc => ?_, fun hc => ?_⟩
    · rw [if_pos (busy_of_conversion hc)]
      rfl
    · obtain ⟨hmode, hbyte⟩ := modeAfterDirect_eq s.monitor.mode
      rw [not_busy_of_free hc, hbyte, Monitor.sampleDirect, hmode]
      rfl

end Sys2Proof.Machine
end

section
/-! WRITE LIMITS (O39): its parts are read back as they were sent, its limits are written and checked pair by pair, and its
thresholds replaced (R70, R71). -/

namespace Sys2Proof.Machine

/-! ### The bit of a condition -/

theorem Condition.bit_lt (c : Condition) : c.bit < 32 := by
  cases c with
  | overtemp x => simp only [Condition.bit]; omega
  | _ => decide

theorem getLsbD_mask (c : Condition) (i : Nat) : c.mask.getLsbD i = decide (i = c.bit) := by
  have hbit := c.bit_lt
  rw [Condition.mask, ← BitVec.twoPow_eq, BitVec.getLsbD_twoPow, decide_eq_true hbit, Bool.true_and]
  exact decide_eq_decide.mpr eq_comm

theorem getLsbD_conditionIf (b : Bool) (c : Condition) (i : Nat) :
    (conditionIf b c).getLsbD i = (b && decide (i = c.bit)) := by
  cases b with
  | false => simp [conditionIf]
  | true => simp [conditionIf, getLsbD_mask]

/-- A consumed frame adds no bit but SEQUENCE_GAP's (R7). -/
theorem sticky_consumed {i : Nat} (h : i ≠ 3) (seq : Byte) (s : State) :
    (s.consumed seq).agent.sticky.getLsbD i = s.agent.sticky.getLsbD i := by
  have hgap : (gapBits s.port.expected seq).getLsbD i = false := by
    unfold gapBits
    split
    · simp
    · rw [getLsbD_mask]
      exact decide_eq_false h
  change (s.agent.sticky ||| gapBits s.port.expected seq).getLsbD i = _
  rw [BitVec.getLsbD_or, hgap, Bool.or_false]

/-! ### Limits written pair by pair -/

/-- An input's latest sample is at or above the limit that a pair writes for it (R71). -/
def LimitReached (m : Monitor) (p : ThermalInput × Nat) : Prop :=
  ∃ code : Code, m.samples[p.1] = some code ∧ clamp 1 4096 p.2 ≤ code.val

section Limits
variable {s : State}

/-- The state with other limits and other sticky conditions: all that the writing of limits changes. -/
def State.withLimits (limits : Vector Nat 8) (sticky : Word32) (s : State) : State :=
  { s with monitor := { s.monitor with limits := limits }, agent := { s.agent with sticky := sticky } }

/-- A pair sets its input's limit, clamped, and adds the input's OVERTEMP bit where the latest sample reaches it. -/
theorem writeLimit_of_released (h : s.resetAsserted = false) (p : ThermalInput × Nat) :
    ∃ w : Word32, writeLimit s p = s.withLimits (s.monitor.limits.set p.1 (clamp 1 4096 p.2)) (s.agent.sticky ||| w) ∧
      ∀ i, w.getLsbD i = true ↔ i = 16 + p.1.val ∧ LimitReached s.monitor p := by
  refine ⟨_, checkLimit_of_released (s := s.withLimits (s.monitor.limits.set p.1 (clamp 1 4096 p.2)) s.agent.sticky) h p.1,
    fun i => ?_⟩
  rw [getLsbD_conditionIf, Bool.and_eq_true, overLimit_iff, decide_eq_true_iff, and_comm]
  simp [LimitReached, Condition.bit, State.withLimits]

theorem writeLimit_released (h : s.resetAsserted = false) (p : ThermalInput × Nat) :
    (writeLimit s p).resetAsserted = false := by
  obtain ⟨w, hw, -⟩ := writeLimit_of_released h p
  rw [hw]
  exact h

theorem writeLimits_frame (h : s.resetAsserted = false) (pairs : List (ThermalInput × Nat)) :
    ∃ limits sticky, pairs.foldl writeLimit s = s.withLimits limits sticky := by
  induction pairs generalizing s with
  | nil => exact ⟨s.monitor.limits, s.agent.sticky, rfl⟩
  | cons p pairs ih =>
    obtain ⟨w, hw, -⟩ := writeLimit_of_released h p
    obtain ⟨limits, sticky, hrest⟩ := ih (writeLimit_released h p)
    exact ⟨limits, sticky, by rw [List.foldl_cons, hrest, hw]; rfl⟩

theorem writeLimits_released (h : s.resetAsserted = false) (pairs : List (ThermalInput × Nat)) :
    (pairs.foldl writeLimit s).resetAsserted = false := by
  obtain ⟨limits, sticky, hframe⟩ := writeLimits_frame h pairs
  rw [hframe]
  exact h

/-- A pair changes its own input's limit alone. -/
theorem limits_writeLimit (h : s.resetAsserted = false) (p : ThermalInput × Nat) (x : ThermalInput) :
    (writeLimit s p).monitor.limits[x] = if p.1 = x then clamp 1 4096 p.2 else s.monitor.limits[x] := by
  obtain ⟨w, hw, -⟩ := writeLimit_of_released h p
  simp [hw, State.withLimits, Vector.getElem_set, Fin.ext_iff]

theorem limits_writeLimits_of_ne {pairs : List (ThermalInput × Nat)} {x : ThermalInput} (h : s.resetAsserted = false)
    (hx : ∀ p ∈ pairs, p.1 ≠ x) : (pairs.foldl writeLimit s).monitor.limits[x] = s.monitor.limits[x] := by
  induction pairs generalizing s with
  | nil => rfl
  | cons p pairs ih =>
    obtain ⟨hp, hrest⟩ := List.forall_mem_cons.mp hx
    rw [List.foldl_cons, ih (writeLimit_released h p) hrest, limits_writeLimit h, if_neg hp]

/-- An input's limit is the one its last pair writes (R70; log 19). -/
theorem limits_writeLimits_last {after : List (ThermalInput × Nat)} {x : ThermalInput} (h : s.resetAsserted = false)
    (hx : ∀ p ∈ after, p.1 ≠ x) (before : List (ThermalInput × Nat)) (limit : Nat) :
    ((before ++ (x, limit) :: after).foldl writeLimit s).monitor.limits[x] = clamp 1 4096 limit := by
  have hbefore := writeLimits_released h before
  rw [List.foldl_append, List.foldl_cons, limits_writeLimits_of_ne (writeLimit_released hbefore _) hx,
    limits_writeLimit hbefore, if_pos rfl]

/-- The sticky conditions gain the OVERTEMP bit of each input whose sample reaches the limit of one of its pairs. -/
theorem sticky_writeLimits (h : s.resetAsserted = false) (pairs : List (ThermalInput × Nat)) (i : Nat) :
    (pairs.foldl writeLimit s).agent.sticky.getLsbD i = true ↔
      s.agent.sticky.getLsbD i = true ∨ ∃ p ∈ pairs, i = 16 + p.1.val ∧ LimitReached s.monitor p := by
  induction pairs generalizing s with
  | nil => simp
  | cons p pairs ih =>
    obtain ⟨w, hw, hbit⟩ := writeLimit_of_released h p
    rw [List.foldl_cons, ih (writeLimit_released h p), hw]
    simp only [State.withLimits, LimitReached, BitVec.getLsbD_or, Bool.or_eq_true, hbit, List.exists_mem_cons_iff, or_assoc]

end Limits

/-! ### The parts as they are read -/

/-- A pair as its bytes name it: the byte of the input, and the limit. -/
def namedPair (p : ThermalInput × Nat) : Byte × Nat := (byteOf p.1.val, p.2)

theorem byteOf_input_inj {x y : ThermalInput} : byteOf x.val = byteOf y.val ↔ x = y := by
  refine ⟨fun h => Fin.ext ?_, fun h => h ▸ rfl⟩
  rw [← byteOf_input x, h, byteOf_input]

theorem namedPair_eq_iff (p : ThermalInput × Nat) (x : ThermalInput) (limit : Nat) :
    namedPair p = (byteOf x.val, limit) ↔ p = (x, limit) := by
  simp [namedPair, Prod.ext_iff, byteOf_input_inj]

/-- Pairs whose bytes all name inputs are those of pairs of inputs. -/
theorem exists_namedPairs {pairs : List (Byte × Nat)} (h : ∀ p ∈ pairs, p.1.toNat ≤ 7) :
    ∃ q : List (ThermalInput × Nat), pairs = q.map namedPair := by
  induction pairs with
  | nil => exact ⟨[], rfl⟩
  | cons p pairs ih =>
    obtain ⟨hp, hrest⟩ := List.forall_mem_cons.mp h
    obtain ⟨x, hx⟩ := exists_input_of_byte hp
    obtain ⟨q, hq⟩ := ih hrest
    exact ⟨(x, p.2) :: q, by rw [List.map_cons, ← hq, namedPair, hx]⟩

/-- The bytes of the pairs of a limits part: each an input and a limit (R70). -/
def pairBytes (pairs : List (Byte × Nat)) : List Byte := pairs.flatMap fun p => p.1 :: beBytes 2 p.2

theorem limitPairs_cons {p : Byte × Nat} (hp : p.2 < 65536) (k : Nat) (rest : List Byte) :
    limitPairs (k + 1) (p.1 :: beBytes 2 p.2 ++ rest) =
      (inputOf p.1.toNat).bind fun x => (limitPairs k rest).map ((x, p.2) :: ·) := by
  have hlimit := beNat_beBytes_of_lt (k := 2) hp
  rw [beBytes_two] at hlimit ⊢
  simp only [List.cons_append, List.nil_append, limitPairs, hlimit]

theorem limitPairs_named {q : List (ThermalInput × Nat)} (h : ∀ p ∈ q, p.2 < 65536) :
    limitPairs q.length (pairBytes (q.map namedPair)) = some q := by
  induction q with
  | nil => rfl
  | cons p q ih =>
    obtain ⟨hp, hrest⟩ := List.forall_mem_cons.mp h
    have hcons := limitPairs_cons (p := namedPair p) hp q.length (pairBytes (q.map namedPair))
    rw [List.length_cons, pairBytes, List.map_cons, List.flatMap_cons, ← pairBytes, hcons, ih hrest, namedPair,
      byteOf_input, inputOf_val]
    rfl

theorem limitPairs_eq_none {pairs : List (Byte × Nat)} (h : ∀ p ∈ pairs, p.2 < 65536) (hbad : ∃ p ∈ pairs, 7 < p.1.toNat) :
    limitPairs pairs.length (pairBytes pairs) = none := by
  induction pairs with
  | nil => simp at hbad
  | cons p pairs ih =>
    obtain ⟨hp, hrest⟩ := List.forall_mem_cons.mp h
    rw [List.length_cons, pairBytes, List.flatMap_cons, ← pairBytes, limitPairs_cons hp]
    by_cases h7 : 7 < p.1.toNat
    · rw [inputOf_eq_none h7]
      rfl
    · have hbad' : ∃ p ∈ pairs, 7 < p.1.toNat := ((List.exists_mem_cons_iff _ _ _).mp hbad).resolve_left h7
      rw [ih hrest hbad']
      cases inputOf p.1.toNat <;> rfl

/-- Pairs that are read take 3 bytes each (R70). -/
theorem length_of_limitPairs {k : Nat} {bytes : List Byte} {q : List (ThermalInput × Nat)} (h : limitPairs k bytes = some q) :
    bytes.length = 3 * k := by
  induction k generalizing bytes q with
  | zero =>
    cases bytes with
    | nil => rfl
    | cons => simp [limitPairs] at h
  | succ k ih =>
    match bytes, h with
    | x :: hi :: lo :: rest, h =>
      simp only [limitPairs, Option.bind_eq_some_iff, Option.map_eq_some_iff] at h
      obtain ⟨_, -, q', hq, -⟩ := h
      have := ih hq
      simp only [List.length_cons]
      omega

/-- A limits part that is read has a pair, and as many bytes as its count asks for (R70). -/
theorem length_of_limitsPart {bytes : List Byte} {q : List (ThermalInput × Nat)} (h : limitsPart bytes = some q) :
    bytes.length = 1 + 3 * (byteAt bytes 0).toNat := by
  cases bytes with
  | nil => cases h
  | cons count rest =>
    simp only [limitsPart] at h
    split at h
    · cases h
    · have hlen := length_of_limitPairs h
      rw [List.length_cons, hlen, Nat.add_comm]
      rfl

theorem limitsPart_of_count {pairs : List (Byte × Nat)} (h : pairs.length < 256) :
    limitsPart (byteOf pairs.length :: pairBytes pairs) =
      if pairs = [] then none else limitPairs pairs.length (pairBytes pairs) := by
  simp only [limitsPart, byteOf_eq_zero_iff h, byteOf_toNat h, List.length_eq_zero_iff]

theorem limitsPart_named {q : List (ThermalInput × Nat)} (hq : q ≠ []) (hlen : q.length < 256) (h : ∀ p ∈ q, p.2 < 65536) :
    limitsPart (byteOf (q.map namedPair).length :: pairBytes (q.map namedPair)) = some q := by
  rw [limitsPart_of_count (by simpa using hlen), if_neg (by simpa using hq), List.length_map, limitPairs_named h]

theorem limitsPart_eq_none {pairs : List (Byte × Nat)} (hlen : pairs.length < 256) (h : ∀ p ∈ pairs, p.2 < 65536)
    (hbad : pairs = [] ∨ ∃ p ∈ pairs, 7 < p.1.toNat) : limitsPart (byteOf pairs.length :: pairBytes pairs) = none := by
  rw [limitsPart_of_count hlen]
  split
  · rfl
  · next hne => exact limitPairs_eq_none h (hbad.resolve_left hne)

/-- The bytes of a thresholds part: seven values of 2 bytes (R70). -/
def thresholdBytes (t : Vector Nat 7) : List Byte := t.toList.flatMap (beBytes 2)

theorem thresholdBytes_length (t : Vector Nat 7) : (thresholdBytes t).length = 14 := by
  rw [thresholdBytes, flatMap_length (beBytes_length 2), Vector.length_toList]

theorem thresholdsPart_sent {t : Vector Nat 7} (h : ∀ x ∈ t.toList, x < 65536) (rest : List Byte) :
    thresholdsPart (thresholdBytes t ++ rest) = t := by
  refine Vector.ext fun i hi => ?_
  have hlen := thresholdBytes_length t
  have hpart := flatMap_part (f := beBytes 2) (beBytes_length 2) (l := t.toList) (j := i) (by simpa using hi)
  have hfield : fieldAt (thresholdBytes t ++ rest) (2 * i) 2 = beNat (beBytes 2 t[i]) := by
    rw [fieldAt, List.drop_append_of_le_length (by omega), List.take_append_of_le_length (by rw [List.length_drop]; omega),
      thresholdBytes, hpart, Vector.getElem_toList]
  rw [thresholdsPart, Vector.getElem_ofFn, hfield]
  exact beNat_beBytes_of_lt (h _ (by simp))

theorem thresholdsLegal_iff (t : Vector Nat 7) :
    thresholdsLegal t = true ↔ (∀ x ∈ t.toList, x ≤ 4096) ∧ t.toList.Pairwise (· < ·) := by
  simp only [thresholdsLegal, Bool.and_eq_true, List.all_eq_true, decide_eq_true_eq, ascending_isChain,
    List.isChain_iff_pairwise]

theorem withThresholds_sent {t : Vector Nat 7} (h : ∀ x ∈ t.toList, x < 65536) (rest : List Byte)
    (limits : Option (Option (List (ThermalInput × Nat)))) :
    withThresholds (thresholdBytes t ++ rest) limits =
      if thresholdsLegal t then limits.map fun l => { thresholds := some t, limits := l } else none := by
  have hlen : ¬(thresholdBytes t ++ rest).length < 14 := by
    rw [List.length_append, thresholdBytes_length]
    omega
  rw [withThresholds, thresholdsPart_sent h]
  simp only [hlen, false_or]
  cases thresholdsLegal t <;> rfl

/-! ### The arguments as they are read -/

/-- Parts sent as the parts byte says are read each by itself; without a part, or with illegal thresholds, nothing is (R70). -/
theorem limitsArguments_sent (parts : Byte) {t : Vector Nat 7} (h : ∀ x ∈ t.toList, x < 65536) (bytes : List Byte) :
    limitsArguments (parts :: ((if parts.getLsbD 0 then thresholdBytes t else []) ++ (if parts.getLsbD 1 then bytes else []))) =
      if (parts.getLsbD 0 = true ∨ parts.getLsbD 1 = true) ∧ (parts.getLsbD 0 = true → thresholdsLegal t = true) then
        (if parts.getLsbD 1 then (limitsPart bytes).map some else some none).map fun l =>
          { thresholds := if parts.getLsbD 0 then some t else none, limits := l }
      else none := by
  have hlen := thresholdBytes_length t
  rw [limitsArguments]
  cases parts.getLsbD 0 with
  | false =>
    cases parts.getLsbD 1 with
    | false => rfl
    | true => simp [Function.comp_def]
  | true =>
    cases parts.getLsbD 1 with
    | false =>
      have hnone := withThresholds_sent h [] (some none)
      simpa [hlen] using hnone
    | true => simp [withThresholds_sent h, List.drop_left' hlen]

/-- Another number of bytes than the parts and the pair count ask for is refused (R70, R185). -/
theorem limitsArguments_eq_none {parts : Byte} {rest : List Byte}
    (h : rest.length ≠ (if parts.getLsbD 0 then 14 else 0) +
      (if parts.getLsbD 1 then 1 + 3 * (byteAt rest (if parts.getLsbD 0 then 14 else 0)).toNat else 0)) :
    limitsArguments (parts :: rest) = none := by
  rw [limitsArguments]
  cases h0 : parts.getLsbD 0 with
  | false =>
    cases h1 : parts.getLsbD 1 with
    | false => rfl
    | true =>
      cases hq : limitsPart rest with
      | none => rfl
      | some q =>
        simp only [h0, h1, if_true, Bool.false_eq_true, if_false, Nat.zero_add] at h
        exact absurd (length_of_limitsPart hq) h
  | true =>
    cases h1 : parts.getLsbD 1 with
    | false =>
      simp only [h0, h1, if_true, Bool.false_eq_true, if_false, Nat.add_zero] at h
      simp [withThresholds, h]
    | true =>
      by_cases h14 : rest.length < 14
      · simp [withThresholds, h14]
      cases hq : limitsPart (rest.drop 14) with
      | none => simp [withThresholds]
      | some q =>
        have hlen := length_of_limitsPart hq
        have hbyte : byteAt (rest.drop 14) 0 = byteAt rest 14 := by simp [byteAt]
        rw [hbyte, List.length_drop] at hlen
        simp only [h0, h1, if_true] at h
        omega

/-- The arguments of a WRITE LIMITS with the parts that its parts byte says: thresholds, and a count with its pairs (R70). -/
def limitsSent (parts : Byte) (t : Vector Nat 7) (pairs : List (Byte × Nat)) : List Byte :=
  parts :: ((if parts.getLsbD 0 then thresholdBytes t else []) ++
    (if parts.getLsbD 1 then byteOf pairs.length :: pairBytes pairs else []))

/-- What R70 accepts: a part at least, thresholds in range and ascending, pairs at least one and each of an input. -/
def LimitsLegal (parts : Byte) (t : Vector Nat 7) (pairs : List (Byte × Nat)) : Prop :=
  (parts.getLsbD 0 = true ∨ parts.getLsbD 1 = true) ∧
    (parts.getLsbD 0 = true → (∀ x ∈ t.toList, x ≤ 4096) ∧ t.toList.Pairwise (· < ·)) ∧
    (parts.getLsbD 1 = true → pairs ≠ [] ∧ ∀ p ∈ pairs, p.1.toNat ≤ 7)

section Sent
variable {parts : Byte} {t : Vector Nat 7} {pairs : List (Byte × Nat)}

/-- The pairs of a request are few enough for the byte of their count. -/
theorem length_of_limitsSent (h : (limitsSent parts t pairs).length ≤ 64) (hnone : parts.getLsbD 1 = false → pairs = []) :
    pairs.length < 256 := by
  cases h1 : parts.getLsbD 1 with
  | false => simp [hnone h1]
  | true =>
    have hlen : (pairBytes pairs).length = 3 * pairs.length := flatMap_length (fun p => by simp) pairs
    simp only [limitsSent, h1, if_true, List.length_cons, List.length_append, hlen] at h
    omega

theorem limitsSent_illegal (ht : ∀ x ∈ t.toList, x < 65536) (hpairs : ∀ p ∈ pairs, p.2 < 65536) (hcount : pairs.length < 256)
    (h : ¬LimitsLegal parts t pairs) : limitsArguments (limitsSent parts t pairs) = none := by
  rw [limitsSent, limitsArguments_sent parts ht]
  split
  · next hparts =>
    obtain ⟨hany, hthresholds⟩ := hparts
    have hlimits : ¬(parts.getLsbD 1 = true → pairs ≠ [] ∧ ∀ p ∈ pairs, p.1.toNat ≤ 7) := fun hl =>
      h ⟨hany, fun h0 => (thresholdsLegal_iff t).mp (hthresholds h0), hl⟩
    obtain ⟨h1, hbad⟩ := Classical.not_imp.mp hlimits
    have hbad' : pairs = [] ∨ ∃ p ∈ pairs, 7 < p.1.toNat := by
      simpa only [not_and_or, not_not, not_forall, exists_prop, Nat.not_le] using hbad
    rw [if_pos h1, limitsPart_eq_none hcount hpairs hbad']
    rfl
  · rfl

theorem limitsSent_legal (ht : ∀ x ∈ t.toList, x < 65536) (hpairs : ∀ p ∈ pairs, p.2 < 65536) (hcount : pairs.length < 256)
    (hnone : parts.getLsbD 1 = false → pairs = []) (h : LimitsLegal parts t pairs) :
    ∃ l : Option (List (ThermalInput × Nat)), pairs = (l.getD []).map namedPair ∧
      limitsArguments (limitsSent parts t pairs) =
        some { thresholds := if parts.getLsbD 0 then some t else none, limits := l } := by
  obtain ⟨hany, hthresholds, hlimits⟩ := h
  rw [limitsSent, limitsArguments_sent parts ht, if_pos ⟨hany, fun h0 => (thresholdsLegal_iff t).mpr (hthresholds h0)⟩]
  cases h1 : parts.getLsbD 1 with
  | false => exact ⟨none, hnone h1, rfl⟩
  | true =>
    obtain ⟨hne, hinputs⟩ := hlimits h1
    obtain ⟨q, rfl⟩ := exists_namedPairs hinputs
    have hread : limitsPart (byteOf (q.map namedPair).length :: pairBytes (q.map namedPair)) = some q :=
      limitsPart_named (by simpa using hne) (by simpa using hcount) fun p hp => hpairs _ (List.mem_map_of_mem hp)
    exact ⟨some q, rfl, by rw [hread]; rfl⟩

end Sent

/-! ### The answer -/

theorem handleWriteLimits_none {args : List Byte} (h : limitsArguments args = none) (s : State) :
    handleWriteLimits args s = refuse .badArgument s := by rw [handleWriteLimits, h]

theorem handleWriteLimits_thresholds {args : List Byte} {t : Option (Vector Nat 7)}
    (h : limitsArguments args = some { thresholds := t, limits := none }) (s : State) :
    handleWriteLimits args s = okWith [] (writeThresholds t s) := by rw [handleWriteLimits, h]

/-- Outside RESUME_PENDING the thresholds are replaced and the pairs written, and no wait test follows (R70, R168). -/
theorem handleWriteLimits_some {args : List Byte} {w : LimitsWrite} {s : State} (h : limitsArguments args = some w)
    (hs : s.port.stream ≠ .resumePending) :
    handleWriteLimits args s = okWith [] ((w.limits.getD []).foldl writeLimit (writeThresholds w.thresholds s)) := by
  obtain ⟨t, limits⟩ := w
  cases limits with
  | none => exact handleWriteLimits_thresholds h s
  | some q =>
    have hstream := ((portKept_writeThresholds t s).trans (portKept_writeLimits q _)).port
    rw [handleWriteLimits, h]
    dsimp only
    rw [waitTest_of_ne (by rw [hstream]; exact hs)]
    rfl

theorem writeThresholds_if (b : Bool) (t : Vector Nat 7) (s : State) :
    writeThresholds (if b then some t else none) s =
      { s with monitor := { s.monitor with thresholds := if b then t else s.monitor.thresholds } } := by
  cases b <;> rfl

/-! ### The pairs in the words of the statement -/

theorem forall_namedPair_ne {q : List (ThermalInput × Nat)} {x : ThermalInput}
    (h : ∀ p ∈ q.map namedPair, p.1 ≠ byteOf x.val) : ∀ p ∈ q, p.1 ≠ x :=
  fun p hp hx => h (namedPair p) (List.mem_map_of_mem hp) (byteOf_input_inj.mpr hx)

theorem mem_namedPairs {q : List (ThermalInput × Nat)} {x : ThermalInput} {limit : Nat} :
    (byteOf x.val, limit) ∈ q.map namedPair ↔ (x, limit) ∈ q := by
  simp only [List.mem_map, namedPair_eq_iff, exists_eq_right]

/-- A named pair among named pairs stands between those before it and those after it. -/
theorem split_namedPairs {q : List (ThermalInput × Nat)} {before after : List (Byte × Nat)} {x : ThermalInput} {limit : Nat}
    (h : q.map namedPair = before ++ (byteOf x.val, limit) :: after) :
    ∃ before' after', q = before' ++ (x, limit) :: after' ∧ after = after'.map namedPair := by
  obtain ⟨before', rest, rfl, -, hrest⟩ := List.map_eq_append_iff.mp h
  obtain ⟨p, after', rfl, hp, hafter⟩ := List.map_eq_cons_iff.mp hrest
  exact ⟨before', after', by rw [(namedPair_eq_iff p x limit).mp hp], hafter.symm⟩

/-- What the pairs of a limits part make of limits and sticky conditions, and that they change nothing else (R70, R71). -/
theorem writeLimits_spec {s u : State} {q : List (ThermalInput × Nat)} (h : s.resetAsserted = false)
    (hu : u = q.foldl writeLimit s) :
    u = s.withLimits u.monitor.limits u.agent.sticky ∧
      (∀ x : ThermalInput, (∀ p ∈ q.map namedPair, p.1 ≠ byteOf x.val) → u.monitor.limits[x] = s.monitor.limits[x]) ∧
      (∀ (x : ThermalInput) (before after : List (Byte × Nat)) (limit : Nat),
        q.map namedPair = before ++ (byteOf x.val, limit) :: after → (∀ p ∈ after, p.1 ≠ byteOf x.val) →
        u.monitor.limits[x] = max 1 (min limit 4096)) ∧
      (∀ x : ThermalInput, u.agent.sticky.getLsbD (16 + x.val) = true ↔
        s.agent.sticky.getLsbD (16 + x.val) = true ∨
          ∃ (limit : Nat) (code : Code), (byteOf x.val, limit) ∈ q.map namedPair ∧ s.monitor.samples[x] = some code ∧
            max 1 (min limit 4096) ≤ code.val) ∧
      ∀ i : Nat, i < 16 ∨ 24 ≤ i → u.agent.sticky.getLsbD i = s.agent.sticky.getLsbD i := by
  subst hu
  refine ⟨?_, fun x hx => limits_writeLimits_of_ne h (forall_namedPair_ne hx), fun x before after limit hq hx => ?_,
    fun x => ?_, fun i hi => ?_⟩
  · obtain ⟨limits, sticky, hframe⟩ := writeLimits_frame h q
    rw [hframe]
    rfl
  · obtain ⟨before', after', rfl, rfl⟩ := split_namedPairs hq
    exact limits_writeLimits_last h (forall_namedPair_ne hx) before' limit
  · rw [sticky_writeLimits h]
    refine or_congr_right ⟨?_, ?_⟩
    · rintro ⟨⟨y, limit⟩, hp, hbit, code, hcode, hle⟩
      obtain rfl : x = y := Fin.ext (Nat.add_left_cancel hbit)
      exact ⟨limit, code, mem_namedPairs.mpr hp, hcode, hle⟩
    · rintro ⟨limit, code, hp, hcode, hle⟩
      exact ⟨(x, limit), mem_namedPairs.mp hp, rfl, code, hcode, hle⟩
  · rw [Bool.eq_iff_iff, sticky_writeLimits h]
    refine or_iff_left ?_
    rintro ⟨p, -, rfl, -⟩
    omega

/-- Settles O39: each part is judged as it is read, and the pairs are written one after the other. -/
theorem writeLimits : Obligations.WriteLimits := by
  intro tag shape seq count s
  refine ⟨fun t ht h => ?_, fun parts rest h hlen => ?_, fun parts t pairs ht hpairs hnone h legal hlegal => ?_⟩
  · have hread := limitsArguments_sent 0x01 ht []
    have hsent : thresholdBytes t ++ [] = t.toList.flatMap (beBytes 2) := List.append_nil _
    simp only [BitVec.reduceGetLsb, if_true, Bool.false_eq_true, if_false, true_or, true_and, forall_const, hsent,
      Option.map_some, thresholdsLegal_iff] at hread
    rw [exec_request rfl rfl h]
    refine ⟨fun hle hasc => ?_, fun hbad => ?_⟩
    · rw [if_pos ⟨hle, hasc⟩] at hread
      rw [handleWriteLimits_thresholds hread]
      rfl
    · have hill : ¬((∀ x ∈ t.toList, x ≤ 4096) ∧ t.toList.Pairwise (· < ·)) := by
        rintro ⟨hle, hasc⟩
        exact hbad.elim (fun ⟨x, hx, hgt⟩ => absurd (hle x hx) (Nat.not_le.mpr hgt)) fun hn => hn hasc
      rw [if_neg hill] at hread
      rw [handleWriteLimits_none hread]
      rfl
  · rw [exec_request rfl rfl h, handleWriteLimits_none (limitsArguments_eq_none hlen)]
    rfl
  · replace h : RequestNext 0x13 tag (limitsSent parts t pairs) shape seq count s := h
    replace hlegal : legal ↔ LimitsLegal parts t pairs := hlegal
    have hcount := length_of_limitsSent h.arguments hnone
    rw [exec_request rfl rfl h, hlegal]
    refine ⟨fun hill => ?_, fun hok hs => ?_⟩
    · rw [handleWriteLimits_none (limitsSent_illegal ht hpairs hcount hill)]
      rfl
    · obtain ⟨l, rfl, hread⟩ := limitsSent_legal ht hpairs hcount hnone hok
      rw [handleWriteLimits_some (s := s.consumed seq) hread hs, writeThresholds_if]
      obtain ⟨hframe, hkept, hlast, hovertemp, hother⟩ := writeLimits_spec (q := l.getD []) (s := { s.consumed seq with
        monitor := { s.monitor with thresholds := if parts.getLsbD 0 then t else s.monitor.thresholds } })
        (released_of_running h.taken.running) rfl
      have hsame : ∀ x : ThermalInput, (s.consumed seq).agent.sticky.getLsbD (16 + x.val) = true ↔
          s.agent.sticky.getLsbD (16 + x.val) = true := fun x => by rw [sticky_consumed (by omega)]
      exact ⟨_, rfl, hframe, hkept, hlast, fun x => (hovertemp x).trans (or_congr_left (hsame x)), hother⟩

end Sys2Proof.Machine
end

section
/-! The condition vector, FAULT_N and the summary word, bit by bit, and the requests on conditions and status: CLEAR CONDITIONS,
WRITE FAULT MASK and COLLECT STATUS (R73, R118 to R120, R126, R167, R188 to R193; O28). -/

namespace Sys2Proof.Machine

/-! ### The condition vector and FAULT_N -/

theorem keyAbsentHolds_iff (s : State) : s.keyAbsentHolds = true ↔ s.running = true ∧ s.keyPresent = false := by
  unfold State.keyAbsentHolds State.keyPresent
  cases s.key <;> simp

theorem streamHeldHolds_iff (s : State) :
    s.streamHeldHolds = true ↔ s.port.stream = .held ∨ s.port.stream = .resumePending := by
  unfold State.streamHeldHolds
  cases s.port.stream <;> simp

theorem hasAlert_iff (c : SlotContext) : hasAlert c = true ↔ ∃ r : StatusRecord, c.status = some r ∧ r.alerts ≠ 0 := by
  unfold hasAlert
  cases c.status <;> simp

theorem slotAlertHolds_iff (s : State) :
    s.slotAlertHolds = true ↔ ∃ (n : Slot) (r : StatusRecord), (s.slot n).status = some r ∧ r.alerts ≠ 0 := by
  simp only [State.slotAlertHolds, List.any_eq_true, mem_allSlots, true_and, hasAlert_iff]

/-- A condition is set where its bit is sticky or where what it follows holds (R120, R126, R167, R189). -/
theorem getLsbD_conditionVector (s : State) (i : Nat) :
    s.conditionVector.getLsbD i = true ↔
      s.agent.sticky.getLsbD i = true ∨ (i = 11 ∧ s.running = true ∧ s.keyPresent = false) ∨
        (i = 12 ∧ (s.port.stream = .held ∨ s.port.stream = .resumePending)) ∨
        (i = 13 ∧ ∃ (n : Slot) (r : StatusRecord), (s.slot n).status = some r ∧ r.alerts ≠ 0) := by
  simp only [State.conditionVector, BitVec.getLsbD_or, getLsbD_conditionIf, Bool.or_eq_true, Bool.and_eq_true,
    decide_eq_true_eq, keyAbsentHolds_iff, streamHeldHolds_iff, slotAlertHolds_iff, or_assoc]
  simp only [Condition.bit, and_comm]

theorem ne_zero_iff_getLsbD {w : Nat} (v : BitVec w) : v ≠ 0 ↔ ∃ i, v.getLsbD i = true := by
  refine ⟨fun h => ?_, fun ⟨i, hi⟩ h0 => by simp [h0] at hi⟩
  by_contra hnone
  exact h (BitVec.eq_of_getLsbD_eq fun i _ => by simpa using fun hi => hnone ⟨i, hi⟩)

theorem getLsbD_and_not {w : Nat} (v mask : BitVec w) (i : Nat) :
    (v &&& ~~~mask).getLsbD i = (v.getLsbD i && !mask.getLsbD i) := by
  by_cases hi : i < w
  · simp [hi]
  · simp [BitVec.getLsbD_of_ge v i (Nat.not_lt.mp hi)]

theorem faultAsserted_iff (s : State) :
    s.faultAsserted = true ↔ s.resetAsserted = false ∧
      ∃ i : Nat, s.conditionVector.getLsbD i = true ∧ s.agent.faultMask.getLsbD i = false := by
  simp only [State.faultAsserted, Bool.and_eq_true, Bool.not_eq_true', bne_iff_ne, ne_zero_iff_getLsbD, getLsbD_and_not]

/-! ### The summary word -/

/-- The bits of the summary word from bit 0 on. -/
def summaryBits (s : State) : List Bool :=
  [s.faultAsserted, s.port.stream.code.testBit 0, s.port.stream.code.testBit 1, s.monitor.conversion.isSome, s.policy.locked,
    s.keyPresent, s.conditionVector != 0, false] ++ allSlots.map fun n => (s.slot n).status.isSome

theorem streamCode_eq (stream : StreamState) : stream.code = codeIn streamOrder stream := by cases stream <;> rfl

theorem streamCode_bits (stream : StreamState) :
    stream.code = (stream.code.testBit 0).toNat + 2 * (stream.code.testBit 1).toNat := by cases stream <;> rfl

theorem testBit_foldr_bit (bits : List Bool) (i : Nat) : (bits.foldr Nat.bit 0).testBit i = bits.getD i false := by
  induction bits generalizing i with
  | nil => simp
  | cons b bits ih =>
    cases i with
    | zero => simp
    | succ i => simpa [Nat.testBit_bit_succ] using ih i

/-- The fields of the summary word stand at their bits one behind the other (section 11.6). -/
theorem summaryWord_eq (s : State) : s.summaryWord = BitVec.ofNat 16 ((summaryBits s).foldr Nat.bit 0) := by
  have hcode := streamCode_bits s.port.stream
  refine congrArg (BitVec.ofNat 16) ?_
  simp only [State.statusPendingBits, summaryBits, allSlots, flagAt_eq, List.foldl_cons, List.foldl_nil, List.map_cons,
    List.map_nil, List.cons_append, List.nil_append, List.foldr_cons, List.foldr_nil, Nat.bit_val]
  norm_num at hcode ⊢
  omega

theorem getLsbD_summaryWord (s : State) {i : Nat} (hi : i < 16) : s.summaryWord.getLsbD i = (summaryBits s).getD i false := by
  rw [summaryWord_eq, BitVec.getLsbD_ofNat, testBit_foldr_bit, decide_eq_true hi, Bool.true_and]

/-- The stream state stands in bits 2 and 1. -/
theorem stream_summaryWord (s : State) : s.summaryWord.toNat / 2 % 4 = s.port.stream.code := by
  have h1 : s.summaryWord.toNat.testBit 1 = s.port.stream.code.testBit 0 := getLsbD_summaryWord s (by decide)
  have h2 : s.summaryWord.toNat.testBit 2 = s.port.stream.code.testBit 1 := getLsbD_summaryWord s (by decide)
  rw [streamCode_bits, ← h1, ← h2, Nat.toNat_testBit, Nat.toNat_testBit]
  omega

/-! ### The status data -/

/-- The results of an operation in the order of their codes (R196). -/
def opResultOrder : List OpResult :=
  [.verified, .unverified, .failed, .written, .short, .released, .link, .halted, .stale]

theorem opResultCode_eq (r : OpResult) : r.code = codeIn opResultOrder r := by cases r <;> rfl

theorem operationCode_eq (k : Option OpKind) : codeOr0 OpKind.code k = kindCodeOf k := by
  cases k with
  | none => rfl
  | some k => exact kindCode_eq k

/-- Kind, result and reason of a primary, zeros where there is none (R120, R196). -/
theorem primaryBytes_eq (o : Option Primary) :
    primaryBytes o = [byteOf (kindCodeOf (o.bind (·.kind))),
      byteOf ((o.map fun p => codeIn opResultOrder p.result).getD 0),
      packed [(0, reasonCode (o.bind (·.reason))), (7, ((o.map (·.nothingActive)).getD false).toNat)]] := by
  cases o with
  | none => rfl
  | some p =>
    rw [primaryBytes, operationCode_eq, opResultCode_eq, reasonCode_eq, flagAt_eq, packed]
    simp [byteOf]

theorem statusFlags_eq (r : StatusRecord) :
    byteOf (flagAt 0 true + flagAt 1 r.primary.isSome + flagAt 2 r.overwritten + flagAt 3 r.snapshot.uEst.isSome) =
      packed [(0, 1), (1, r.primary.isSome.toNat), (2, r.overwritten.toNat), (3, r.snapshot.uEst.isSome.toNat)] := by
  rw [byteOf, packed]
  simp only [flagAt_eq]
  simp [Nat.add_assoc]

theorem statusData_layout (o : Option StatusRecord) : StatusLayout o (statusData o) := by
  cases o with
  | none => exact ⟨rfl, fun b hb => List.eq_of_mem_replicate hb⟩
  | some r =>
    refine ⟨by simp [statusData, primaryBytes_eq], hasFields_of_consecutive ?_ ?_⟩
    · simp only [Consecutive, List.length_cons, List.length_nil, beBytes_length, and_true]
    · rw [statusData, primaryBytes_eq, statusFlags_eq, bindingCode_eq, conditionIndex_eq]
      simp only [opResultOrder, List.flatMap_cons, List.flatMap_nil, List.append_assoc, List.cons_append, List.nil_append,
        List.append_nil]

/-! ### The requests -/

theorem maskArgument_beBytes (mask : Word32) : maskArgument (beBytes 4 mask.toNat) = some mask := by
  have hn : beNat (beBytes 4 mask.toNat) = mask.toNat := beNat_beBytes_of_lt (k := 4) mask.isLt
  simp [maskArgument, hn]

theorem overtempClears_iff (m : Monitor) (x : ThermalInput) :
    overtempClears m x = true ↔ ∃ code : Code, m.samples[x] = some code ∧ code.val < m.limits[x] := by
  unfold overtempClears
  split
  · next code h => simp [h]
  · next h => simp [h]

theorem getLsbD_stickyBits (i : Nat) : stickyBits.getLsbD i = decide (i ≤ 10) := by
  by_cases hi : i < 32
  · revert i; decide
  · rw [BitVec.getLsbD_of_ge _ _ (Nat.not_lt.mp hi), decide_eq_false (by omega)]

theorem getLsbD_maskableBits (i : Nat) :
    maskableBits.getLsbD i = (decide (i ≤ 13 ∨ (16 ≤ i ∧ i ≤ 23)) && decide (i ≠ 0 ∧ i ≠ 1 ∧ i ≠ 2 ∧ i ≠ 11)) := by
  by_cases hi : i < 32
  · revert i; decide
  · rw [BitVec.getLsbD_of_ge _ _ (Nat.not_lt.mp hi), decide_eq_false (p := i ≤ 13 ∨ (16 ≤ i ∧ i ≤ 23)) (by omega), Bool.false_and]

/-- The bits that may be cleared: those of the sticky conditions, and OVERTEMP of each input below its limit (R73, R191). -/
theorem getLsbD_clearableBits (m : Monitor) (i : Nat) :
    (clearableBits m).getLsbD i = true ↔ i ≤ 10 ∨ ∃ x : ThermalInput, i = 16 + x.val ∧ overtempClears m x = true := by
  have hfold : ∀ (l : List ThermalInput) (w : Word32),
      (l.foldl (fun acc x => acc ||| conditionIf (overtempClears m x) (.overtemp x)) w).getLsbD i = true ↔
        w.getLsbD i = true ∨ ∃ x ∈ l, i = 16 + x.val ∧ overtempClears m x = true := fun l => by
    induction l with
    | nil => simp
    | cons x l ih =>
      intro w
      rw [List.foldl_cons, ih, BitVec.getLsbD_or, getLsbD_conditionIf, Bool.or_eq_true, Bool.and_eq_true, decide_eq_true_eq,
        List.exists_mem_cons_iff, or_assoc, and_comm (a := overtempClears m x = true)]
      rfl
  rw [clearableBits, hfold, getLsbD_stickyBits, decide_eq_true_eq]
  simp only [mem_allInputs, true_and]


/-- CLEAR CONDITIONS clears the bits that its mask selects of those that may be cleared now (R191). -/
theorem handleClearConditions_mask (mask : Word32) (s : State) :
    ∃ t : State, handleClearConditions (beBytes 4 mask.toNat) s = okWith (beBytes 4 t.conditionVector.toNat) t ∧
      t = { s with agent := { s.agent with sticky := t.agent.sticky } } ∧
      ∀ i, t.agent.sticky.getLsbD i =
        (s.agent.sticky.getLsbD i && !(mask.getLsbD i && (clearableBits s.monitor).getLsbD i)) := by
  rw [handleClearConditions, maskArgument_beBytes]
  exact ⟨_, rfl, rfl, fun i => by rw [getLsbD_and_not, BitVec.getLsbD_and]⟩

/-- COLLECT STATUS answers the pending record and leaves the slot without one (R120). -/
theorem handleCollectStatus_byteOf (n : Slot) (s : State) :
    handleCollectStatus [byteOf n.val] s =
      okWith (statusData (s.slot n).status) (s.setSlot n { s.slot n with status := none }) := by
  rw [handleCollectStatus, slotArgument_byteOf]
  rfl

/-- Settles O28: the three requests by what they clear, store and collect, and the two words bit by bit. -/
theorem statusRequests : Obligations.StatusRequests := by
  intro tag shape seq count s
  refine ⟨fun mask h => ?_, fun mask h => ?_, fun n h => ⟨?_, statusData_layout _⟩, getLsbD_conditionVector s,
    faultAsserted_iff s, fun n => ?_, getLsbD_summaryWord s (by decide), ?_, getLsbD_summaryWord s (by decide),
    getLsbD_summaryWord s (by decide), getLsbD_summaryWord s (by decide), ?_, getLsbD_summaryWord s (by decide)⟩
  · obtain ⟨t, hanswer, hframe, hbit⟩ := handleClearConditions_mask mask (s.consumed seq)
    have hmonitor : (s.consumed seq).monitor = s.monitor := rfl
    rw [exec_request rfl rfl h, hanswer]
    refine ⟨t, rfl, hframe, fun i hi => ?_, fun x => ?_, fun i hi => ?_⟩
    · have hclear : (clearableBits s.monitor).getLsbD i = true := (getLsbD_clearableBits _ _).mpr (.inl hi)
      rw [hbit, hmonitor, hclear, Bool.and_true]
    · have hclear : (clearableBits s.monitor).getLsbD (16 + x.val) = true ↔
          ∃ code : Code, s.monitor.samples[x] = some code ∧ code.val < s.monitor.limits[x] := by
        rw [getLsbD_clearableBits, ← overtempClears_iff]
        refine ⟨?_, fun hx => .inr ⟨x, rfl, hx⟩⟩
        rintro (hle | ⟨y, hy, hclears⟩)
        · omega
        · rwa [Fin.ext (Nat.add_left_cancel hy)]
      rw [hbit, hmonitor, sticky_consumed (by omega), ← hclear, Bool.and_eq_true, Bool.not_eq_true', ← Bool.not_eq_true,
        Bool.and_eq_true]
    · have hclear : (clearableBits s.monitor).getLsbD i = false := by
        rw [← Bool.not_eq_true, getLsbD_clearableBits]
        rintro (hle | ⟨x, hx, -⟩) <;> omega
      rw [hbit, hmonitor, hclear, Bool.and_false, Bool.not_false, Bool.and_true, sticky_consumed (by omega)]
  · rw [exec_request rfl rfl h, handleWriteFaultMask, maskArgument_beBytes]
    refine ⟨_, rfl, rfl, fun i => ?_⟩
    change (mask &&& maskableBits).getLsbD i = _
    rw [BitVec.getLsbD_and, getLsbD_maskableBits, Bool.and_assoc]
  · rw [exec_request rfl rfl h, handleCollectStatus_byteOf]
    rfl
  · rw [getLsbD_summaryWord s (by omega)]
    revert n
    simp [Fin.forall_fin_succ, summaryBits, allSlots]
  · rw [getLsbD_summaryWord s (by decide)]
    exact bne_iff_ne
  · rw [stream_summaryWord, streamCode_eq]

end Sys2Proof.Machine
end

section
/-! Attempts as they start and fail, and the events that lead to them: the timers of the contact supply (O45), the seat input
(O43), and the failed attempt (O50). -/

namespace Sys2Proof.Machine

/-! ### An attempt of each transaction -/

section Attempt
variable {n : Slot} {k : Nat} {op : CurrentOp} {s : State} (hc : (s.slot n).current = some op)
include hc

theorem startAttempt_ident (hstep : op.step = .ident) :
    startAttempt n k s = s.setSlot n
      { s.slot n with
          attempt := some
            { number := k, nonce := none, request := [0x5A, crc8 [0x5A]], timer := (s.slot n).config.timeout },
          idleTimer := none } := by
  obtain ⟨kind, origin, step, target, halt⟩ := op
  cases hstep
  simp only [startAttempt, hc]
  rfl

theorem startAttempt_challenge (hstep : op.step = .challenge) :
    startAttempt n k s =
      { s.setSlot n
          { s.slot n with
              attempt := some
                { number := k, nonce := some s.freshNonce, request := withCrc8 (0x6B :: beBytes 16 s.freshNonce.toNat),
                  timer := (s.slot n).config.timeout },
              idleTimer := none } with
        nonceCount := s.nonceCount + 1 } := by
  obtain ⟨kind, origin, step, target, halt⟩ := op
  cases hstep
  simp only [startAttempt, hc]
  rfl

theorem startAttempt_advance (hstep : op.step = .advance) {T : Nat} (hT : T = advanceTarget k op (s.slot n).record) :
    startAttempt n k s = s.setSlot n
      { s.slot n with
          current := some { op with target := some T },
          attempt := some
            { number := k, nonce := none, request := withCrc8 (0x7C :: beBytes 4 T),
              timer := (s.slot n).config.timeout },
          idleTimer := none } := by
  obtain ⟨kind, origin, step, target, halt⟩ := op
  cases hstep
  simp only [startAttempt, hc, hT]
  rfl

end Attempt

theorem startAttempt_of_none {n : Slot} {k : Nat} {s : State} (hc : (s.slot n).current = none) : startAttempt n k s = s := by
  simp only [startAttempt, hc]

/-- The first attempt of an ADVANCE captures U_est (R109). -/
theorem advanceTarget_first {op : CurrentOp} {r : BindingRecord} {u : Nat} (hu : r.uBind = some u) :
    advanceTarget 1 op r = min (u + r.metered) 4294967295 := by
  simp [advanceTarget, BindingRecord.uEst, hu, satAdd32, satAdd, Config.max32]

/-- A retry of an ADVANCE keeps the target captured (R84). -/
theorem advanceTarget_retry {k T : Nat} {op : CurrentOp} (hk : 1 ≤ k) (hT : op.target = some T) (r : BindingRecord) :
    advanceTarget (k + 1) op r = T := by
  simp [advanceTarget, hT, Nat.pos_iff_ne_zero.mp hk]

theorem idleStart_eq (cfg : SlotConfig) : idleStart cfg = if cfg.idle = 0 then none else some (cfg.idle * 100) := rfl

/-! ### The timers of the contact supply -/

/-- The slot whose supply has settled (R80, R81). -/
def settledSlot (c : SlotContext) : SlotContext :=
  { c with supply := .poweredOn, settleTimer := none, idleTimer := idleStart c.config }

theorem expireSettle_of_settling {n : Slot} {s : State} (ha : s.alive = true) (hs : (s.slot n).supply = .settling)
    (ht : (s.slot n).settleTimer ≠ none) :
    expireSettle n s = startAttempt n 1 (s.setSlot n (settledSlot (s.slot n))) :=
  if_pos ⟨ha, hs, Option.isSome_iff_ne_none.mpr ht⟩

theorem expireIdle_of_running {n : Slot} {s : State} (ha : s.alive = true) (hs : (s.slot n).supply = .poweredOn)
    (ht : (s.slot n).idleTimer ≠ none) : expireIdle n s = s.setSlot n (supplyOff (s.slot n)) :=
  if_pos ⟨ha, hs, Option.isSome_iff_ne_none.mpr ht⟩

/-- Settles O45: the settled slot starts the attempt of its operation's step, and the idle slot loses its supply. -/
theorem supplyTimers : Obligations.SupplyTimers := by
  intro n c on s ha hc hon
  subst hc hon
  have hslot : (s.setSlot n (settledSlot (s.slot n))).slot n = settledSlot (s.slot n) := State.slot_setSlot_self n _ s
  refine ⟨fun hs ht => ?_, fun hs ht => congrArg Host.Outcome.next (expireIdle_of_running ha hs ht)⟩
  have hexec : exec (.settleTimerExpiry n) s = .next (startAttempt n 1 (s.setSlot n (settledSlot (s.slot n)))) :=
    congrArg Host.Outcome.next (expireSettle_of_settling ha hs ht)
  rw [hexec]
  refine ⟨fun hnone => ?_, fun op hop => ⟨fun hstep => ?_, fun hstep => ?_, fun u U hstep hu hU => ?_⟩⟩
  · rw [startAttempt_of_none (by rw [hslot]; exact hnone)]
    rfl
  · rw [startAttempt_ident (op := op) (by rw [hslot]; exact hop) hstep, hslot, State.setSlot_setSlot]
    rfl
  · rw [startAttempt_challenge (op := op) (by rw [hslot]; exact hop) hstep, hslot, State.setSlot_setSlot,
      freshNonce_setSlot (c := settledSlot (s.slot n)) rfl]
    rfl
  · rw [startAttempt_advance (op := op) (by rw [hslot]; exact hop) hstep (T := U)
      (by rw [hslot]; exact hU.trans (advanceTarget_first (r := (s.slot n).record) hu).symm), hslot, State.setSlot_setSlot]
    rfl

/-! ### The seat input -/

/-- A slot without operation or supply takes an AUTO operation that waits for its supply (R80, R100 to R103). -/
theorem askAuto_waits {n : Slot} {kind : OpKind} {s : State} (hc : (s.slot n).current = none) (hq : (s.slot n).queue = [])
    (hoff : (s.slot n).supply = .off) (hm : MeetsCondition kind (s.slot n)) (hk : kind = .bind ∨ kind = .verify)
    (hkey : kind = .verify → s.keyPresent = true) :
    askAuto n kind s = s.setSlot n (waitsFor kind .auto (readied kind (s.slot n))) := by
  have hcond := (stateCondition_iff kind _).mpr hm
  have hmay : mayJoin kind (s.slot n) = true := by
    rcases hk with rfl | rfl <;> simp [mayJoin, hcond, releaseBar, hq, isQueued, isCurrent, hc]
  have hsupply : (readied kind (s.slot n)).supply = .off := by
    rcases hk with rfl | rfl
    · simp only [readied]
      split <;> exact hoff
    · exact hoff
  rw [askAuto, if_pos hmay, joinOp_of_idle hc hq,
    beginOp_begins (e := { kind := kind, origin := .auto }) hcond hkey (by rcases hk with rfl | rfl <;> simp)]
  unfold State.begins
  simp only [hsupply]

/-- A binding begins at an idle slot without supply, with its AUTO BIND waiting (R77, R88, R103). -/
theorem bindAuto_waits {n : Slot} {s : State} (hc : (s.slot n).current = none) (hq : (s.slot n).queue = [])
    (hoff : (s.slot n).supply = .off) :
    bindAuto n s = s.setSlot n (waitsFor .bind .auto { s.slot n with bindingState := .pendingId, record := .starting }) := by
  unfold bindAuto
  rw [modSlot_eq, askAuto_waits (by rw [State.slot_setSlot_self]; exact hc) (by rw [State.slot_setSlot_self]; exact hq)
    (by rw [State.slot_setSlot_self]; exact hoff) (by rw [State.slot_setSlot_self]; simp [MeetsCondition, beginBinding])
    (.inl rfl) nofun, State.slot_setSlot_self, State.setSlot_setSlot]
  rfl

theorem expireDebounce_of_running {n : Slot} {s : State} (ha : s.alive = true) (hd : (s.slot n).debounce ≠ none) :
    expireDebounce n s =
      if (s.slot n).rawSeat = (s.slot n).seat then
        s.setSlot n { s.slot n with debounce := none, seat := (s.slot n).rawSeat }
      else seatEvent n (s.slot n).rawSeat (s.setSlot n { s.slot n with debounce := none, seat := (s.slot n).rawSeat }) :=
  if_pos ⟨ha, Option.isSome_iff_ne_none.mpr hd⟩

/-- Settles O43: the level's change starts the timer, and its expiry makes the seat's event at most. -/
theorem seatInput : Obligations.SeatInput := by
  intro n s ha
  refine ⟨fun level => ?_, fun hd hsame => ?_, fun hd hr => ?_, fun hd hr hseat hraw hb hc hq hoff hs => ?_⟩
  · have hif : (if s.alive = true then some Config.debounceMs else (s.slot n).debounce) = some 50 := if_pos ha
    refine congrArg Host.Outcome.next ?_
    unfold changeSeat
    simp only [seatOf, modSlot_eq, hif]
  · refine congrArg Host.Outcome.next ?_
    rw [expireDebounce_of_running ha hd, if_pos hsame, hsame]
  · refine congrArg Host.Outcome.next ?_
    rw [expireDebounce_of_running ha hd]
    split
    · rfl
    · exact if_pos hr
  · refine congrArg Host.Outcome.next ?_
    rw [expireDebounce_of_running ha hd, if_neg (by simp [hseat, hraw]), hraw]
    generalize hc' : ({ s.slot n with debounce := none, seat := Seat.seated } : SlotContext) = c
    have hslot : (s.setSlot n c).slot n = c := State.slot_setSlot_self n c s
    unfold seatEvent insertionEvent
    rw [if_neg (by simp [hr]), hslot, if_pos (by rw [← hc']; exact hb), bindAuto_waits (by rw [hslot, ← hc']; exact hc)
      (by rw [hslot, ← hc']; exact hq) (by rw [hslot, ← hc']; exact hoff), hslot, State.setSlot_setSlot]
    refine Eq.trans (waitTest_of_ne (by exact hs)) ?_
    rw [← hc']

/-! ### A failed attempt -/

/-- The slot once an attempt has failed: it is counted, and the attempt has ended (R81, R83). -/
def failedSlot (c : SlotContext) : SlotContext :=
  attemptOver { c with failedAttempts := min (c.failedAttempts + 1) 4294967295 }

/-- The state once an attempt has failed at slot n, before what follows (R83, R84). -/
def State.attemptFailed (n : Slot) (a : Attempt) (s : State) : State :=
  (spendNonce a s).setSlot n (failedSlot (s.slot n))

@[simp] theorem State.attemptFailed_slot (n : Slot) (a : Attempt) (s : State) :
    (s.attemptFailed n a).slot n = failedSlot (s.slot n) := State.slot_setSlot_self n _ _

theorem failAttempt_eq (n : Slot) (a : Attempt) (s : State) :
    failAttempt n a s =
      if a.number < 3 then startAttempt n (a.number + 1) (s.attemptFailed n a) else linkOutcome n (s.attemptFailed n a) := rfl

/-- The LINK outcome: the operation ends, the queue is emptied, and the binding is LINK_LOST (R86, R87). -/
theorem linkOutcome_eq {n : Slot} {op : CurrentOp} {s : State} (hc : (s.slot n).current = some op) :
    linkOutcome n s = s.setSlot n (mergeStatus s.policy.allowance (primaryOf op .link none) 0 0x0020
      { s.slot n with
          queue := [], current := none, bindingState := .linkLost, record := { (s.slot n).record with failure := none } }) := by
  have hstatus := mergeStatus_enterState s.policy.allowance { s.slot n with queue := [], current := none }
    (p := primaryOf op .link none) (e := 0) (a := 0x0020) (carries_alert (by decide)) .linkLost none
  unfold linkOutcome setBinding
  rw [modSlot_eq, modSlot_eq, State.slot_setSlot_self, State.setSlot_setSlot,
    finishOp_of_current (op := op) (by rw [State.slot_setSlot_self]; exact hc), State.slot_setSlot_self, State.setSlot_setSlot]
  exact congrArg (s.setSlot n) hstatus

/-- An event of the statement fails the attempt in flight: its timer before a full response, or a response that is not good
(R83). -/
theorem exec_failsAttempt {n : Slot} {op : CurrentOp} {a : Attempt} {event : Instr} {s : State} (h : AttemptRuns n op a s)
    (he : (∃ received : Nat, received < op.step.responseLength ∧ event = .attemptTimeout n received) ∨
      ∃ response : List Byte, response.length = op.step.responseLength ∧ event = .cartridgeResponse n response ∧
        (byteAt response 0 ≠ op.step.code ∨
          crc8 (response.take (response.length - 1)) ≠ byteAt response (response.length - 1))) :
    exec event s = .next (failAttempt n a s) := by
  have hwait : waitTest (failAttempt n a s) = failAttempt n a s :=
    waitTest_of_ne (by rw [(slotWork_failAttempt n a s).port]; exact h.stream)
  rcases he with ⟨received, hlt, rfl⟩ | ⟨response, hlen, rfl, hbad⟩
  · refine congrArg Host.Outcome.next ?_
    unfold expireAttempt
    rw [h.attempt, h.current]
    exact (if_pos ⟨h.alive, hlt⟩).trans hwait
  · have hgood : goodMessage op.step response ≠ true := fun hg => by
      rw [goodMessage, ← hlen, Bool.and_eq_true, beq_iff_eq, beq_iff_eq] at hg
      exact hbad.elim (· hg.1) (· hg.2)
    refine congrArg Host.Outcome.next ?_
    unfold receiveResponse
    rw [h.attempt, h.current]
    refine (if_pos ⟨h.alive, hlen.ge⟩).trans ?_
    rw [List.take_of_length_le hlen.le, judgeResponse, if_neg hgood, hwait]

/-- Settles O50: the failed attempt is followed by the next of its transaction, and the third by the LINK outcome. -/
theorem failedAttempts : Obligations.FailedAttempts := by
  intro n op a event c s w h hevent hc hw
  have hcur : ((s.attemptFailed n a).slot n).current = some op := by rw [State.attemptFailed_slot]; exact h.current
  have hset : ∀ d : SlotContext, (s.attemptFailed n a).setSlot n d = w.setSlot n d := fun d => by
    rw [hw, State.attemptFailed, State.setSlot_setSlot]
    exact (State.setSlot_setSlot n _ d { s with spentNonces := a.nonce.toList ++ s.spentNonces }).symm
  have hfresh : (s.attemptFailed n a).freshNonce = w.freshNonce := by
    have heq : w = (s.attemptFailed n a).setSlot n { c with attempt := none } := by
      rw [hw]
      simp [State.attemptFailed, spendNonce, State.setSlot]
    rw [heq, freshNonce_setSlot (by rw [State.attemptFailed_slot]; rfl)]
  rw [exec_failsAttempt h hevent, failAttempt_eq]
  subst hc
  refine ⟨fun hlt hstep => ?_, fun hlt hstep => ?_, fun T hone hlt hstep hT => ?_, fun hthree => ?_⟩
  · rw [if_pos hlt, startAttempt_ident hcur hstep, State.attemptFailed_slot, hset]
    rfl
  · rw [if_pos hlt, startAttempt_challenge hcur hstep, State.attemptFailed_slot, hset, hfresh]
    rfl
  · rw [if_pos hlt, startAttempt_advance hcur hstep (advanceTarget_retry hone hT _).symm, State.attemptFailed_slot, hset]
    have hop : (s.slot n).current = some { op with target := some T } := by rw [h.current, ← hT]
    simp only [failedSlot, attemptOver]
    rw [← hop]
  · rw [if_neg (Nat.not_lt.mpr hthree), linkOutcome_eq hcur, State.attemptFailed_slot, hset]
    rfl

end Sys2Proof.Machine
end

section
/-! The requests on operations: START OPERATION (O30) and HALT SLOT (O32). -/

namespace Sys2Proof.Machine

/-! ### START OPERATION -/

theorem startArguments_byteOf (n : Slot) (kind : OpKind) :
    startArguments [byteOf n.val, byteOf kind.code] = some (n, kind) := by
  have hn : (byteOf n.val).toNat = n.val := byteOf_toNat (by omega)
  have hk : OpKind.ofCode (byteOf kind.code).toNat = some kind := by cases kind <;> rfl
  simp [startArguments, hn, slotOf_val, hk]

/-- Which answer START OPERATION gives (R99, R102). -/
theorem handleStartOperation_eq (n : Slot) (kind : OpKind) (s : State) :
    handleStartOperation [byteOf n.val, byteOf kind.code] s =
      if (s.slot n).bindingState = .noCartridge then refuse .notPresent s
      else if mayJoin kind (s.slot n) then
        pendingWith [byteOf kind.code, if isQueued kind (s.slot n).queue then 0x01 else 0x00]
          (waitTest (joinOp n kind .requested s))
      else refuse .badState s := by
  have hmerged : ∀ b : Bool, byteOf (flagAt 0 b) = if b then 0x01 else 0x00 := by decide
  unfold handleStartOperation
  rw [startArguments_byteOf]
  dsimp only
  rw [hmerged]

theorem MayJoin.bound {kind : OpKind} {c : SlotContext} (h : MayJoin kind c) : c.bindingState ≠ .noCartridge := fun hb => by
  have hcond := (stateCondition_iff kind _).mpr h.1
  rw [stateCondition_noCartridge hb] at hcond
  exact Bool.false_ne_true hcond

/-- A REQUESTED entry joins the queue, or turns the entry of its kind there REQUESTED (R100). -/
theorem joinQueue_requested (kind : OpKind) (q : List QueueEntry) :
    joinQueue kind .requested q =
      if isQueued kind q then q.map fun e => if e.kind = kind then { e with origin := .requested } else e
      else q ++ [{ kind := kind, origin := .requested }] := by
  simp [joinQueue]

/-- A request that becomes current at an idle slot begins its first transaction (R102, R103). -/
theorem exec_startOperation_idle {n : Slot} {kind : OpKind} {tag shape seq count : Byte} {s : State}
    (h : RequestNext 0x04 tag [byteOf n.val, byteOf kind.code] shape seq count s) (hc : (s.slot n).current = none)
    (hq : (s.slot n).queue = []) (hm : MayJoin kind (s.slot n)) (hs : s.port.stream ≠ .resumePending)
    (hkey : kind = .verify → s.keyPresent = true) (hrel : kind = .release → (s.slot n).bindingState = .verified) :
    exec .startOperation s = .next (State.replied tag 0x04 .pending [byteOf kind.code, 0x00]
      ((s.consumed seq).begins n kind .requested)) := by
  rw [exec_request rfl rfl h, handleStartOperation_idle (kind := kind) (s := s.consumed seq)
    (by cases kind <;> rfl) hc hq hs hm, beginOp_begins (e := { kind := kind, origin := .requested }) (s := s.consumed seq)
    ((stateCondition_iff kind _).mpr hm.1) hkey hrel]
  rfl

/-- Settles O30: a request refused, one that joins behind the current operation, and one that becomes current. -/
theorem startOperation : Obligations.StartOperation := by
  intro n kind tag shape seq count s h
  have hexec : exec .startOperation s = .next
    ((handleStartOperation [byteOf n.val, byteOf kind.code] (s.consumed seq)).state.replied tag 0x04 (handleStartOperation [byteOf n.val, byteOf kind.code] (s.consumed seq)).result
      (handleStartOperation [byteOf n.val, byteOf kind.code] (s.consumed seq)).data) := exec_request rfl rfl h
  have hslot : (s.consumed seq).slot n = s.slot n := rfl
  rw [handleStartOperation_eq, hslot] at hexec
  refine ⟨fun hb => ?_, fun hb hm => ?_, fun hcur hm hs => ?_, fun c hc hcur hq hm hs hkey hrel => ?_⟩
  · rw [hexec, if_pos hb]
    rfl
  · rw [hexec, if_neg hb, if_neg (mt (mayJoin_iff kind _).mp hm)]
    rfl
  · rw [hexec, if_neg hm.bound, if_pos ((mayJoin_iff kind _).mpr hm), joinOp_of_current (s := s.consumed seq) hcur,
      waitTest_of_ne (by exact hs), hslot, joinQueue_requested]
    rfl
  · rw [exec_startOperation_idle h hcur hq hm hs hkey hrel]
    unfold State.begins
    dsimp only
    rw [hslot, ← hc]
    refine ⟨fun hoff => by rw [hoff], fun hset => by rw [hset], fun hon hk => ?_, fun hon hk => ?_,
      fun u U hon hk hu hU => ?_⟩
    · subst hk; rw [hon]
    · subst hk; rw [hon]; rfl
    · have hest : (estimateOf c.record).getD 0 = U := by simp [estimateOf, hu, hU]
      rw [hon, hest]
      rcases hk with rfl | rfl <;> rfl

/-! ### HALT SLOT -/

/-- The state that HALT SLOT leaves before the wait test: the queue is emptied, and a current operation without an attempt ends,
one with an attempt is marked (R112). -/
def haltedState (n : Slot) (s : State) : State :=
  match (s.slot n).current with
  | none =>
    s.setSlot n (mergeStatus s.policy.allowance (some nothingActivePrimary) 0 0 { s.slot n with queue := [] })
  | some op =>
    if (s.slot n).attempt.isNone then
      s.setSlot n (mergeStatus s.policy.allowance
        (some { kind := some op.kind, result := .halted, reason := none, nothingActive := false }) 0 0
        { s.slot n with queue := [], current := none })
    else s.setSlot n { s.slot n with queue := [], current := some { op with origin := .requested, haltPending := true } }

/-- An operation that ends with an empty queue behind it leaves the slot idle (R104). -/
theorem endOp_of_empty {n : Slot} {op : CurrentOp} {s : State} (hc : (s.slot n).current = some op)
    (hq : (s.slot n).queue = []) (result : OpResult) (why : Option FailureReason) (e : Byte) (a : Word16) :
    endOp n result why e a s = s.setSlot n
      (mergeStatus s.policy.allowance (primaryOf op result why) e a { s.slot n with current := none }) := by
  unfold endOp
  rw [finishOp_of_current hc, pump_of_empty]
  rw [State.slot_setSlot_self, mergeStatus_queue]
  exact hq

theorem haltSlot_state (n : Slot) (s : State) : (haltSlot n s).state = waitTest (haltedState n s) := by
  unfold haltSlot haltedState
  dsimp only
  simp only [modSlot_eq, State.slot_setSlot_self, State.setSlot_setSlot]
  cases hc : (s.slot n).current with
  | none => rfl
  | some op =>
    dsimp only
    split
    · rw [endOp_of_empty (op := { op with origin := .requested, haltPending := false || op.haltPending })
        (by rw [State.slot_setSlot_self]; simp [haltCurrent]) (by rw [State.slot_setSlot_self]; rfl),
        State.slot_setSlot_self, State.setSlot_setSlot]
      rfl
    · simp [haltCurrent, pendingWith]

/-- Settles O32: the three states a slot can be halted in. -/
theorem haltSlot_holds : Obligations.HaltSlot := by
  intro n tag shape seq count removed s h hs hremoved
  subst hremoved
  have hslot : (s.consumed seq).slot n = s.slot n := rfl
  have hexec : exec .haltSlot s = .next ((waitTest (haltedState n (s.consumed seq))).replied tag 0x05
      (haltSlot n (s.consumed seq)).result (haltSlot n (s.consumed seq)).data) := by
    rw [exec_request rfl rfl h, handleHaltSlot, slotArgument_byteOf, ← haltSlot_state]
  have hport : (haltedState n (s.consumed seq)).port.stream = s.port.stream := by
    unfold haltedState
    split
    · rfl
    · split <;> rfl
  rw [hexec, waitTest_of_ne (by rw [hport]; exact hs)]
  unfold haltedState haltSlot
  rw [hslot]
  refine ⟨fun hc => ?_, fun op hc ha => ?_, fun op hc ha => ?_⟩
  · simp only [hc]
    rfl
  · simp only [hc, ha]
    rfl
  · simp only [hc, if_neg (show ¬(s.slot n).attempt.isNone = true by simpa using ha)]
    rfl

end Sys2Proof.Machine
end

section
/-! The identity of a cartridge as an IDENT response gives it, its judgment, and the queue's next entry (O46). -/

namespace Sys2Proof.Machine

/-! ### The identity record of a response -/

section Ident
variable (serial : Serial) (ink : Byte) (capacity : Nat) (generation format : Byte)

theorem identResponse_bytes : ∃ check : Byte, identResponse serial ink capacity generation format =
    [0x5A] ++ beBytes 8 serial.toNat ++ ([ink] ++ (beBytes 4 capacity ++ ([generation] ++ ([format] ++ [check])))) :=
  ⟨crc8 (0x5A :: (beBytes 8 serial.toNat ++ [ink] ++ beBytes 4 capacity ++ [generation, format])), by
    simp [identResponse, withCrc8]⟩

theorem beNat_singleton (b : Byte) : beNat [b] = b.toNat := by simp [beNat]

/-- A field stands at the length of what comes before it, and is read as the number its bytes spell. -/
theorem fieldAt_of_append {d pre field post : List Byte} {i k : Nat} (hd : d = pre ++ (field ++ post)) (hi : pre.length = i)
    (hk : field.length = k) : fieldAt d i k = beNat field := by
  subst hd hi hk
  rw [← List.append_assoc]
  exact fieldAt_append pre field post

/-- The identity record is read back as it was sent; bit 31 of the capacity is ignored (R85, R197). -/
theorem parseIdentity_identResponse (h : capacity < 4294967296) :
    parseIdentity (identResponse serial ink capacity generation format) =
      { serial := serial, inkType := ink.toNat, capacity := capacity % 2147483648, generation := generation.toNat } := by
  obtain ⟨check, hbytes⟩ := identResponse_bytes serial ink capacity generation format
  have hserial : fieldAt (identResponse serial ink capacity generation format) 1 8 = serial.toNat :=
    (fieldAt_of_append (pre := [0x5A])
      (field := beBytes 8 serial.toNat) (post := [ink] ++ (beBytes 4 capacity ++ ([generation] ++ ([format] ++ [check]))))
      (by simp [hbytes]) rfl (beBytes_length 8 _)).trans (beNat_beBytes_of_lt serial.isLt)
  have hink : fieldAt (identResponse serial ink capacity generation format) 9 1 = ink.toNat :=
    (fieldAt_of_append (pre := [0x5A] ++ beBytes 8 serial.toNat)
      (field := [ink]) (post := beBytes 4 capacity ++ ([generation] ++ ([format] ++ [check])))
      (by simp [hbytes]) (by simp) rfl).trans (beNat_singleton ink)
  have hcapacity : fieldAt (identResponse serial ink capacity generation format) 10 4 = capacity :=
    (fieldAt_of_append (pre := [0x5A] ++ beBytes 8 serial.toNat ++ [ink])
      (field := beBytes 4 capacity) (post := [generation] ++ ([format] ++ [check]))
      (by simp [hbytes]) (by simp) (beBytes_length 4 _)).trans (beNat_beBytes_of_lt h)
  have hgeneration : fieldAt (identResponse serial ink capacity generation format) 14 1 = generation.toNat :=
    (fieldAt_of_append (pre := [0x5A] ++ beBytes 8 serial.toNat ++ [ink] ++ beBytes 4 capacity)
      (field := [generation]) (post := [format] ++ [check])
      (by simp [hbytes]) (by simp) rfl).trans (beNat_singleton generation)
  simp only [parseIdentity, hserial, hink, hcapacity, hgeneration, BitVec.ofNat_toNat, BitVec.setWidth_eq]
  rfl

theorem identityFormat_identResponse :
    identityFormat (identResponse serial ink capacity generation format) = format.toNat := by
  obtain ⟨check, hbytes⟩ := identResponse_bytes serial ink capacity generation format
  exact (fieldAt_of_append (pre := [0x5A] ++ beBytes 8 serial.toNat ++ [ink] ++ beBytes 4 capacity ++ [generation])
    (field := [format]) (post := [check]) (by simp [hbytes]) (by simp) rfl).trans (beNat_singleton format)

/-- A good IDENT response goes to the identity judgment (R83, R106). -/
theorem exec_identResponse {n : Slot} {op : CurrentOp} {a : Attempt} {s : State} (h : AttemptRuns n op a s)
    (hstep : op.step = .ident) :
    exec (.cartridgeResponse n (identResponse serial ink capacity generation format)) s =
      .next (judgeIdentity n (identResponse serial ink capacity generation format)
        (s.setSlot n (attemptOver (s.slot n)))) := by
  have hexec := exec_cartridgeResponse
    (body := beBytes 8 serial.toNat ++ [ink] ++ beBytes 4 capacity ++ [generation, format]) h
    (by simp [hstep, Transaction.responseLength])
  rw [hstep] at hexec
  refine hexec.trans ?_
  unfold handResponse
  rw [hstep]
  rfl

end Ident

/-! ### The judgment of an identity -/

/-- Another slot's binding holds a serial, as the model looks for it (R106). -/
theorem serialHeldElsewhere_iff (n : Slot) (serial : Serial) (s : State) :
    serialHeldElsewhere n serial s = true ↔ ∃ m : Slot, m ≠ n ∧ holdsSerial (s.slot m) serial := by
  unfold serialHeldElsewhere holdsSerial
  simp only [List.any_eq_true, mem_allSlots, true_and, Bool.and_eq_true, decide_eq_true_eq, and_assoc]
  refine exists_congr fun m => ?_
  cases (s.slot m).record.identity <;> simp

/-- The slot of a binding that takes another state as its operation ends (R90, R104). -/
def endedSlot (b : BindingState) (r : BindingRecord) (c : SlotContext) : SlotContext :=
  { c with current := none, bindingState := b, record := r }

/-- A change of state, then the operation's end: one merge at the state entered, and the next entry becomes current (R90,
R104). -/
theorem endOp_setBinding {n : Slot} {op : CurrentOp} {s : State} (hc : (s.slot n).current = some op) {b : BindingState}
    (hb : b ≠ .noCartridge) {reason : Option FailureReason} {result : OpResult} {e : Byte} {a : Word16}
    (hquiet : refreshes b = false ∨ Carries (primaryOf op result reason) e a) :
    endOp n result reason e a (setBinding n b reason s) = pump n (s.setSlot n
      (mergeStatus s.policy.allowance (primaryOf op result reason) e a
        (endedSlot b (enterState s.policy.allowance b reason (s.slot n)).record (s.slot n)))) := by
  have hcurrent : (enterState s.policy.allowance b reason (s.slot n)).current = some op := by
    cases b <;> exact hc
  have hmerged : mergeStatus s.policy.allowance (primaryOf op result reason) e a
      { enterState s.policy.allowance b reason (s.slot n) with current := none } =
      mergeStatus s.policy.allowance (primaryOf op result reason) e a
        (endedSlot b (enterState s.policy.allowance b reason (s.slot n)).record (s.slot n)) := by
    rcases hquiet with hquiet | hcarries
    · unfold enterState
      rw [hquiet]
      rfl
    · have hswap : ({ enterState s.policy.allowance b reason (s.slot n) with current := none } : SlotContext) =
          enterState s.policy.allowance b reason { s.slot n with current := none } := by
        cases b <;> rfl
      rw [hswap, mergeStatus_enterState _ _ hcarries, enterState_record hb, enterState_record hb]
      rfl
  unfold endOp setBinding
  rw [modSlot_eq, finishOp_of_current (op := op) (by rw [State.slot_setSlot_self]; exact hcurrent), State.slot_setSlot_self,
    State.setSlot_setSlot, ← hmerged]
  rfl

/-- The slot of a binding that has been identified. -/
def identifiedSlot (i : Identity) (c : SlotContext) : SlotContext := { c with record := { c.record with identity := some i } }

/-- An identified binding that takes another state than VERIFIED as its operation ends (R106). -/
theorem endOp_identified {n : Slot} {op : CurrentOp} {s : State} (hc : (s.slot n).current = some op) {b : BindingState}
    (hb : b ≠ .noCartridge) (hv : b ≠ .verified) {reason : Option FailureReason} {result : OpResult} {a : Word16}
    (hquiet : refreshes b = false ∨ Carries (primaryOf op result reason) 0 a) (i : Identity) :
    endOp n result reason 0 a (setBinding n b reason (s.setSlot n (identifiedSlot i (s.slot n)))) = pump n (s.setSlot n
      (mergeStatus s.policy.allowance (primaryOf op result reason) 0 a
        (endedSlot b
          { (s.slot n).record with identity := some i, failure := if b = .failed then reason else none } (s.slot n)))) := by
  rw [endOp_setBinding (op := op) (by rw [State.slot_setSlot_self]; exact hc) hb hquiet, State.slot_setSlot_self,
    State.setSlot_setSlot, enterState_record hb, decide_eq_false hv, Bool.or_false]
  rfl

section Judge
variable {n : Slot} {op : CurrentOp} {msg : List Byte} {i : Identity} {s : State} (hc : (s.slot n).current = some op)
  (hi : parseIdentity msg = i)
include hc hi

/-- An identity record that cannot be one fails the binding, which stays without identity (R106). -/
theorem judgeIdentity_bad (hbad : identityFormat msg ≠ 1 ∨ i.capacity = 0 ∨ i.inkType = 0) :
    judgeIdentity n msg s = pump n (s.setSlot n
      (mergeStatus s.policy.allowance (primaryOf op .failed (some .badIdentity)) 0 0x0010
        (endedSlot .failed { (s.slot n).record with failure := some .badIdentity } (s.slot n)))) := by
  unfold judgeIdentity
  dsimp only
  rw [hi, if_pos hbad]
  rw [failBinding, endOp_setBinding hc (b := .failed) nofun (.inr (carries_alert (by decide)))]
  rfl

variable (hgood : ¬(identityFormat msg ≠ 1 ∨ i.capacity = 0 ∨ i.inkType = 0))
include hgood

omit hc in
theorem judgeIdentity_good :
    judgeIdentity n msg s =
      if (s.slot n).config.inkType ≠ 0 ∧ (s.slot n).config.inkType ≠ i.inkType then
        failBinding n .wrongInk .wrongInk (s.setSlot n (identifiedSlot i (s.slot n)))
      else if serialHeldElsewhere n i.serial s then
        failBinding n .duplicate .duplicate (s.setSlot n (identifiedSlot i (s.slot n)))
      else if s.keyPresent then
        goOnToChallenge n (setBinding n .pendingAuth none (s.setSlot n (identifiedSlot i (s.slot n))))
      else
        endOp n .unverified none 0 Alert.keyAbsent.bits
          (setBinding n .unverified none (s.setSlot n (identifiedSlot i (s.slot n)))) := by
  unfold judgeIdentity
  dsimp only
  rw [hi, if_neg hgood]
  rfl

/-- A cartridge of another ink than the one expected fails the binding (R106). -/
theorem judgeIdentity_wrongInk (hwrong : (s.slot n).config.inkType ≠ 0 ∧ (s.slot n).config.inkType ≠ i.inkType) :
    judgeIdentity n msg s = pump n (s.setSlot n
      (mergeStatus s.policy.allowance (primaryOf op .failed (some .wrongInk)) 0 0x0008
        (endedSlot .failed { (s.slot n).record with identity := some i, failure := some .wrongInk } (s.slot n)))) := by
  rw [judgeIdentity_good hi hgood, if_pos hwrong, failBinding,
    endOp_identified hc (b := .failed) nofun nofun (.inr (carries_alert (by decide)))]
  rfl

variable (hink : ¬((s.slot n).config.inkType ≠ 0 ∧ (s.slot n).config.inkType ≠ i.inkType))
include hink

/-- A serial that another slot's binding holds fails the binding (R106). -/
theorem judgeIdentity_duplicate (hheld : serialHeldElsewhere n i.serial s = true) :
    judgeIdentity n msg s = pump n (s.setSlot n
      (mergeStatus s.policy.allowance (primaryOf op .failed (some .duplicate)) 0 0x0004
        (endedSlot .failed { (s.slot n).record with identity := some i, failure := some .duplicate } (s.slot n)))) := by
  rw [judgeIdentity_good hi hgood, if_neg hink, if_pos hheld, failBinding,
    endOp_identified hc (b := .failed) nofun nofun (.inr (carries_alert (by decide)))]
  rfl

variable (hfree : serialHeldElsewhere n i.serial s = false)
include hfree

/-- Without a key the binding is UNVERIFIED (R106). -/
theorem judgeIdentity_keyless (hkey : s.keyPresent = false) :
    judgeIdentity n msg s = pump n (s.setSlot n
      (mergeStatus s.policy.allowance (primaryOf op .unverified none) 0 0x0100
        (endedSlot .unverified { (s.slot n).record with identity := some i, failure := none } (s.slot n)))) := by
  rw [judgeIdentity_good hi hgood, if_neg hink, if_neg (by simp [hfree]), if_neg (by simp [hkey]),
    endOp_identified hc (b := .unverified) nofun nofun (.inr (carries_alert (by decide)))]
  rfl

variable (hkey : s.keyPresent = true)
include hkey

/-- A halt that waits stops the BIND before its CHALLENGE (R107, R113). -/
theorem judgeIdentity_halted (hhalt : op.haltPending = true) :
    judgeIdentity n msg s = pump n (s.setSlot n
      (mergeStatus s.policy.allowance (primaryOf op .halted none) 0 0
        (endedSlot .pendingAuth { (s.slot n).record with identity := some i, failure := none } (s.slot n)))) := by
  have hpending : haltPending
      ((setBinding n .pendingAuth none (s.setSlot n (identifiedSlot i (s.slot n)))).slot n) = true := by
    unfold setBinding haltPending
    rw [State.slot_modSlot_self, State.slot_setSlot_self, enterState_frame]
    simp [identifiedSlot, hc, hhalt]
  rw [judgeIdentity_good hi hgood, if_neg hink, if_neg (by simp [hfree]), if_pos hkey, goOnToChallenge, if_pos hpending,
    endOp_identified hc (b := .pendingAuth) nofun nofun (.inl rfl)]
  rfl

/-- With a key the BIND goes on to its CHALLENGE (R107). -/
theorem judgeIdentity_goesOn (hhalt : op.haltPending = false) :
    judgeIdentity n msg s = requestBus n (s.setSlot n
      { s.slot n with
          current := some { op with step := .challenge }, bindingState := .pendingAuth,
          record := { (s.slot n).record with identity := some i, failure := none } }) := by
  have hentered : setBinding n .pendingAuth none (s.setSlot n (identifiedSlot i (s.slot n))) = s.setSlot n
      { s.slot n with
          bindingState := .pendingAuth, record := { (s.slot n).record with identity := some i, failure := none } } := by
    unfold setBinding
    rw [modSlot_eq, State.slot_setSlot_self, State.setSlot_setSlot]
    rfl
  rw [judgeIdentity_good hi hgood, if_neg hink, if_neg (by simp [hfree]), if_pos hkey, hentered, goOnToChallenge,
    if_neg (by rw [State.slot_setSlot_self]; simp [haltPending, hc, hhalt]), modSlot_eq, State.slot_setSlot_self,
    State.setSlot_setSlot]
  simp only [hc]
  rfl

/-- With the supply ON its attempt starts at once (R80, R130). -/
theorem judgeIdentity_challenges (hhalt : op.haltPending = false) (hon : (s.slot n).supply = .poweredOn) :
    judgeIdentity n msg s =
      { s.setSlot n
          { s.slot n with
              current := some { op with step := .challenge }, bindingState := .pendingAuth, idleTimer := none,
              record := { (s.slot n).record with identity := some i, failure := none },
              attempt := some
                { number := 1, nonce := some s.freshNonce, request := withCrc8 (0x6B :: beBytes 16 s.freshNonce.toNat),
                  timer := (s.slot n).config.timeout } } with
        nonceCount := s.nonceCount + 1 } := by
  rw [judgeIdentity_goesOn hc hi hgood hink hfree hkey hhalt]
  unfold requestBus
  rw [State.slot_setSlot_self]
  simp only [hon]
  rw [startAttempt_challenge (op := { op with step := .challenge }) (by rw [State.slot_setSlot_self]) rfl,
    freshNonce_setSlot (by rfl), State.slot_setSlot_self, State.setSlot_setSlot]
  rfl

end Judge

/-! ### The queue's next entry -/

/-- The oldest entry leaves the queue, and becomes current or ends (R103). -/
theorem pump_next {n : Slot} {s : State} {e : QueueEntry} {rest : List QueueEntry} (hc : (s.slot n).current = none)
    (hq : (s.slot n).queue = e :: rest) :
    pump n s = runQueue rest.length n (beginOp n e (s.setSlot n { s.slot n with queue := rest })) := by
  rw [pump, hq]
  exact runQueue_next hc hq rest.length

section Next
variable {n : Slot} {e : QueueEntry} {rest : List QueueEntry} {c : SlotContext} {s : State}

/-- The state as the oldest entry has left the queue of a slot with no operation. -/
structure EntryTaken (n : Slot) (e : QueueEntry) (rest : List QueueEntry) (c : SlotContext) (s : State) : Prop where
  idle : (s.slot n).current = none
  queue : (s.slot n).queue = e :: rest
  taken : c = { s.slot n with queue := rest }

variable (h : EntryTaken n e rest c s)
include h

theorem EntryTaken.pump_eq : pump n s = runQueue rest.length n (beginOp n e (s.setSlot n c)) := by
  rw [h.taken]
  exact pump_next h.idle h.queue

theorem EntryTaken.current : c.current = none := by rw [h.taken]; exact h.idle

theorem EntryTaken.length : c.queue.length = rest.length := by rw [h.taken]

/-- An entry that ends at once leaves the rest of the queue to run (R103). -/
theorem EntryTaken.pump_ended {d : SlotContext} {t : State} (hbegin : beginOp n e (s.setSlot n c) = t.setSlot n d)
    (hd : d.queue = c.queue) : pump n s = pump n (t.setSlot n d) := by
  rw [h.pump_eq, hbegin, pump, State.slot_setSlot_self, hd, h.length]

/-- An entry whose state condition fails ends STALE (R103). -/
theorem EntryTaken.stale (hm : ¬MeetsCondition e.kind c) :
    pump n s = pump n (s.setSlot n
      (mergeStatus s.policy.allowance (primaryOf (newOp e.kind e.origin) .stale none) 0 0 c)) := by
  refine h.pump_ended ?_ (mergeStatus_queue ..)
  rw [beginOp_stale (by rw [State.slot_setSlot_self]; exact h.current)
    (by rw [State.slot_setSlot_self, ← Bool.not_eq_true, stateCondition_iff]; exact hm), State.slot_setSlot_self,
    State.setSlot_setSlot]
  rfl

/-- A VERIFY with no key ends UNVERIFIED (R108). -/
theorem EntryTaken.keyless (hm : MeetsCondition e.kind c) (hk : e.kind = .verify) (hkey : s.keyPresent = false) :
    pump n s = pump n (s.setSlot n
      (mergeStatus s.policy.allowance (primaryOf (newOp e.kind e.origin) .unverified none) 0 0x0100
        { c with record := { c.record with sinceVerify := 0 } })) := by
  refine h.pump_ended ?_ (mergeStatus_queue ..)
  rw [beginOp_keyless (by rw [State.slot_setSlot_self]; exact h.current) hk (by exact hkey)
    (by rw [State.slot_setSlot_self, stateCondition_iff]; exact hk ▸ hm), State.slot_setSlot_self, State.setSlot_setSlot]
  rfl

/-- A RELEASE of a binding that is not VERIFIED ends it without a transaction (R110). -/
theorem EntryTaken.released (hm : MeetsCondition e.kind c) (hw : Evaluated c.record) (hk : e.kind = .release)
    (ho : e.origin = .requested) (hv : c.bindingState ≠ .verified) :
    pump n s = pump n ((s.bindingEnds n c).setSlot n
      (mergeStatus s.policy.allowance (primaryOf (newOp .release .requested) .released none) 0 0
        { releasedSlot c with current := c.current })) := by
  have hreleased : releasedSlot c = { releasedSlot c with current := c.current } := by
    rw [h.current]
    rfl
  rw [← hreleased]
  refine h.pump_ended ?_ (mergeStatus_queue ..)
  rw [beginOp_release hk (by rw [State.slot_setSlot_self, stateCondition_iff]; exact hk ▸ hm)
    (by rw [State.slot_setSlot_self]; exact hv) (by rw [State.slot_setSlot_self]; exact hw), State.slot_setSlot_self,
    bindingEnds_setSlot, State.setSlot_setSlot, ho]
  exact congrArg _ (mergeStatus_refreshSnapshot _ _ carries_primary)

/-- An entry that needs the bus becomes current (R103, R105). -/
theorem EntryTaken.begins (hm : MeetsCondition e.kind c) (hv : e.kind = .verify → s.keyPresent = true)
    (hr : e.kind = .release → c.bindingState = .verified) : pump n s = (s.setSlot n c).begins n e.kind e.origin := by
  rw [h.pump_eq, beginOp_begins (by rw [State.slot_setSlot_self, stateCondition_iff]; exact hm) (by exact hv)
    (by rw [State.slot_setSlot_self]; exact hr), runQueue_of_current]
  exact (hasBegun_begins n e.kind e.origin _).current_ne

end Next

/-- Settles O46: the identity is judged in the order of its tests, and the queue's next entry as its kind and the binding
allow. -/
theorem identityJudged : Obligations.IdentityJudged := by
  refine ⟨?_, fun n s h => h.elim pump_of_current pump_of_empty, fun n e rest c s hidle hqueue htaken => ?_⟩
  · intro n op a serial ink generation format capacity response i c s h hstep hcapacity hresponse hi hc bad wrong held hbad
      hwrong hheld
    subst hresponse hc
    have hexec := exec_identResponse serial ink capacity generation format h hstep
    have hparse := (parseIdentity_identResponse serial ink capacity generation format hcapacity).trans hi.symm
    have hslot : (s.setSlot n (attemptOver (s.slot n))).slot n = attemptOver (s.slot n) := State.slot_setSlot_self n _ s
    have hcur : ((s.setSlot n (attemptOver (s.slot n))).slot n).current = some op := by rw [hslot]; exact h.current
    have hbad' : bad ↔ identityFormat (identResponse serial ink capacity generation format) ≠ 1 ∨ i.capacity = 0 ∨
        i.inkType = 0 := by
      rw [hbad, identityFormat_identResponse, hi]
      simp only [← BitVec.toNat_inj, ne_eq]
      rfl
    have hheld' : serialHeldElsewhere n i.serial (s.setSlot n (attemptOver (s.slot n))) = true ↔ held := by
      rw [serialHeldElsewhere_iff, hheld, hi]
      exact exists_congr fun m => and_congr_right fun hm => by rw [State.slot_setSlot_ne hm]
    rw [hexec, hbad', hwrong]
    refine ⟨fun hbad => ?_, fun hgood hink => ?_, fun hgood hink hh => ?_, fun hgood hink hh hk => ?_,
      fun hgood hink hh hk hhalt => ?_, fun hgood hink hh hk hhalt hon => ?_⟩
    · rw [judgeIdentity_bad hcur hparse hbad, hslot, State.setSlot_setSlot]
      rfl
    · rw [judgeIdentity_wrongInk hcur hparse hgood (by rw [hslot]; exact hink), hslot, State.setSlot_setSlot]
      rfl
    · rw [judgeIdentity_duplicate hcur hparse hgood (by rw [hslot]; exact hink) (hheld'.mpr hh), hslot, State.setSlot_setSlot]
      rfl
    · rw [judgeIdentity_keyless hcur hparse hgood (by rw [hslot]; exact hink) (Bool.eq_false_iff.mpr (mt hheld'.mp hh)) hk,
        hslot, State.setSlot_setSlot]
      rfl
    · rw [judgeIdentity_halted hcur hparse hgood (by rw [hslot]; exact hink) (Bool.eq_false_iff.mpr (mt hheld'.mp hh)) hk
        hhalt, hslot, State.setSlot_setSlot]
      rfl
    · rw [judgeIdentity_challenges hcur hparse hgood (by rw [hslot]; exact hink)
        (Bool.eq_false_iff.mpr (mt hheld'.mp hh)) hk hhalt (by rw [hslot]; exact hon), hslot, State.setSlot_setSlot]
      rfl
  · have h : EntryTaken n e rest c s := ⟨hidle, hqueue, htaken⟩
    exact ⟨h.stale, fun hm _ => h.begins hm, h.keyless, fun hm hw hk ho hv => h.released hm hw.isEvaluated hk ho hv⟩

end Sys2Proof.Machine
end

section
/-! One treatment made at each slot in turn, and the end of RESTORING (O6). -/

namespace Sys2Proof.Machine

/-! ### One treatment at each slot -/

/-- The state with other slots. -/
def State.withSlots (v : Vector SlotContext 8) (s : State) : State := { s with slots := v }

/-- A treatment of slot n alone: where the slot is as it was at first, it takes the context `d n`, and what it does to the rest
is what `g n` does, which neither reads nor changes a slot; `P` is what the treatment asks of the rest. -/
structure TreatsEach (P : State → Prop) (f g : Slot → State → State) (d : Slot → SlotContext) (s : State) : Prop where
  treated : ∀ n u, P u → u.slot n = s.slot n → f n u = (g n u).setSlot n (d n)
  blind : ∀ n u v, g n (u.withSlots v) = (g n u).withSlots v
  keeps : ∀ n u c, P u → P ((g n u).setSlot n c)

section
variable {P : State → Prop} {f g : Slot → State → State} {d : Slot → SlotContext} {s : State} (h : TreatsEach P f g d s)
include h

theorem TreatsEach.slot_eq (n m : Slot) (u : State) : (g n u).slot m = u.slot m := by
  have hslots := congrArg State.slots (h.blind n u u.slots)
  exact State.slot_congr hslots m

theorem TreatsEach.foldl (l : List Slot) (hl : l.Nodup) (u w : State) (hP : P u) (hu : ∀ n ∈ l, u.slot n = s.slot n)
    (hw : u = w.withSlots u.slots) :
    (∀ n, (l.foldl (fun t n => f n t) u).slot n = if n ∈ l then d n else u.slot n) ∧
      l.foldl (fun t n => f n t) u = (l.foldl (fun t n => g n t) w).withSlots (l.foldl (fun t n => f n t) u).slots := by
  induction l generalizing u w with
  | nil => exact ⟨fun n => by simp, hw⟩
  | cons m l ih =>
    obtain ⟨hm, hl⟩ := List.nodup_cons.mp hl
    have hstep := h.treated m u hP (hu m (by simp))
    have hslot : ∀ n, (f m u).slot n = if n = m then d m else u.slot n := fun n => by
      rw [hstep, State.slot_setSlot, h.slot_eq]
    have hframe : f m u = (g m w).withSlots (f m u).slots := by
      have hg : g m u = (g m w).withSlots u.slots := by rw [← h.blind, ← hw]
      rw [hstep, hg]
      rfl
    have hrest : ∀ n ∈ l, (f m u).slot n = s.slot n := fun n hn => by
      have hne : n ≠ m := fun e => hm (by rw [← e]; exact hn)
      rw [hslot, if_neg hne, hu n (by simp [hn])]
    obtain ⟨hslots, hfold⟩ := ih hl (f m u) (g m w) (by rw [hstep]; exact h.keeps m u (d m) hP) hrest hframe
    refine ⟨fun n => ?_, hfold⟩
    rw [List.foldl_cons, hslots, hslot]
    by_cases hn : n = m
    · rw [if_neg (by rw [hn]; exact hm), if_pos hn, if_pos (by simp [hn]), hn]
    · simp [hn]

/-- Treating each slot in turn gives each its context, and to the rest what the treatments do there one after the other. -/
theorem TreatsEach.overSlots_eq (hs : P s) :
    (∀ n, (overSlots f s).slot n = d n) ∧ overSlots f s = (overSlots g s).withSlots (overSlots f s).slots := by
  obtain ⟨hslots, hrest⟩ := h.foldl allSlots (by decide) s s hs (fun _ _ => rfl) rfl
  exact ⟨fun n => (hslots n).trans (if_pos (mem_allSlots n)), hrest⟩

end

theorem overSlots_id (s : State) : overSlots (fun _ u => u) s = s := rfl

/-! ### What the restore finds -/

theorem restoredKey_present (st : RecordStore) (k : RootKey) :
    restoredKey st = .present k ↔ st.keyForm = .valid k ∧ k ≠ 0 := by
  unfold restoredKey readForm keyPasses
  cases hf : st.keyForm with
  | blank => simp
  | invalid => simp
  | valid a =>
    rcases eq_or_ne a 0 with rfl | ha
    · exact ⟨nofun, fun ⟨hk, hne⟩ => absurd (Stored.valid.inj hk).symm hne⟩
    · simp only [bne_iff_ne, if_pos ha, KeyState.present.injEq, Stored.valid.injEq]
      exact ⟨fun hk => ⟨hk, hk ▸ ha⟩, And.left⟩

theorem restoredKey_ne_provisioning (st : RecordStore) : restoredKey st ≠ .provisioning := by
  unfold restoredKey
  split <;> nofun

theorem checkpointPasses_iff (c : Checkpoint) :
    checkpointPasses (some c) = true ↔ c.generation ≤ 255 ∧ c.estimate ≤ 4294967295 ∧ c.acknowledged ≤ c.estimate := by
  simp only [checkpointPasses, Bool.and_eq_true, decide_eq_true_eq, and_assoc]
  rfl

theorem readForm_checkpoint (f : Stored (Option Checkpoint)) : (readForm checkpointPasses f).join = checkpointAt f := by
  cases f with
  | blank => rfl
  | invalid => rfl
  | valid o =>
    cases o with
    | none => rfl
    | some c =>
      by_cases hc : checkpointPasses (some c) = true
      · rw [readForm, checkpointAt, if_pos hc, if_pos ((checkpointPasses_iff c).mp hc), Option.join_some]
      · rw [readForm, checkpointAt, if_neg hc, if_neg (mt (checkpointPasses_iff c).mpr hc), Option.join_none]

theorem restoredCheckpoints_get (st : RecordStore) (n : Slot) :
    (restoredCheckpoints st)[n] = checkpointAt st.checkpointForms[n] := by
  simpa [restoredCheckpoints] using readForm_checkpoint _

/-! ### The slots at the end of RESTORING -/

/-- A seated slot as it begins its binding (R96). -/
def seatedBinding (c : SlotContext) : SlotContext :=
  if c.seat = .seated then waitsFor .bind .auto { c with bindingState := .pendingId, record := .starting } else c

theorem bindSeated_eq {n : Slot} {s : State} (h : SlotIdle (s.slot n)) :
    bindSeated n s = s.setSlot n (seatedBinding (s.slot n)) := by
  unfold bindSeated seatedBinding
  split
  · exact bindAuto_waits h.current h.queue h.supply
  · exact (State.setSlot_slot n s).symm

theorem treatsEach_bindSeated {s : State} (h : ∀ n, SlotIdle (s.slot n)) :
    TreatsEach (fun _ => True) bindSeated (fun _ u => u) (fun n => seatedBinding (s.slot n)) s where
  treated n u _ hu := by
    rw [bindSeated_eq (by rw [hu]; exact h n), hu]
  blind _ _ _ := rfl
  keeps _ _ _ _ := trivial

theorem raiseRestoreInvalid_eq {s : State} (h : s.resetAsserted = false) :
    raiseRestoreInvalid s = { s with agent := { s.agent with
      sticky := s.agent.sticky ||| (if 0 < s.store.invalidCount then Condition.mask .restoreInvalid else 0) } } := by
  unfold raiseRestoreInvalid
  split
  · simp [State.raise, h]
  · simp

/-- Settles O6: the restore's results go to their owners, and the seated slots begin their bindings. -/
theorem endOfRestoring : Obligations.EndOfRestoring := by
  intro s hp hr hw
  have hidle : ∀ n, SlotIdle (s.slot n) := hw.stopped (by simp [State.running, hr])
  have hexec : exec .endOfRestoring s = .next (if s.resetAsserted then { handResults s with restoreEndedInReset := true }
      else overSlots bindSeated (raiseRestoreInvalid (handResults s))) :=
    congrArg Host.Outcome.next (if_pos ⟨hp, hr⟩)
  cases ha : s.resetAsserted with
  | true =>
    rw [if_pos ha] at hexec
    exact ⟨_, hexec, rfl, ha, rfl, rfl, rfl, rfl, rfl, restoredKey_present s.store, restoredKey_ne_provisioning s.store,
      restoredCheckpoints_get s.store, rfl, fun _ => ⟨rfl, rfl, rfl⟩, nofun⟩
  | false =>
    rw [if_neg (by simp [ha]), raiseRestoreInvalid_eq (s := handResults s) ha] at hexec
    obtain ⟨hslots, hrest⟩ := (treatsEach_bindSeated (s := { handResults s with agent := { s.agent with
      sticky := s.agent.sticky ||| (if 0 < countInvalid s.store then Condition.mask .restoreInvalid else 0) } })
      hidle).overSlots_eq trivial
    rw [overSlots_id] at hrest
    generalize (overSlots bindSeated _).slots = v at hrest
    rw [hrest] at hslots
    exact ⟨_, hexec.trans (congrArg Host.Outcome.next hrest), rfl, ha, rfl, rfl, rfl, rfl, rfl,
      restoredKey_present s.store, restoredKey_ne_provisioning s.store, restoredCheckpoints_get s.store, rfl, nofun,
      fun _ => ⟨rfl, hslots⟩⟩

end Sys2Proof.Machine
end

section
/-! The release of RESET_N (O9). -/

namespace Sys2Proof.Machine

/-! ### What the trace of an ended binding leaves alone -/

/-- The Refill Monitor and the Record Store have recorded ended bindings: no more than the working copies and the commit queue has
changed, and of the conditions no other than STORE_OVERFLOW (R146, R175). -/
structure TraceWork (s t : State) : Prop where
  frame : t = { s with refill := t.refill, store := t.store, agent := { s.agent with sticky := t.agent.sticky } }
  store : t.store = { s.store with commitQueue := t.store.commitQueue, program := t.store.program }
  sticky : ∀ i, i ≠ 8 → t.agent.sticky.getLsbD i = s.agent.sticky.getLsbD i

theorem TraceWork.refl (s : State) : TraceWork s s := ⟨rfl, rfl, fun _ _ => rfl⟩

theorem TraceWork.trans {s t u : State} (h : TraceWork s t) (g : TraceWork t u) : TraceWork s u :=
  ⟨by rw [g.frame, h.frame], by rw [g.store, h.store], fun i hi => (g.sticky i hi).trans (h.sticky i hi)⟩

theorem traceWork_refill (r : RefillMonitor) (s : State) : TraceWork s { s with refill := r } := ⟨rfl, rfl, fun _ _ => rfl⟩

theorem traceWork_raise_storeOverflow (s : State) : TraceWork s (s.raise .storeOverflow) := by
  rcases s.raise_cases .storeOverflow with ⟨-, h⟩ | ⟨-, h⟩ <;> rw [h]
  · exact .refl s
  · exact ⟨rfl, rfl, fun i hi => by simp [getLsbD_mask, Condition.bit, hi]⟩

theorem traceWork_commit (w : Write) (s : State) : TraceWork s (commit w s) := by
  unfold commit
  rcases requestWrite_cases w s with ⟨q, -, h⟩ | ⟨-, h⟩ <;> rw [h]
  · refine ⟨rfl, ?_, fun _ _ => rfl⟩
    rcases beginProgram_cases { s.store with commitQueue := q } with ⟨w, rest, -, -, hb⟩ | ⟨-, hb⟩ <;> rw [hb]
  · exact traceWork_raise_storeOverflow s

theorem traceWork_addRetired (serial : Serial) (generation count : Nat) (reason : RetiredReason) (s : State) :
    TraceWork s (addRetired serial generation count reason s) := (traceWork_refill _ s).trans (traceWork_commit _ _)

theorem traceWork_checkpointed (n : Slot) (k : Checkpoint) (s : State) : TraceWork s (s.checkpointed n k) :=
  (traceWork_refill _ s).trans (traceWork_commit _ _)

theorem traceWork_traceOf (n : Slot) (r : BindingRecord) (s : State) : TraceWork s (s.traceOf n r) := by
  unfold State.traceOf
  split
  · dsimp only
    split
    · exact (traceWork_checkpointed n _ s).trans (traceWork_addRetired _ _ _ _ _)
    · split
      · exact (traceWork_checkpointed n _ s).trans (traceWork_addRetired _ _ _ _ _)
      · exact traceWork_checkpointed n _ s
  · exact .refl s

theorem traceWork_bindingEnds (n : Slot) (c : SlotContext) (s : State) : TraceWork s (s.bindingEnds n c) := by
  unfold State.bindingEnds
  split
  · exact .refl s
  · exact traceWork_traceOf n c.record s

theorem traceWork_overSlots {g : Slot → State → State} (h : ∀ n u, TraceWork u (g n u)) (s : State) :
    TraceWork s (overSlots g s) := overSlots_keeps (fun n u hu => hu.trans (h n u)) s (.refl s)

/-! ### Work that is blind to the slots -/

/-- Other slots are put in place one after the other. -/
theorem withSlots_eq_overSlots (v : Vector SlotContext 8) (u : State) :
    u.withSlots v = overSlots (fun m t => t.setSlot m v[m]) u := by
  obtain ⟨hslots, hrest⟩ := TreatsEach.overSlots_eq (P := fun _ => True) (f := fun m t => t.setSlot m v[m])
    (g := fun _ t => t) (d := fun m => v[m]) (s := u) ⟨fun _ _ _ _ => rfl, fun _ _ _ => rfl, fun _ _ _ _ => trivial⟩ trivial
  have hv : (overSlots (fun m t => t.setSlot m v[m]) u).slots = v := by
    ext i hi
    exact hslots ⟨i, hi⟩
  rw [hrest, hv, overSlots_id]

/-- What commutes with the replacement of a slot is blind to all of them. -/
theorem blind_of_setSlot {F : State → State} (h : ∀ m c u, F (u.setSlot m c) = (F u).setSlot m c) (u : State)
    (v : Vector SlotContext 8) : F (u.withSlots v) = (F u).withSlots v := by
  rw [withSlots_eq_overSlots, withSlots_eq_overSlots]
  exact (List.foldl_hom F fun t m => (h m v[m] t).symm).symm

/-! ### A slot at the release -/

/-- An idle slot has nothing to stop. -/
theorem SlotIdle.stopped {c : SlotContext} (h : SlotIdle c) :
    { supplyOff c with attempt := none, current := none, queue := [] } = c := by
  obtain ⟨hcurrent, hqueue, hattempt, hsupply, hsettle, hidle⟩ := h
  cases c
  simp_all [supplyOff]

/-- At an idle slot the binding ends by the seat as by a removal (R78, R97). -/
theorem endByEmptySeat_eq {n : Slot} {s : State} (hidle : SlotIdle (s.slot n)) (h : Evaluated (s.slot n).record)
    (hlive : (s.slot n).bindingState ≠ .noCartridge) :
    endByEmptySeat n s = (s.bindingEnds n (s.slot n)).setSlot n
      (mergeStatus s.policy.allowance none 0 0x0001 { s.slot n with bindingState := .noCartridge, record := .starting }) := by
  have hremove : endByEmptySeat n s = removeCartridge n s := by
    unfold endByEmptySeat removeCartridge
    rw [modSlot_eq, modSlot_eq, hidle.stopped]
  have hslot := congrArg (fun c : SlotContext => { c with bindingState := .noCartridge, record := .starting }) hidle.stopped
  rw [hremove, removeCartridge_eq h hlive]
  exact congrArg (fun c => (s.bindingEnds n (s.slot n)).setSlot n (mergeStatus s.policy.allowance none 0 0x0001 c)) hslot

/-- A retained binding to be proved again (R97). -/
def provedAgain (c : SlotContext) : SlotContext :=
  waitsFor .verify .auto
    { c with bindingState := .pendingAuth, record := { c.record with unverifiedUnits := 0, sinceVerify := 0 } }

/-- A slot whose unidentified binding begins again (R97). -/
def boundAgain (c : SlotContext) : SlotContext := waitsFor .bind .auto { c with bindingState := .pendingId }

/-- A slot once the release has treated it (R97). -/
def atRelease (allowance : Nat) (c : SlotContext) : SlotContext :=
  match c.seat with
  | .empty =>
    if c.bindingState = .noCartridge then c
    else mergeStatus allowance none 0 0x0001 { c with bindingState := .noCartridge, record := .starting }
  | .seated =>
    match c.bindingState with
    | .noCartridge | .pendingId => boundAgain c
    | .pendingAuth | .verified => provedAgain c
    | .linkLost => if c.record.identity.isSome then provedAgain c else boundAgain c
    | .unverified | .failed | .released => c

/-- The soundness of a binding reads its state and its record. -/
theorem BindingWf.congr {c d : SlotContext} (h : BindingWf c) (hb : d.bindingState = c.bindingState) (hr : d.record = c.record) :
    BindingWf d := by
  obtain ⟨failure, noBinding, unidentified, identified, verified, evaluated, acknowledged, notAbove, stored⟩ := h
  rw [← hb] at failure noBinding unidentified identified verified
  rw [← hr] at failure noBinding unidentified identified verified evaluated acknowledged notAbove stored
  exact ⟨failure, noBinding, unidentified, identified, verified, evaluated, acknowledged, notAbove, stored⟩

theorem BindingWf.noFailure {c : SlotContext} (h : BindingWf c) (hf : c.bindingState ≠ .failed) : c.record.failure = none := by
  have hfail := h.failure
  rw [decide_eq_false hf] at hfail
  exact Option.not_isSome_iff_eq_none.mp (by simp [hfail])

theorem BindingWf.record_noFailure {c : SlotContext} (h : BindingWf c) (hf : c.bindingState ≠ .failed) :
    { c.record with failure := none } = c.record := by
  rw [← h.noFailure hf]

theorem SlotIdle.rebound {c : SlotContext} (h : SlotIdle c) (b : BindingState) (r : BindingRecord) :
    SlotIdle { c with bindingState := b, record := r } :=
  ⟨h.current, h.queue, h.attempt, h.supply, h.timers⟩

/-- An AUTO operation asked for at an idle slot just written waits for the supply (R80, R103). -/
theorem askAuto_placed {n : Slot} {kind : OpKind} {c : SlotContext} {s : State} (hidle : SlotIdle c) (hm : MeetsCondition kind c)
    (hk : kind = .bind ∨ kind = .verify) (hkey : kind = .verify → s.keyPresent = true) :
    askAuto n kind (s.setSlot n c) = s.setSlot n (waitsFor kind .auto (readied kind c)) := by
  have hslot : (s.setSlot n c).slot n = c := State.slot_setSlot_self n c s
  rw [askAuto_waits (by rw [hslot]; exact hidle.current) (by rw [hslot]; exact hidle.queue)
    (by rw [hslot]; exact hidle.supply) (by rw [hslot]; exact hm) hk (by exact hkey), hslot, State.setSlot_setSlot]

section Release
variable {n : Slot} {s : State} (hidle : SlotIdle (s.slot n)) (hw : BindingWf (s.slot n))
include hidle hw

/-- The binding is proved again where there is a key (R97). -/
theorem reprove_eq (hf : (s.slot n).bindingState ≠ .failed) (hi : (s.slot n).record.identity ≠ none)
    (hkey : s.keyPresent = true) : reprove n s = s.setSlot n (provedAgain (s.slot n)) := by
  have hentered : setBinding n .pendingAuth none
      (s.modSlot n fun c => { c with record := { c.record with unverifiedUnits := 0 } }) = s.setSlot n
        { s.slot n with bindingState := .pendingAuth, record := { (s.slot n).record with unverifiedUnits := 0 } } := by
    rw [← hw.record_noFailure hf]
    unfold setBinding
    rw [modSlot_eq, modSlot_eq, State.slot_setSlot_self, State.setSlot_setSlot]
    rfl
  unfold reprove
  rw [hentered, askAuto_placed (hidle.rebound _ _) (by simp [MeetsCondition, hi]) (.inr rfl) fun _ => hkey]
  rfl

omit hw in
/-- The BIND of an unidentified binding is asked for (R97). -/
theorem askBind_eq : askAuto n .bind (s.setSlot n { s.slot n with bindingState := .pendingId }) =
    s.setSlot n (boundAgain (s.slot n)) := by
  rw [askAuto_placed (hidle.rebound _ _) (by simp [MeetsCondition]) (.inl rfl) nofun]
  simp [readied, boundAgain]

omit hidle hw in
theorem atRelease_empty {c : SlotContext} (allowance : Nat) (hseat : c.seat = .empty) :
    atRelease allowance c = if c.bindingState = .noCartridge then c
      else mergeStatus allowance none 0 0x0001 { c with bindingState := .noCartridge, record := .starting } := by
  unfold atRelease
  rw [hseat]

/-- A seat found empty ends the binding; a slot without one stays (R97). -/
theorem releaseSlot_empty (hseat : (s.slot n).seat = .empty) :
    releaseSlot n s = (s.bindingEnds n (s.slot n)).setSlot n (atRelease s.policy.allowance (s.slot n)) := by
  rw [atRelease_empty _ hseat]
  by_cases hb : (s.slot n).bindingState = .noCartridge
  · have hstays : releaseSlot n s = s := by
      rw [releaseSlot, hseat, hb]
    rw [hstays, if_pos hb, State.bindingEnds, if_pos (Or.inl hb), State.setSlot_slot]
  · have hends : releaseSlot n s = endByEmptySeat n s := by
      rw [releaseSlot, hseat]
      cases hb' : (s.slot n).bindingState with
      | noCartridge => exact absurd hb' hb
      | _ => rfl
    rw [hends, endByEmptySeat_eq hidle hw.isEvaluated hb, if_neg hb]

/-- A seated slot begins, or is proved again, or stays (R97). -/
theorem releaseSlot_seated (hseat : (s.slot n).seat = .seated) (hkey : (s.slot n).bindingState = .pendingAuth ∨
      (s.slot n).bindingState = .verified ∨ ((s.slot n).bindingState = .linkLost ∧ (s.slot n).record.identity ≠ none) →
      s.keyPresent = true) :
    releaseSlot n s = s.setSlot n (atRelease s.policy.allowance (s.slot n)) := by
  rw [releaseSlot, atRelease, hseat]
  cases hb : (s.slot n).bindingState with
  | noCartridge =>
    have hbegins : bindAuto n s = askAuto n .bind (s.setSlot n { s.slot n with bindingState := .pendingId }) := by
      unfold bindAuto
      rw [modSlot_eq, beginBinding, ← hw.noBinding hb]
    exact hbegins.trans (askBind_eq hidle)
  | pendingId =>
    have hslot : { s.slot n with bindingState := .pendingId } = s.slot n := by rw [← hb]
    have hbegun := askBind_eq hidle
    rw [hslot, State.setSlot_slot] at hbegun
    exact hbegun
  | pendingAuth => exact reprove_eq hidle hw (by simp [hb]) (hw.identified (.inl hb)) (hkey (.inl hb))
  | verified =>
    exact reprove_eq hidle hw (by simp [hb]) (hw.evaluated (hw.verified hb).1) (hkey (.inr (.inl hb)))
  | linkLost =>
    dsimp only
    split
    · next hi =>
      have hident := Option.isSome_iff_ne_none.mp hi
      exact reprove_eq hidle hw (by simp [hb]) hident (hkey (.inr (.inr ⟨hb, hident⟩)))
    · have hentered : setBinding n .pendingId none s = s.setSlot n { s.slot n with bindingState := .pendingId } :=
        congrArg (fun r => s.setSlot n { s.slot n with bindingState := .pendingId, record := r })
          (hw.record_noFailure (by simp [hb]))
      rw [hentered]
      exact askBind_eq hidle
  | unverified | failed | released => exact (State.setSlot_slot n s).symm

end Release

/-! ### All slots at the release, and the held commit -/

/-- The bindings that rest on a proof stand only where there is a key (R106, R122). -/
theorem ProofWf.keyPresent {s : State} (h : ProofWf s) (n : Slot) (hb : (s.slot n).bindingState = .pendingAuth ∨
      (s.slot n).bindingState = .verified ∨ ((s.slot n).bindingState = .linkLost ∧ (s.slot n).record.identity ≠ none)) :
    s.keyPresent = true := by
  by_contra hkey
  obtain ⟨hauth, hver, hlost⟩ := h.states (Bool.eq_false_iff.mpr hkey) n
  rcases hb with hb | hb | ⟨hb, hi⟩
  · exact hauth hb
  · exact hver hb
  · exact hi (hlost hb)

/-- The end of slot n's binding where its seat is found empty (R97). -/
def endsAtRelease (s : State) (n : Slot) (v : State) : State :=
  if (s.slot n).rawSeat = .empty ∧ s.restoring = false then v.bindingEnds n (s.slot n) else v

theorem endsAtRelease_setSlot (s : State) (n m : Slot) (c : SlotContext) (v : State) :
    endsAtRelease s n (v.setSlot m c) = (endsAtRelease s n v).setSlot m c := by
  unfold endsAtRelease
  split
  · exact bindingEnds_setSlot n m _ c v
  · rfl

theorem traceWork_endsAtRelease (s : State) (n : Slot) (v : State) : TraceWork v (endsAtRelease s n v) := by
  unfold endsAtRelease
  split
  · exact traceWork_bindingEnds n _ v
  · exact .refl v

/-- The state at the release before the slots and the held commit (R97). -/
def seatsRead (s : State) : State := { s.mapSlots readSeat with resetAsserted := false }

theorem treatsEach_releaseSlot {s : State} (hr : s.restoring = false) (hidle : ∀ n, SlotIdle (s.slot n))
    (hb : ∀ n, BindingWf (s.slot n)) (hp : ProofWf s) :
    TreatsEach (fun u => u.policy = s.policy ∧ u.keyPresent = s.keyPresent) releaseSlot (endsAtRelease s)
      (fun n => atRelease s.policy.allowance (readSeat (s.slot n))) (seatsRead s) where
  treated n u hu hslot := by
    obtain ⟨hpolicy, hkey⟩ := hu
    have hread : u.slot n = readSeat (s.slot n) := hslot.trans (State.slot_mapSlots n readSeat s)
    have hidle' : SlotIdle (u.slot n) := by
      rw [hread]
      exact ⟨(hidle n).current, (hidle n).queue, (hidle n).attempt, (hidle n).supply, (hidle n).timers⟩
    have hb' : BindingWf (u.slot n) := by
      rw [hread]
      exact (hb n).congr rfl rfl
    unfold endsAtRelease
    cases hseat : (s.slot n).rawSeat with
    | empty =>
      rw [if_pos ⟨rfl, hr⟩, releaseSlot_empty hidle' hb' (by rw [hread]; exact hseat), hread, hpolicy]
      rfl
    | seated =>
      rw [if_neg (by simp), releaseSlot_seated hidle' hb' (by rw [hread]; exact hseat)
        (by rw [hread, hkey]; exact hp.keyPresent n), hread, hpolicy]
  blind n := blind_of_setSlot fun m c u => endsAtRelease_setSlot s n m c u
  keeps n u c hu := by
    have hwork := traceWork_endsAtRelease s n u
    refine ⟨?_, ?_⟩
    · rw [State.setSlot_policy, hwork.frame]
      exact hu.1
    · rw [← hu.2, State.keyPresent, State.setSlot_key, hwork.frame]
      rfl

/-- An UNVERIFIED slot as the key's commit finds it and asks for its AUTO VERIFY (R124). -/
def askedVerify (c : SlotContext) : SlotContext :=
  if c.bindingState = .unverified then waitsFor .verify .auto { c with record := { c.record with sinceVerify := 0 } } else c

theorem askedVerify_of_ne {c : SlotContext} (h : c.bindingState ≠ .unverified) : askedVerify c = c := if_neg h

theorem askUnverified_eq {n : Slot} {s : State} (hkey : s.keyPresent = true)
    (h : (s.slot n).bindingState = .unverified → SlotIdle (s.slot n) ∧ (s.slot n).record.identity ≠ none) :
    askUnverified n s = s.setSlot n (askedVerify (s.slot n)) := by
  unfold askUnverified askedVerify
  split
  · next hb =>
    obtain ⟨hidle, hi⟩ := h hb
    exact askAuto_waits hidle.current hidle.queue hidle.supply (by simp [MeetsCondition, hb, hi]) (.inr rfl) fun _ => hkey
  · exact (State.setSlot_slot n s).symm

theorem treatsEach_askUnverified {s : State}
    (h : ∀ n, (s.slot n).bindingState = .unverified → SlotIdle (s.slot n) ∧ (s.slot n).record.identity ≠ none) :
    TreatsEach (fun u => u.keyPresent = true) askUnverified (fun _ u => u) (fun n => askedVerify (s.slot n)) s where
  treated n u hkey hslot := by
    rw [askUnverified_eq hkey (by rw [hslot]; exact h n), hslot]
  blind _ _ _ := rfl
  keeps _ _ _ hkey := hkey

/-- A slot that the release leaves UNVERIFIED is left as it was (R97). -/
theorem atRelease_unverified {allowance : Nat} {c : SlotContext} (h : (atRelease allowance c).bindingState = .unverified) :
    atRelease allowance c = c := by
  cases hseat : c.seat with
  | empty =>
    rw [atRelease_empty _ hseat] at h ⊢
    split at h
    · next hb => exact if_pos hb
    · exact absurd ((mergeStatus_bindingState ..).symm.trans h) nofun
  | seated =>
    rw [atRelease, hseat] at h ⊢
    cases hb : c.bindingState with
    | unverified | failed | released => rfl
    | noCartridge | pendingId | pendingAuth | verified =>
      rw [hb] at h
      exact absurd h nofun
    | linkLost =>
      rw [hb] at h
      dsimp only at h
      split at h <;> exact absurd h nofun

/-- A slot once the release has treated it and a held commit of the key, where there is one, has asked for its VERIFY. -/
def afterRelease (held : Bool) (allowance : Nat) (c : SlotContext) : SlotContext :=
  if held then askedVerify (atRelease allowance c) else atRelease allowance c

theorem takeHeldFailure_eq {t : State} (h : t.resetAsserted = false) :
    takeHeldFailure t = { t with
      store := { t.store with heldFailure := false },
      agent := { t.agent with
        sticky := t.agent.sticky ||| (if t.store.heldFailure then Condition.mask .storeWriteFail else 0) } } := by
  unfold takeHeldFailure
  split
  · simp [State.raise, h]
  · next hheld => simp [← Bool.eq_false_iff.mpr hheld]

theorem takeHeldRestore_eq {t : State} (h : t.resetAsserted = false) :
    takeHeldRestore t = { t with
      restoreEndedInReset := false,
      agent := { t.agent with
        sticky := t.agent.sticky |||
          (if t.restoreEndedInReset = true ∧ 0 < t.store.invalidCount then Condition.mask .restoreInvalid else 0) } } := by
  unfold takeHeldRestore
  split
  · next hended =>
    rw [raiseRestoreInvalid_eq h]
    simp [hended]
  · next hended =>
    rw [if_neg fun h => hended h.1, ← Bool.eq_false_iff.mpr hended]
    simp

/-- The conditions and flags that the end of the assertion leaves for its release (R180, R181, R194). -/
theorem takeHeld_eq {t : State} (h : t.resetAsserted = false) :
    takeHeldRestore (takeHeldFailure t) = { t with
      restoreEndedInReset := false, store := { t.store with heldFailure := false },
      agent := { t.agent with
        sticky := t.agent.sticky ||| (if t.store.heldFailure then Condition.mask .storeWriteFail else 0) |||
          (if t.restoreEndedInReset = true ∧ 0 < t.store.invalidCount then Condition.mask .restoreInvalid else 0) } } := by
  rw [takeHeldFailure_eq h, takeHeldRestore_eq (by exact h)]

/-- The state of the slots and the key once the release has treated them (R97, R181): `u` is the part with the ended bindings
recorded, `v` its slots, `k` its key. -/
structure Released (s u : State) (v : Vector SlotContext 8) (k : KeyState) : Prop where
  eq : releaseReset s = takeHeldRestore (takeHeldFailure { u.withSlots v with key := k, keyCommitHeld := false })
  key : s.keyCommitHeld = false → k = s.key
  committed : ∀ root, s.keyCommitHeld = true → s.store.keyForm = .valid root → k = .present root
  restoring : s.restoring = true → ∀ n : Slot, v[n] = readSeat (s.slot n)
  running : s.restoring = false → ∀ n : Slot, v[n] = afterRelease s.keyCommitHeld s.policy.allowance (readSeat (s.slot n))

theorem releaseReset_eq {s : State} (hp : s.powered = true) (ha : s.resetAsserted = true) :
    releaseReset s = takeHeldRestore (takeHeldFailure (takeHeldCommit
      (if s.restoring then seatsRead s else overSlots releaseSlot (seatsRead s)))) := if_pos ⟨hp, ha⟩

theorem released_restoring {s : State} (hp : s.powered = true) (ha : s.resetAsserted = true) (hr : s.restoring = true)
    (hk : KeyWf s) : Released s (overSlots (endsAtRelease s) { s with resetAsserted := false }) (seatsRead s).slots s.key := by
  have hheld : s.keyCommitHeld = false := (hk.absent (hk.unsettled (.inr hr))).2
  have hends : endsAtRelease s = fun _ u => u := by
    funext n u
    exact if_neg (by simp [hr])
  have hkept : takeHeldCommit (seatsRead s) = seatsRead s := if_neg (by rw [Bool.not_eq_true]; exact hheld)
  refine ⟨?_, fun _ => rfl, fun _ h => absurd h (by simp [hheld]), fun _ n => State.slot_mapSlots n readSeat s,
    fun h => absurd h (by simp [hr])⟩
  have hflag : { seatsRead s with keyCommitHeld := false } = seatsRead s := by
    rw [← hheld]
    rfl
  rw [releaseReset_eq hp ha, if_pos hr, hkept, hends, overSlots_id]
  exact congrArg (fun t => takeHeldRestore (takeHeldFailure t)) hflag.symm

/-- A commit of the key that was held is taken (R124, R181). -/
theorem takeHeldCommit_eq {t : State} {root : RootKey} (hheld : t.keyCommitHeld = true) (hform : t.store.keyForm = .valid root) :
    takeHeldCommit t = { keyCommitted root t with keyCommitHeld := false } := by
  unfold takeHeldCommit
  rw [if_pos hheld, hform]

/-- Treatments blind to the slots are blind to them one after the other. -/
theorem State.withSlots_withSlots (v w : Vector SlotContext 8) (u : State) : (u.withSlots v).withSlots w = u.withSlots w := rfl

theorem overSlots_withSlots {g : Slot → State → State} (h : ∀ n u v, g n (u.withSlots v) = (g n u).withSlots v) (u : State)
    (v : Vector SlotContext 8) : overSlots g (u.withSlots v) = (overSlots g u).withSlots v :=
  List.foldl_hom (fun t : State => t.withSlots v) fun t n => h n t v

theorem KeyWf.held {s : State} (h : KeyWf s) (hheld : s.keyCommitHeld = true) : ∃ root, s.store.keyForm = .valid root := by
  cases hkey : s.key with
  | present k => exact absurd (h.present k hkey).2.2 (by simp [hheld])
  | absent => exact absurd (h.absent hkey).2 (by simp [hheld])
  | provisioning =>
    rcases h.provisioning hkey with ⟨-, hfree⟩ | ⟨-, -, -, hform⟩
    · exact absurd hfree (by simp [hheld])
    · exact hform

/-- The release treats the slots while the ends of bindings are recorded as from the slots at the assertion (R97). -/
theorem overSlots_releaseSlot {s : State} (hr : s.restoring = false) (hidle : ∀ n, SlotIdle (s.slot n))
    (hb : ∀ n, BindingWf (s.slot n)) (hp : ProofWf s) :
    ∃ v : Vector SlotContext 8,
      overSlots releaseSlot (seatsRead s) = (overSlots (endsAtRelease s) { s with resetAsserted := false }).withSlots v ∧
        ∀ n : Slot, v[n] = atRelease s.policy.allowance (readSeat (s.slot n)) := by
  have htreats := treatsEach_releaseSlot hr hidle hb hp
  obtain ⟨hslots, hrest⟩ := htreats.overSlots_eq ⟨rfl, rfl⟩
  have hseats : seatsRead s = ({ s with resetAsserted := false } : State).withSlots (seatsRead s).slots := rfl
  have hread := (congrArg (overSlots (endsAtRelease s)) hseats).trans
    (overSlots_withSlots htreats.blind { s with resetAsserted := false } (seatsRead s).slots)
  exact ⟨(overSlots releaseSlot (seatsRead s)).slots,
    hrest.trans ((congrArg (State.withSlots _) hread).trans (State.withSlots_withSlots _ _ _)), hslots⟩

theorem released_running {s : State} (hp : s.powered = true) (ha : s.resetAsserted = true) (hr : s.restoring = false)
    (hk : KeyWf s) (hw : SlotsWf s) (hproof : ProofWf s) :
    ∃ v k, Released s (overSlots (endsAtRelease s) { s with resetAsserted := false }) v k := by
  have hidle : ∀ n, SlotIdle (s.slot n) := hw.stopped (by simp [State.running, State.alive, ha])
  obtain ⟨v, htreated, hslots⟩ := overSlots_releaseSlot hr hidle hw.binding hproof
  have hwork := traceWork_overSlots (traceWork_endsAtRelease s) { s with resetAsserted := false }
  have hreleased := releaseReset_eq hp ha
  rw [hr, if_neg nofun, htreated] at hreleased
  generalize overSlots (endsAtRelease s) { s with resetAsserted := false } = u at hwork hreleased ⊢
  have hkey : u.key = s.key := by rw [hwork.frame]
  have hflag : u.keyCommitHeld = s.keyCommitHeld := by rw [hwork.frame]
  have hform : u.store.keyForm = s.store.keyForm := by rw [hwork.store]
  cases hheld : s.keyCommitHeld with
  | false =>
    have hkept : takeHeldCommit (u.withSlots v) = u.withSlots v :=
      if_neg (by rw [Bool.not_eq_true]; exact hflag.trans hheld)
    have hsame : { u.withSlots v with key := s.key, keyCommitHeld := false } = u.withSlots v := by
      rw [← hheld, ← hflag, ← hkey]
      rfl
    refine ⟨v, s.key, ?_, fun _ => rfl, fun _ h => absurd h (by simp [hheld]), fun h => absurd h (by simp [hr]), fun _ n => ?_⟩
    · rw [hreleased, hkept, hsame]
    · rw [hslots, hheld]
      rfl
  | true =>
    obtain ⟨root, hroot⟩ := hk.held hheld
    have hcommit : takeHeldCommit (u.withSlots v) = { keyCommitted root (u.withSlots v) with keyCommitHeld := false } :=
      takeHeldCommit_eq (hflag.trans hheld) (hform.trans hroot)
    have hasks : ∀ n, (State.slot { u.withSlots v with key := .present root } n).bindingState = .unverified →
        SlotIdle (State.slot { u.withSlots v with key := .present root } n) ∧
          (State.slot { u.withSlots v with key := .present root } n).record.identity ≠ none := fun n hb => by
      have hslot : State.slot { u.withSlots v with key := .present root } n =
          atRelease s.policy.allowance (readSeat (s.slot n)) := hslots n
      rw [hslot] at hb ⊢
      have hstays := atRelease_unverified hb
      rw [hstays] at hb ⊢
      exact ⟨⟨(hidle n).current, (hidle n).queue, (hidle n).attempt, (hidle n).supply, (hidle n).timers⟩,
        (hw.binding n).identified (.inr hb)⟩
    obtain ⟨hasked, hrest⟩ := (treatsEach_askUnverified hasks).overSlots_eq rfl
    rw [overSlots_id] at hrest
    refine ⟨(overSlots askUnverified { u.withSlots v with key := .present root }).slots, .present root, ?_,
      fun h => absurd h (by simp [hheld]), fun root' _ h => ?_, fun h => absurd h (by simp [hr]), fun _ n => ?_⟩
    · have htaken := hcommit.trans (congrArg (fun t : State => { t with keyCommitHeld := false }) hrest)
      exact hreleased.trans (congrArg (fun t => takeHeldRestore (takeHeldFailure t)) htaken)
    · rw [hroot] at h
      rw [Stored.valid.inj h]
    · rw [hheld]
      exact (hasked n).trans (congrArg askedVerify (hslots n))

/-- The state after the release, whole (R97, R180, R181). -/
def afterState (s u : State) (v : Vector SlotContext 8) (k : KeyState) : State :=
  { s with
    resetAsserted := false, restoreEndedInReset := false, keyCommitHeld := false, slots := v, key := k,
    refill := u.refill, store := { u.store with heldFailure := false },
    agent := { u.agent with
      sticky := u.agent.sticky ||| (if s.store.heldFailure then Condition.mask .storeWriteFail else 0) |||
        (if s.restoreEndedInReset = true ∧ 0 < s.store.invalidCount then Condition.mask .restoreInvalid else 0) } }

section After
variable {s u : State} {v : Vector SlotContext 8} {k : KeyState} (hwork : TraceWork { s with resetAsserted := false } u)
include hwork

theorem Released.releaseReset_eq (h : Released s u v k) : releaseReset s = afterState s u v k := by
  obtain ⟨hframe, hstore, -⟩ := hwork
  have hheld : u.store.heldFailure = s.store.heldFailure := by rw [hstore]
  have hcount : u.store.invalidCount = s.store.invalidCount := by rw [hstore]
  have hended : u.restoreEndedInReset = s.restoreEndedInReset := by rw [hframe]
  rw [h.eq, takeHeld_eq (by exact (congrArg State.resetAsserted hframe :)), afterState, ← hheld, ← hcount, ← hended]
  exact congrArg (fun w : State => { w with
    restoreEndedInReset := false, keyCommitHeld := false, slots := v, key := k, refill := u.refill,
    store := { u.store with heldFailure := false },
    agent := { u.agent with
      sticky := u.agent.sticky ||| (if u.store.heldFailure then Condition.mask .storeWriteFail else 0) |||
        (if u.restoreEndedInReset = true ∧ 0 < u.store.invalidCount then Condition.mask .restoreInvalid else 0) } }) hframe

/-- KEY_ABSENT follows the key once RESTORING has ended (R126, R189). -/
theorem afterState_keyAbsent (hp : s.powered = true) :
    (afterState s u v k).holds .keyAbsent = true ↔
      s.agent.sticky.getLsbD 11 = true ∨ (s.restoring = false ∧ (afterState s u v k).keyPresent = false) := by
  have hsticky : (afterState s u v k).agent.sticky.getLsbD 11 = s.agent.sticky.getLsbD 11 := by
    have hfail : (if s.store.heldFailure then Condition.mask .storeWriteFail else 0 : Word32).getLsbD 11 = false := by
      split <;> rfl
    have hinvalid : (if s.restoreEndedInReset = true ∧ 0 < s.store.invalidCount then Condition.mask .restoreInvalid
        else 0 : Word32).getLsbD 11 = false := by
      split <;> rfl
    simp only [afterState, BitVec.getLsbD_or, hfail, hinvalid, Bool.or_false]
    exact hwork.sticky 11 (by decide)
  have hrunning : (afterState s u v k).running = true ↔ s.restoring = false := by
    simp [State.running, State.alive, afterState, hp]
  unfold State.holds
  rw [getLsbD_conditionVector, hrunning, show Condition.keyAbsent.bit = 11 from rfl, hsticky]
  simp

end After

/-! ### The slots after the release, by seat and binding state -/

section Cases
variable {held : Bool} {allowance : Nat} {c : SlotContext}

theorem afterRelease_of_ne {d : SlotContext} (h : atRelease allowance c = d) (hd : d.bindingState ≠ .unverified) :
    afterRelease held allowance c = d := by
  unfold afterRelease
  rw [h, askedVerify_of_ne hd, ite_self]

theorem atRelease_binds (hseat : c.seat = .seated) (hb : c.bindingState = .noCartridge ∨ c.bindingState = .pendingId ∨
    (c.bindingState = .linkLost ∧ c.record.identity = none)) : atRelease allowance c = boundAgain c := by
  unfold atRelease
  rw [hseat]
  rcases hb with hb | hb | ⟨hb, hi⟩ <;> rw [hb]
  simp [hi]

theorem atRelease_proves (hseat : c.seat = .seated) (hb : c.bindingState = .pendingAuth ∨ c.bindingState = .verified ∨
    (c.bindingState = .linkLost ∧ c.record.identity ≠ none)) : atRelease allowance c = provedAgain c := by
  unfold atRelease
  rw [hseat]
  rcases hb with hb | hb | ⟨hb, hi⟩ <;> rw [hb]
  simp [Option.isSome_iff_ne_none, hi]

theorem atRelease_stays (hseat : c.seat = .seated) (hb : c.bindingState = .unverified ∨ c.bindingState = .failed ∨
    c.bindingState = .released) : atRelease allowance c = c := by
  unfold atRelease
  rw [hseat]
  rcases hb with hb | hb | hb <;> rw [hb]

theorem afterRelease_unverified (hseat : c.seat = .seated) (hb : c.bindingState = .unverified) :
    afterRelease held allowance c =
      if held then waitsFor .verify .auto { c with record := { c.record with sinceVerify := 0 } } else c := by
  unfold afterRelease
  rw [atRelease_stays hseat (.inl hb), askedVerify, if_pos hb]

end Cases

/-- Settles O9: the release treats each slot by its seat and binding, and takes over what the assertion held. -/
theorem pinResetReleased : Obligations.PinResetReleased := by
  intro s u hp ha hk hw hproof hu
  have hreleased : ∃ v k, Released s u v k := by
    rw [hu]
    rcases Bool.eq_false_or_eq_true s.restoring with hr | hr
    · exact ⟨_, _, released_restoring hp ha hr hk⟩
    · exact released_running hp ha hr hk hw hproof
  have hwork : TraceWork { s with resetAsserted := false } u := by
    rw [hu]
    exact traceWork_overSlots (traceWork_endsAtRelease s) _
  clear hu
  obtain ⟨v, k, h⟩ := hreleased
  refine ⟨afterState s u v k, congrArg Host.Outcome.next (h.releaseReset_eq hwork), rfl, h.key, h.committed,
    afterState_keyAbsent hwork hp, h.restoring, fun hr n c hc => ?_⟩
  have hslot : (afterState s u v k).slot n = afterRelease s.keyCommitHeld s.policy.allowance c := by
    rw [hc]
    exact h.running hr n
  rw [hslot]
  refine ⟨fun hseat hb => afterRelease_of_ne ?_ (by simp [hb]), fun hseat hb => afterRelease_of_ne ?_ (by simp),
    fun hseat hb => afterRelease_of_ne (atRelease_binds hseat hb) nofun,
    fun hseat hb => afterRelease_of_ne (atRelease_proves hseat hb) nofun, afterRelease_unverified,
    fun hseat hb => afterRelease_of_ne (atRelease_stays hseat (.inr hb)) (by rcases hb with hb | hb <;> simp [hb])⟩
  · rw [atRelease_empty _ hseat, if_pos hb]
  · rw [atRelease_empty _ hseat, if_neg hb]

end Sys2Proof.Machine
end

section
/-! What a command does to the slots, said once for every command: a walk of steps, or the end of an attempt (for O56, O57 and
O60). -/

namespace Sys2Proof.Machine

/-! ### States with slots alike -/

/-- Two contexts of a slot that agree in operation, supply, timers, attempt, binding and configuration. -/
def SlotAlike (c d : SlotContext) : Prop :=
  d = { c with
    rawSeat := d.rawSeat, seat := d.seat, debounce := d.debounce, failedAttempts := d.failedAttempts, status := d.status,
    orphanResidue := d.orphanResidue, orphanCount := d.orphanCount, swathCredited := d.swathCredited,
    swathOrphaned := d.swathOrphaned }

theorem SlotAlike.refl (c : SlotContext) : SlotAlike c c := rfl

theorem SlotAlike.trans {c d e : SlotContext} (h : SlotAlike c d) (g : SlotAlike d e) : SlotAlike c e := by
  rw [SlotAlike] at h g ⊢
  rw [g, h]

/-- Two states that agree in what the slots' agreement with themselves is read from. -/
structure SlotsAlike (s t : State) : Prop where
  powered : t.powered = s.powered
  restoring : t.restoring = s.restoring
  resetAsserted : t.resetAsserted = s.resetAsserted
  checkpoints : t.refill.checkpoints = s.refill.checkpoints
  spent : t.spentNonces = s.spentNonces
  slots : ∀ n, SlotAlike (s.slot n) (t.slot n)

theorem SlotsAlike.refl (s : State) : SlotsAlike s s := ⟨rfl, rfl, rfl, rfl, rfl, fun _ => .refl _⟩

theorem SlotsAlike.trans {s t u : State} (h : SlotsAlike s t) (g : SlotsAlike t u) : SlotsAlike s u :=
  ⟨g.powered.trans h.powered, g.restoring.trans h.restoring, g.resetAsserted.trans h.resetAsserted,
    g.checkpoints.trans h.checkpoints, g.spent.trans h.spent, fun n => (h.slots n).trans (g.slots n)⟩

theorem SlotsAlike.running {s t : State} (h : SlotsAlike s t) : t.running = s.running := by
  rw [State.running, State.alive, h.powered, h.restoring, h.resetAsserted]
  rfl

theorem SlotsAlike.modSlot {n : Slot} {f : SlotContext → SlotContext} {s : State} (h : SlotAlike (s.slot n) (f (s.slot n))) :
    SlotsAlike s (s.modSlot n f) := by
  refine ⟨rfl, rfl, rfl, rfl, rfl, fun m => ?_⟩
  by_cases hm : m = n
  · rw [hm, State.slot_modSlot_self]
    exact h
  · rw [State.slot_modSlot_ne hm]
    exact .refl _

theorem slotsAlike_raise (c : Condition) (s : State) : SlotsAlike s (s.raise c) := by
  rw [State.raise_frame]
  exact ⟨rfl, rfl, rfl, rfl, rfl, fun _ => rfl⟩

theorem slotsAlike_commit (w : Write) (s : State) : SlotsAlike s (commit w s) := by
  rw [commit_frame]
  exact ⟨rfl, rfl, rfl, rfl, rfl, fun _ => rfl⟩

theorem slotsAlike_openSwath (s : State) : SlotsAlike s (openSwath s) :=
  ⟨rfl, rfl, rfl, rfl, rfl, fun n => by rw [openSwath_slot]; rfl⟩

theorem slotsAlike_waitTest (s : State) : SlotsAlike s (waitTest s) := by
  rcases waitTest_spec s with ⟨h, -⟩ | ⟨-, -, -, h⟩ | ⟨-, -, -, h⟩ <;> rw [h]
  · exact .refl s
  · exact slotsAlike_openSwath s
  · exact ⟨rfl, rfl, rfl, rfl, rfl, fun _ => rfl⟩

theorem slotsAlike_queueReply (f : ReturnFrame) (s : State) : SlotsAlike s (queueReply f s) :=
  ⟨rfl, rfl, rfl, rfl, rfl, fun _ => rfl⟩

theorem slotsAlike_consumed (seq : Byte) (s : State) : SlotsAlike s (s.consumed seq) := ⟨rfl, rfl, rfl, rfl, rfl, fun _ => rfl⟩

theorem slotsAlike_discarded (c : Condition) (s : State) : SlotsAlike s (s.discarded c) :=
  ⟨rfl, rfl, rfl, rfl, rfl, fun _ => rfl⟩

theorem slotsAlike_checkLimit (x : ThermalInput) (s : State) : SlotsAlike s (checkLimit x s) := by
  unfold checkLimit
  split
  · exact slotsAlike_raise _ s
  · exact .refl s

/-! ### The steps -/

/-- A record that has been credited or judged, or whose status has been merged: who the binding is, U_bind, the acknowledged count
and the proof stay, and what it has metered does not fall. -/
structure Touched (c d : SlotContext) : Prop where
  frame : d = { c with record := d.record, status := d.status, swathCredited := d.swathCredited }
  identity : d.record.identity = c.record.identity
  uBind : d.record.uBind = c.record.uBind
  lastWritten : d.record.lastWritten = c.record.lastWritten
  metered : min c.record.metered 4294967295 ≤ d.record.metered
  verifiedOnce : d.record.verifiedOnce = c.record.verifiedOnce
  failure : d.record.failure = c.record.failure
  unbound : c.bindingState = .noCartridge → c.record = .starting → d.record = .starting

/-- One piece of work on the slots, apart from what ends an attempt. -/
inductive SlotStep : State → State → Prop
  | alike {s t : State} (h : SlotsAlike s t) : SlotStep s t
  | joined {s : State} (n : Slot) (kind : OpKind) (origin : Origin) (ha : s.resetAsserted = false)
      (hm : mayJoin kind (s.slot n) = true) : SlotStep s (joinOp n kind origin s)
  | halted {s : State} (n : Slot) (hr : s.running = true) : SlotStep s (haltedState n s)
  | configured {s : State} (n : Slot) (cfg : SlotConfig) (hr : s.running = true) (hidle : cfg.idle = (s.slot n).config.idle) :
      SlotStep s (s.setSlot n { s.slot n with config := cfg })
  | reconfigured {s : State} (n : Slot) (cfg : SlotConfig) (hr : s.running = true) :
      SlotStep s (s.setSlot n (restartIdle { s.slot n with config := cfg }))
  | touched {s : State} (n : Slot) (d : SlotContext) (h : Touched (s.slot n) d) : SlotStep s (s.setSlot n d)
  | begun {s : State} (n : Slot) (hr : s.running = true) (hb : (s.slot n).bindingState = .noCartridge) :
      SlotStep s (s.setSlot n (beginBinding (s.slot n)))
  | removed {s : State} (n : Slot) (hr : s.running = true) (hb : (s.slot n).bindingState ≠ .noCartridge) :
      SlotStep s (removeCartridge n s)
  | settled {s : State} (n : Slot) (ha : s.alive = true) (hs : (s.slot n).supply = .settling)
      (ht : (s.slot n).settleTimer ≠ none) : SlotStep s (expireSettle n s)
  | supplyLost {s : State} (n : Slot) (ha : s.alive = true) (hs : (s.slot n).supply = .poweredOn)
      (ht : (s.slot n).idleTimer ≠ none) : SlotStep s (expireIdle n s)
  | restored {s : State} (hp : s.powered = true) (hr : s.restoring = true) : SlotStep s (endRestore s)
  | released {s : State} (hp : s.powered = true) (ha : s.resetAsserted = true) : SlotStep s (releaseReset s)
  | asserted {s : State} : SlotStep s (assertReset s)
  | cleared {s : State} (st : RecordStore) (powered restoring : Bool) :
      SlotStep s { volatileReset st s with powered := powered, restoring := restoring }

/-- Any number of steps, one after the other. -/
abbrev SlotWalk : State → State → Prop := Relation.ReflTransGen SlotStep

theorem SlotWalk.alike {s t : State} (h : SlotsAlike s t) : SlotWalk s t := .single (.alike h)

theorem SlotWalk.thenAlike {s t u : State} (h : SlotWalk s t) (g : SlotsAlike t u) : SlotWalk s u := h.tail (.alike g)

end Sys2Proof.Machine
end

section
/-! What the requests do to the slots. -/

namespace Sys2Proof.Machine

/-! ### Requests that leave the slots alone -/

theorem handleReadSummary_state (args : List Byte) (s : State) : (handleReadSummary args s).state = s := by
  unfold handleReadSummary
  split <;> rfl

theorem handleReadSlot_state (args : List Byte) (s : State) : (handleReadSlot args s).state = s := by
  unfold handleReadSlot
  split <;> rfl

theorem handleReadSlotConfig_state (args : List Byte) (s : State) : (handleReadSlotConfig args s).state = s := by
  unfold handleReadSlotConfig
  split <;> rfl

theorem handleReadLane_state (args : List Byte) (s : State) : (handleReadLane args s).state = s := by
  unfold handleReadLane
  split <;> rfl

theorem handleReadPolicy_state (args : List Byte) (s : State) : (handleReadPolicy args s).state = s := by
  unfold handleReadPolicy
  split <;> rfl

theorem handleReadRetired_state (args : List Byte) (s : State) : (handleReadRetired args s).state = s := by
  unfold handleReadRetired
  split <;> rfl

theorem slotsAlike_handleCollectStatus (args : List Byte) (s : State) : SlotsAlike s (handleCollectStatus args s).state := by
  unfold handleCollectStatus
  split
  · exact .refl s
  · next n _ => exact .modSlot (n := n) (f := fun c => { c with status := none }) rfl

theorem slotsAlike_handleWriteLane (args : List Byte) (s : State) : SlotsAlike s (handleWriteLane args s).state := by
  unfold handleWriteLane
  split
  · exact .refl s
  · next l v _ =>
    have hset : SlotsAlike s (s.setLane l (writeLaneEntry v (s.laneEntry l))) := ⟨rfl, rfl, rfl, rfl, rfl, fun _ => rfl⟩
    split
    · exact .refl s
    · exact hset.trans (slotsAlike_waitTest _)

theorem slotsAlike_handleReadLaneCounters (args : List Byte) (s : State) :
    SlotsAlike s (handleReadLaneCounters args s).state := by
  unfold handleReadLaneCounters
  split
  · exact .refl s
  · next l clear _ =>
    cases clear
    · exact .refl s
    · exact ⟨rfl, rfl, rfl, rfl, rfl, fun _ => rfl⟩

theorem slotsAlike_handleWritePolicy (args : List Byte) (s : State) : SlotsAlike s (handleWritePolicy args s).state := by
  unfold handleWritePolicy
  split
  · exact .refl s
  · next v _ =>
    have hset : SlotsAlike s { s with policy := writePolicyTable v s.policy } := ⟨rfl, rfl, rfl, rfl, rfl, fun _ => rfl⟩
    split
    · exact .refl s
    · exact hset.trans (slotsAlike_waitTest _)

theorem slotsAlike_handleLockPolicy (args : List Byte) (s : State) : SlotsAlike s (handleLockPolicy args s).state := by
  unfold handleLockPolicy
  split
  · exact ⟨rfl, rfl, rfl, rfl, rfl, fun _ => rfl⟩
  · exact .refl s

theorem slotsAlike_handleWriteSequence (args : List Byte) (s : State) : SlotsAlike s (handleWriteSequence args s).state := by
  unfold handleWriteSequence
  split
  · exact .refl s
  · split
    · exact ⟨rfl, rfl, rfl, rfl, rfl, fun _ => rfl⟩
    · exact .refl s

theorem slotsAlike_handleSetSampleMode (args : List Byte) (s : State) : SlotsAlike s (handleSetSampleMode args s).state := by
  unfold handleSetSampleMode
  split
  · exact .refl s
  · exact ⟨rfl, rfl, rfl, rfl, rfl, fun _ => rfl⟩

theorem slotsAlike_handleSampleNext (args : List Byte) (s : State) : SlotsAlike s (handleSampleNext args s).state := by
  have htrigger : SlotsAlike s { s with monitor := s.monitor.pacedTrigger } := ⟨rfl, rfl, rfl, rfl, rfl, fun _ => rfl⟩
  unfold handleSampleNext
  split
  · split
    · dsimp only
      split <;> exact htrigger
    · exact .refl s
  · exact .refl s

theorem slotsAlike_handleSampleInput (args : List Byte) (s : State) : SlotsAlike s (handleSampleInput args s).state := by
  unfold handleSampleInput
  split
  · exact .refl s
  · split <;> exact ⟨rfl, rfl, rfl, rfl, rfl, fun _ => rfl⟩

theorem slotsAlike_handleReadSamples (args : List Byte) (s : State) : SlotsAlike s (handleReadSamples args s).state := by
  unfold handleReadSamples
  split
  · exact .refl s
  · next clear _ =>
    cases clear
    · exact .refl s
    · exact ⟨rfl, rfl, rfl, rfl, rfl, fun _ => rfl⟩

theorem slotsAlike_writeThresholds (t : Option (Vector Nat 7)) (s : State) : SlotsAlike s (writeThresholds t s) := by
  cases t
  · exact .refl s
  · exact ⟨rfl, rfl, rfl, rfl, rfl, fun _ => rfl⟩

theorem slotsAlike_writeLimits (pairs : List (ThermalInput × Nat)) (s : State) : SlotsAlike s (pairs.foldl writeLimit s) := by
  induction pairs generalizing s with
  | nil => exact .refl s
  | cons p pairs ih =>
    have hset : SlotsAlike s { s with monitor := { s.monitor with limits := s.monitor.limits.set p.1 (clamp 1 4096 p.2) } } :=
      ⟨rfl, rfl, rfl, rfl, rfl, fun _ => rfl⟩
    exact (hset.trans (slotsAlike_checkLimit p.1 _)).trans (ih (writeLimit s p))

theorem slotsAlike_handleWriteLimits (args : List Byte) (s : State) : SlotsAlike s (handleWriteLimits args s).state := by
  unfold handleWriteLimits
  split
  · exact .refl s
  · next w _ =>
    split
    · exact slotsAlike_writeThresholds _ s
    · exact ((slotsAlike_writeThresholds w.thresholds s).trans (slotsAlike_writeLimits _ _)).trans (slotsAlike_waitTest _)

theorem slotsAlike_handleForgetRetired (args : List Byte) (s : State) : SlotsAlike s (handleForgetRetired args s).state := by
  unfold handleForgetRetired
  split
  · exact .refl s
  · split
    · exact .refl s
    · split
      · exact .refl s
      · next e _ =>
        have hdrop : SlotsAlike s { s with refill := { s.refill with
            retired := dropSerial e.content.serial s.refill.retired } } := ⟨rfl, rfl, rfl, rfl, rfl, fun _ => rfl⟩
        exact hdrop.trans (slotsAlike_commit _ _)

theorem slotsAlike_handleProvisionKey (args : List Byte) (s : State) : SlotsAlike s (handleProvisionKey args s).state := by
  unfold handleProvisionKey
  split
  · exact .refl s
  · next root _ =>
    split
    · exact .refl s
    · exact .refl s
    · have hwrite : SlotsAlike s (requestWrite (.key root) s).2 := slotsAlike_commit (.key root) s
      dsimp only
      split
      · exact hwrite.trans ⟨rfl, rfl, rfl, rfl, rfl, fun _ => rfl⟩
      · exact hwrite

theorem slotsAlike_handleResumeStream (args : List Byte) (s : State) : SlotsAlike s (handleResumeStream args s).state := by
  have hset : SlotsAlike s { s with port := { s.port with stream := .resumePending } } := ⟨rfl, rfl, rfl, rfl, rfl, fun _ => rfl⟩
  unfold handleResumeStream
  split
  · split
    · exact hset.trans (slotsAlike_waitTest _)
    · exact .refl s
  · exact .refl s

theorem slotsAlike_handleClearConditions (args : List Byte) (s : State) :
    SlotsAlike s (handleClearConditions args s).state := by
  unfold handleClearConditions
  split
  · exact .refl s
  · exact ⟨rfl, rfl, rfl, rfl, rfl, fun _ => rfl⟩

theorem slotsAlike_handleWriteFaultMask (args : List Byte) (s : State) : SlotsAlike s (handleWriteFaultMask args s).state := by
  unfold handleWriteFaultMask
  split
  · exact .refl s
  · exact ⟨rfl, rfl, rfl, rfl, rfl, fun _ => rfl⟩

/-! ### Requests on the slots -/

theorem slotWalk_handleStartOperation (args : List Byte) {s : State} (ha : s.resetAsserted = false) :
    SlotWalk s (handleStartOperation args s).state := by
  unfold handleStartOperation
  split
  · exact .refl
  · next n kind _ =>
    split
    · exact .refl
    · split
      · next hm => exact SlotWalk.thenAlike (.single (.joined n kind .requested ha hm)) (slotsAlike_waitTest _)
      · exact .refl

theorem slotWalk_handleHaltSlot (args : List Byte) {s : State} (hr : s.running = true) :
    SlotWalk s (handleHaltSlot args s).state := by
  unfold handleHaltSlot
  split
  · exact .refl
  · next n _ =>
    rw [haltSlot_state]
    exact SlotWalk.thenAlike (.single (.halted n hr)) (slotsAlike_waitTest _)

/-- A silent judgment touches the record's marks and evidence, and the pending status (R50, R51). -/
theorem touched_judged (b : Bool) (allowance : Nat) (c : SlotContext) :
    Touched c (mergeStatus allowance none 0 (evidenceIf b (judgeSilently c.config) (c.record, 0)).2
      { c with record := (evidenceIf b (judgeSilently c.config) (c.record, 0)).1 }) := by
  cases b with
  | false => exact ⟨rfl, rfl, rfl, rfl, min_le_left _ _, rfl, rfl, fun _ h => (mergeStatus_record ..).trans h⟩
  | true =>
    have hrecord := judgeSilently_frame c.config c.record
    refine ⟨by rw [mergeStatus_frame], ?_, ?_, ?_, ?_, ?_, ?_, fun _ h => ?_⟩ <;> rw [mergeStatus_record]
    · exact (congrArg BindingRecord.identity hrecord :)
    · exact (congrArg BindingRecord.uBind hrecord :)
    · exact (congrArg BindingRecord.lastWritten hrecord :)
    · exact (min_le_left _ _).trans (congrArg BindingRecord.metered hrecord :).ge
    · exact (congrArg BindingRecord.verifiedOnce hrecord :)
    · exact (congrArg BindingRecord.failure hrecord :)
    · exact (congrArg Prod.fst (judgeSilently_none (r := c.record) (by rw [h]; rfl)) :).trans h

theorem slotWalk_handleWriteSlotConfig (args : List Byte) {s : State} (hr : s.running = true) :
    SlotWalk s (handleWriteSlotConfig args s).state := by
  unfold handleWriteSlotConfig
  split
  · exact .refl
  · next n v _ =>
    dsimp only [okWith]
    have hconfig : ∃ c, SlotStep s (s.setSlot n c) ∧ (if (fieldOf v 6).isSome then
        (s.modSlot n fun c => { c with config := writeSlotConfig v (s.slot n).config }).modSlot n restartIdle
        else s.modSlot n fun c => { c with config := writeSlotConfig v (s.slot n).config }) = s.setSlot n c := by
      split
      · refine ⟨_, .reconfigured n (writeSlotConfig v (s.slot n).config) hr, ?_⟩
        rw [modSlot_eq, modSlot_eq, State.slot_setSlot_self, State.setSlot_setSlot]
      · next hf =>
        refine ⟨_, .configured n (writeSlotConfig v (s.slot n).config) hr ?_, rfl⟩
        have hnone : fieldOf v 6 = none := by simpa using hf
        simp [writeSlotConfig, written, hnone]
    obtain ⟨c, hstep, heq⟩ := hconfig
    rw [heq]
    refine (Relation.ReflTransGen.single hstep).tail ?_
    exact .touched n _ (touched_judged _ _ _)

/-- A request's handler walks (R185). -/
theorem slotWalk_of_requestOf {c : Instr} {row : FrameRow} {handle : List Byte → State → Answer}
    (h : requestOf c = some (row, handle)) (args : List Byte) {s : State} (hr : s.running = true) :
    SlotWalk s (handle args s).state := by
  cases c <;> cases h
  case unknownRequest => exact .refl
  case readSummary => rw [handleReadSummary_state]
  case readSlot => rw [handleReadSlot_state]
  case collectStatus => exact .alike (slotsAlike_handleCollectStatus args s)
  case startOperation => exact slotWalk_handleStartOperation args (released_of_running hr)
  case haltSlot => exact slotWalk_handleHaltSlot args hr
  case writeSlotConfig => exact slotWalk_handleWriteSlotConfig args hr
  case readSlotConfig => rw [handleReadSlotConfig_state]
  case writeLane => exact .alike (slotsAlike_handleWriteLane args s)
  case readLane => rw [handleReadLane_state]
  case readLaneCounters => exact .alike (slotsAlike_handleReadLaneCounters args s)
  case writePolicy => exact .alike (slotsAlike_handleWritePolicy args s)
  case readPolicy => rw [handleReadPolicy_state]
  case lockPolicy => exact .alike (slotsAlike_handleLockPolicy args s)
  case writeSequence => exact .alike (slotsAlike_handleWriteSequence args s)
  case setSampleMode => exact .alike (slotsAlike_handleSetSampleMode args s)
  case sampleNext => exact .alike (slotsAlike_handleSampleNext args s)
  case sampleInput => exact .alike (slotsAlike_handleSampleInput args s)
  case readSamples => exact .alike (slotsAlike_handleReadSamples args s)
  case writeLimits => exact .alike (slotsAlike_handleWriteLimits args s)
  case readRetired => rw [handleReadRetired_state]
  case forgetRetired => exact .alike (slotsAlike_handleForgetRetired args s)
  case provisionKey => exact .alike (slotsAlike_handleProvisionKey args s)
  case resumeStream => exact .alike (slotsAlike_handleResumeStream args s)
  case clearConditions => exact .alike (slotsAlike_handleClearConditions args s)
  case writeFaultMask => exact .alike (slotsAlike_handleWriteFaultMask args s)

/-- A request's command walks: it takes its frame, and executes the request or does not (R13, R184). -/
theorem slotWalk_takeRequest {c : Instr} {row : FrameRow} {handle : List Byte → State → Answer}
    (h : requestOf c = some (row, handle)) (s : State) : SlotWalk s (takeRequest row handle s) := by
  rcases takeRequest_cases row handle s with he | ⟨k, -, he⟩ | ⟨seq, he⟩ | ⟨seq, bs, hr, -, he⟩ <;> rw [he]
  · exact .alike (slotsAlike_discarded k s)
  · exact .alike ((slotsAlike_consumed seq s).trans ⟨rfl, rfl, rfl, rfl, rfl, fun _ => rfl⟩)
  · exact SlotWalk.thenAlike ((SlotWalk.alike (slotsAlike_consumed seq s)).trans (slotWalk_of_requestOf h _ hr))
      (slotsAlike_queueReply _ _)

end Sys2Proof.Machine
end

section
/-! What the frames, the events and power and reset do to the slots, and every command at once. -/

namespace Sys2Proof.Machine

/-! ### Credits -/

/-- A credit touches the binding's record, the swath sum and the pending status (R42 to R51). -/
theorem touched_creditSlot (allowance : Nat) (sum : Nat → Nat → Nat) (marked : Bool) (volume : Nat) {c : SlotContext}
    (hc : Charged c) : Touched c (creditSlot allowance sum marked volume c) := by
  have hrecord := creditSlot_counts allowance sum marked volume c
  refine ⟨?_, ?_, ?_, ?_, ?_, ?_, ?_, fun h => absurd h hc.1⟩
  · rw [creditSlot_frame]
  · exact (congrArg BindingRecord.identity hrecord :)
  · exact (congrArg BindingRecord.uBind hrecord :)
  · exact (congrArg BindingRecord.lastWritten hrecord :)
  · rw [hrecord]
    simp only [creditRecord, satAdd32, satAdd, Config.max32]
    generalize (c.record.residue + volume) / Config.qIU = q
    omega
  · exact (congrArg BindingRecord.verifiedOnce hrecord :)
  · exact (congrArg BindingRecord.failure hrecord :)

/-- An AUTO operation joins where it may (R101). -/
theorem slotWalk_askAuto (n : Slot) (kind : OpKind) {s : State} (ha : s.resetAsserted = false) :
    SlotWalk s (askAuto n kind s) := by
  unfold askAuto
  split
  · next hm => exact .single (.joined n kind .auto ha hm)
  · exact .refl

theorem askAuto_resetAsserted (n : Slot) (kind : OpKind) (s : State) : (askAuto n kind s).resetAsserted = s.resetAsserted := by
  rw [(slotWork_askAuto n kind s).frame]

theorem slotWalk_askIfDue (due : SlotContext → Bool) (kind : OpKind) (n : Slot) {s : State} (ha : s.resetAsserted = false) :
    SlotWalk s (askIfDue due kind n s) ∧ (askIfDue due kind n s).resetAsserted = false := by
  unfold askIfDue
  split
  · exact ⟨slotWalk_askAuto n kind ha, (askAuto_resetAsserted n kind s).trans ha⟩
  · exact ⟨.refl, ha⟩

theorem slotWalk_handleReport (r : DropReport) {s : State} (ha : s.resetAsserted = false) : SlotWalk s (handleReport r s) := by
  cases hr : r.slot with
  | none =>
    rw [handleReport_none hr]
    exact .alike ⟨rfl, rfl, rfl, rfl, rfl, fun _ => rfl⟩
  | some n =>
    by_cases hc : Charged (s.slot n)
    · rw [handleReport_credits hr hc]
      obtain ⟨hback, hback'⟩ := slotWalk_askIfDue writeBackDue .writeBack n (s := s.setSlot n
        (creditSlot s.policy.allowance (swathSum s) r.marked (frameVolume s.monitor r) (s.slot n))) ha
      exact (Relation.ReflTransGen.single (.touched n _ (touched_creditSlot _ _ _ _ hc))).trans
        (hback.trans (slotWalk_askIfDue verifyDue .verify n hback').1)
    · rw [handleReport_uncharged hr hc]
      exact .alike (.modSlot rfl)

theorem slotWalk_countFrame (l : Lane) (n1 n2 n3 : Nat) (marked : Bool) {s : State} (ha : s.resetAsserted = false) :
    SlotWalk s (countFrame l n1 n2 n3 marked s) := by
  have hcounters : SlotsAlike s (s.modCounters l (countDrops n1 n2 n3 marked)) := ⟨rfl, rfl, rfl, rfl, rfl, fun _ => rfl⟩
  exact (SlotWalk.alike hcounters).trans (slotWalk_handleReport _ ha)

/-! ### Frames -/

theorem slotsAlike_tracked (seq : Byte) (s : State) : SlotsAlike s (s.tracked seq) := ⟨rfl, rfl, rfl, rfl, rfl, fun _ => rfl⟩

theorem slotsAlike_forward (bs : List Byte) (s : State) : SlotsAlike s (forward bs s) := ⟨rfl, rfl, rfl, rfl, rfl, fun _ => rfl⟩

theorem slotsAlike_closeSwath (unterminated : Bool) (closing : Byte) (s : State) :
    SlotsAlike s (closeSwath unterminated closing s) := by
  obtain ⟨q, w, h⟩ := closeSwath_frame unterminated closing s
  rw [h]
  exact ⟨rfl, rfl, rfl, rfl, rfl, fun _ => rfl⟩

theorem slotsAlike_outOfSwath (seq : Byte) (s : State) : SlotsAlike s ((s.consumed seq).withCondition .outOfSwath) :=
  ⟨rfl, rfl, rfl, rfl, rfl, fun _ => rfl⟩

theorem slotWalk_filterFire (bs : List Byte) {s : State} (ha : s.resetAsserted = false) : SlotWalk s (filterFire bs s) := by
  unfold filterFire
  have hcounted : ∀ marked, SlotWalk s (fireCounted bs marked s) := fun marked =>
    (slotWalk_countFrame _ _ _ _ marked ha).thenAlike (slotsAlike_forward bs _)
  split
  · exact hcounted false
  · exact hcounted true
  · exact hcounted true
  · exact .alike ⟨rfl, rfl, rfl, rfl, rfl, fun _ => rfl⟩

theorem slotWalk_handleFire (bs : List Byte) {s : State} (hr : s.running = true) : SlotWalk s (handleFire bs s) := by
  rw [handleFire_of_running hr]
  split
  · exact (SlotWalk.alike (slotsAlike_tracked _ s)).trans (slotWalk_filterFire bs (released_of_running hr))
  · exact .alike (slotsAlike_outOfSwath _ s)

theorem slotWalk_handleSpit (bs : List Byte) {s : State} (hr : s.running = true) : SlotWalk s (handleSpit bs s) := by
  unfold handleSpit
  rw [sequenceCheck_of_released (released_of_running hr)]
  exact SlotWalk.thenAlike ((SlotWalk.alike (slotsAlike_tracked _ s)).trans
    (slotWalk_countFrame _ _ _ _ _ (released_of_running hr))) (slotsAlike_forward bs _)

theorem slotsAlike_startSwath (bs : List Byte) (s : State) : SlotsAlike s (startSwath bs s) := by
  rcases startSwath_cases bs s with ⟨-, h⟩ | ⟨-, h⟩ <;> rw [h]
  · exact (slotsAlike_openSwath s).trans (slotsAlike_forward bs _)
  · obtain ⟨w, hw⟩ := holdStream_frame s
    rw [hw]
    exact ⟨rfl, rfl, rfl, rfl, rfl, fun _ => rfl⟩

theorem slotsAlike_handleSwathStart (bs : List Byte) {s : State} (hr : s.running = true) :
    SlotsAlike s (handleSwathStart bs s) := by
  rw [handleSwathStart_of_running hr]
  refine SlotsAlike.trans ?_ (slotsAlike_startSwath bs _)
  unfold State.beforeStart
  split
  · exact (slotsAlike_tracked _ s).trans (slotsAlike_closeSwath _ _ _)
  · exact slotsAlike_tracked _ s

theorem slotsAlike_handleSwathEnd (bs : List Byte) {s : State} (hr : s.running = true) : SlotsAlike s (handleSwathEnd bs s) := by
  rw [handleSwathEnd_of_running hr]
  split
  · exact ((slotsAlike_tracked _ s).trans (slotsAlike_closeSwath _ _ _)).trans (slotsAlike_forward bs _)
  · exact slotsAlike_outOfSwath _ s

theorem slotsAlike_handleStreamReset (bs : List Byte) (s : State) : SlotsAlike s (handleStreamReset bs s) := by
  refine ⟨rfl, rfl, rfl, rfl, rfl, fun n => ?_⟩
  have hslots : (handleStreamReset bs s).slots =
      (s.mapSlots fun c => { c with swathCredited := 0, swathOrphaned := 0 }).slots := rfl
  rw [State.slot_congr hslots, State.slot_mapSlots]
  rfl

/-! ### Events -/

theorem slotsAlike_changeSeat (n : Slot) (level : Bool) (s : State) : SlotsAlike s (changeSeat n level s) := by
  unfold changeSeat
  split
  · exact .refl s
  · exact .modSlot rfl

theorem slotWalk_seatEvent (n : Slot) (level : Seat) {s : State} (ha : s.alive = true) : SlotWalk s (seatEvent n level s) := by
  unfold seatEvent
  split
  · exact .refl
  · next hr =>
    have hrun : s.running = true := by simp [State.running, ha, hr]
    cases level with
    | seated =>
      refine SlotWalk.thenAlike ?_ (slotsAlike_waitTest _)
      unfold insertionEvent
      split
      · next hb =>
        exact (Relation.ReflTransGen.single (.begun n hrun hb)).trans (slotWalk_askAuto n .bind (released_of_running hrun))
      · exact .refl
    | empty =>
      refine SlotWalk.thenAlike ?_ (slotsAlike_waitTest _)
      unfold removalEvent
      split
      · exact .refl
      · next hb => exact .single (.removed n hrun hb)

theorem slotWalk_expireDebounce (n : Slot) (s : State) : SlotWalk s (expireDebounce n s) := by
  unfold expireDebounce
  dsimp only
  split
  · next h =>
    have hseat : SlotsAlike s (s.modSlot n fun c => { c with debounce := none, seat := c.rawSeat }) := .modSlot rfl
    split
    · exact .alike hseat
    · exact (SlotWalk.alike hseat).trans (slotWalk_seatEvent n _ h.1)
  · exact .refl

theorem slotWalk_expireSettle (n : Slot) (s : State) : SlotWalk s (expireSettle n s) := by
  by_cases h : s.alive = true ∧ (s.slot n).supply = .settling ∧ (s.slot n).settleTimer.isSome = true
  · exact .single (.settled n h.1 h.2.1 (Option.isSome_iff_ne_none.mp h.2.2))
  · rw [show expireSettle n s = s from if_neg h]

theorem slotWalk_expireIdle (n : Slot) (s : State) : SlotWalk s (expireIdle n s) := by
  by_cases h : s.alive = true ∧ (s.slot n).supply = .poweredOn ∧ (s.slot n).idleTimer.isSome = true
  · exact .single (.supplyLost n h.1 h.2.1 (Option.isSome_iff_ne_none.mp h.2.2))
  · rw [show expireIdle n s = s from if_neg h]

theorem slotWalk_endRestore (s : State) : SlotWalk s (endRestore s) := by
  by_cases h : s.powered = true ∧ s.restoring = true
  · exact .single (.restored h.1 h.2)
  · rw [show endRestore s = s from if_neg h]

theorem slotWalk_releaseReset (s : State) : SlotWalk s (releaseReset s) := by
  by_cases h : s.powered = true ∧ s.resetAsserted = true
  · exact .single (.released h.1 h.2)
  · rw [show releaseReset s = s from if_neg h]

theorem slotsAlike_completeConversion (code : Code) (s : State) : SlotsAlike s (completeConversion code s) := by
  unfold completeConversion
  split
  · exact .refl s
  · next cv _ =>
    have hset : SlotsAlike s { s with monitor := s.monitor.complete cv code } := ⟨rfl, rfl, rfl, rfl, rfl, fun _ => rfl⟩
    split
    · exact (hset.trans (slotsAlike_checkLimit _ _)).trans (slotsAlike_waitTest _)
    · exact .refl s

theorem slotWalk_keyCommitted (root : RootKey) {s : State} (ha : s.resetAsserted = false) :
    SlotWalk s (keyCommitted root s) := by
  have hkey : SlotsAlike s { s with key := .present root } := ⟨rfl, rfl, rfl, rfl, rfl, fun _ => rfl⟩
  refine (overSlots_keeps (P := fun t => SlotWalk s t ∧ t.resetAsserted = false) (fun n t ht => ?_) _
    ⟨.alike hkey, ha⟩).1
  unfold askUnverified
  split
  · exact ⟨ht.1.trans (slotWalk_askAuto n .verify ht.2), (askAuto_resetAsserted n .verify t).trans ht.2⟩
  · exact ht

theorem slotWalk_reportCommit (w : Write) (s : State) : SlotWalk s (reportCommit w s) := by
  cases w with
  | key root =>
    unfold reportCommit
    dsimp only
    split
    · exact SlotWalk.alike ⟨rfl, rfl, rfl, rfl, rfl, fun _ => rfl⟩
    · next ha => exact SlotWalk.thenAlike (slotWalk_keyCommitted root (by simpa using ha)) (slotsAlike_waitTest _)
  | checkpoint => exact .refl
  | retired => exact .refl

theorem slotsAlike_store (st : RecordStore) (s : State) : SlotsAlike s { s with store := st } :=
  ⟨rfl, rfl, rfl, rfl, rfl, fun _ => rfl⟩

theorem slotWalk_endProgram (passes : Bool) (s : State) : SlotWalk s (endProgram passes s) := by
  unfold endProgram
  split
  · exact .refl
  · next p _ =>
    split
    · exact SlotWalk.thenAlike ((SlotWalk.alike (slotsAlike_store _ s)).trans (slotWalk_reportCommit p.write _))
        (slotsAlike_store _ _)
    · split
      · exact SlotWalk.alike (slotsAlike_store _ s)
      · obtain ⟨k, st, w, h⟩ := abandonProgram_frame p s
        rw [h]
        exact SlotWalk.alike ⟨rfl, rfl, rfl, rfl, rfl, fun _ => rfl⟩

/-! ### The commands of the Swath Port and of power and reset -/

theorem slotsAlike_beginArrival (kind : Byte) (s : State) : SlotsAlike s (beginArrival kind s) := by
  rcases beginArrival_cases kind s with h | h | ⟨-, -, h⟩ <;> rw [h]
  · exact .refl s
  · exact slotsAlike_raise _ s
  · exact ⟨rfl, rfl, rfl, rfl, rfl, fun _ => rfl⟩

theorem slotsAlike_endArrival (rest : List Byte) (s : State) : SlotsAlike s (endArrival rest s) := by
  rw [endArrival_eq]
  split
  · exact ⟨rfl, rfl, rfl, rfl, rfl, fun _ => rfl⟩
  · exact .refl s

theorem slotsAlike_forwardHeld (s : State) : SlotsAlike s (forwardHeld s) := by
  rcases forwardHeld_cases s with h | ⟨f, rest, -, -, -, -, -, h⟩ <;> rw [h]
  · exact .refl s
  · exact ⟨rfl, rfl, rfl, rfl, rfl, fun _ => rfl⟩

theorem slotsAlike_links (ready : Bool) (s : State) : SlotsAlike s (beginTransfer ready s) ∧ SlotsAlike s (completeTransfer s) ∧
    SlotsAlike s (beginTransmission s) ∧ SlotsAlike s (completeTransmission s) := by
  obtain ⟨q, h, h1⟩ := beginTransfer_frame ready s
  obtain ⟨h', h2⟩ := completeTransfer_frame s
  obtain ⟨q', r, h3⟩ := beginTransmission_frame s
  obtain ⟨r', h4⟩ := completeTransmission_frame s
  rw [h1, h2, h3, h4]
  exact ⟨⟨rfl, rfl, rfl, rfl, rfl, fun _ => rfl⟩, ⟨rfl, rfl, rfl, rfl, rfl, fun _ => rfl⟩,
    ⟨rfl, rfl, rfl, rfl, rfl, fun _ => rfl⟩, ⟨rfl, rfl, rfl, rfl, rfl, fun _ => rfl⟩⟩

theorem slotWalk_applyPower (decayed : List RecordPos) (s : State) : SlotWalk s (applyPower decayed s) := by
  unfold applyPower
  split
  · exact .refl
  · exact .single (.cleared _ true true)

theorem slotWalk_losePower (s : State) : SlotWalk s (losePower s) := by
  unfold losePower
  split
  · exact .single (.cleared _ false false)
  · exact .refl

/-- A frame that is taken, by a row whose handler walks (R3 to R6). -/
theorem slotWalk_takeFrame {row : FrameRow} {handle : List Byte → State → State} {s : State}
    (h : ∀ bs, s.running = true → SlotWalk s (handle bs s)) : SlotWalk s (takeFrame row handle s) :=
  takeFrame_gives .refl (fun c => .alike (slotsAlike_discarded c s)) fun bs ht _ _ => h bs ht.running

theorem slotWalk_of_portOf {c : Instr} {f : State → State} (h : portOf c = some f) (s : State) : SlotWalk s (f s) := by
  cases c <;> cases h
  case powerOn decayed => exact slotWalk_applyPower decayed s
  case lossOfPower => exact slotWalk_losePower s
  case pinResetAsserted => exact .single .asserted
  case frameArrivalBegins kind => exact .alike (slotsAlike_beginArrival kind s)
  case frameArrivalEnds rest => exact .alike (slotsAlike_endArrival rest s)
  case unknownKindFrame =>
    have hfree : SlotsAlike s (freePlace s) := ⟨rfl, rfl, rfl, rfl, rfl, fun _ => rfl⟩
    exact slotWalk_takeFrame fun _ _ => .alike (hfree.trans (slotsAlike_raise _ _))
  case fire => exact slotWalk_takeFrame fun bs hr => slotWalk_handleFire bs hr
  case spit => exact slotWalk_takeFrame fun bs hr => slotWalk_handleSpit bs hr
  case swathStart => exact slotWalk_takeFrame fun bs hr => .alike (slotsAlike_handleSwathStart bs hr)
  case swathEnd => exact slotWalk_takeFrame fun bs hr => .alike (slotsAlike_handleSwathEnd bs hr)
  case streamReset => exact slotWalk_takeFrame fun bs _ => .alike (slotsAlike_handleStreamReset bs s)
  case heldSwathStartForwarded => exact .alike (slotsAlike_forwardHeld s)
  case headTransferBegins ready => exact .alike (slotsAlike_links ready s).1
  case headTransferCompletes => exact .alike (slotsAlike_links true s).2.1
  case returnTransmissionBegins => exact .alike (slotsAlike_links true s).2.2.1
  case returnTransmissionCompletes => exact .alike (slotsAlike_links true s).2.2.2

/-! ### Every command -/

/-- A command that ends an attempt: it failed, or its response is judged (R83). -/
inductive AttemptEnds (c : Instr) (s t : State) : Prop
  | failed (n : Slot) (op : CurrentOp) (a : Attempt) (ha : s.alive = true) (hcur : (s.slot n).current = some op)
      (hatt : (s.slot n).attempt = some a) (h : SlotsAlike (failAttempt n a s) t)
  | judged (n : Slot) (response : List Byte) (op : CurrentOp) (a : Attempt) (hc : c = .cartridgeResponse n response)
      (ha : s.alive = true) (hcur : (s.slot n).current = some op) (hatt : (s.slot n).attempt = some a)
      (hl : op.step.responseLength ≤ response.length)
      (h : SlotsAlike (handResponse n op a (response.take op.step.responseLength) (s.setSlot n (attemptOver (s.slot n)))) t)

theorem slots_receiveResponse (n : Slot) (response : List Byte) (s : State) :
    SlotWalk s (receiveResponse n response s) ∨
      AttemptEnds (.cartridgeResponse n response) s (receiveResponse n response s) := by
  unfold receiveResponse
  split
  · next a op hatt hcur =>
    split
    · next h =>
      refine .inr ?_
      unfold judgeResponse
      split
      · exact .judged n response op a rfl h.1 hcur hatt h.2 (slotsAlike_waitTest _)
      · exact .failed n op a h.1 hcur hatt (slotsAlike_waitTest _)
    · exact .inl .refl
  · exact .inl .refl

theorem slots_expireAttempt (n : Slot) (received : Nat) (s : State) :
    SlotWalk s (expireAttempt n received s) ∨ AttemptEnds (.attemptTimeout n received) s (expireAttempt n received s) := by
  unfold expireAttempt
  split
  · next a op hatt hcur =>
    split
    · next h => exact .inr (.failed n op a h.1 hcur hatt (slotsAlike_waitTest _))
    · exact .inl .refl
  · exact .inl .refl

theorem slots_of_eventOf {c : Instr} {f : State → State} (h : eventOf c = some f) (s : State) :
    SlotWalk s (f s) ∨ AttemptEnds c s (f s) := by
  cases c <;> cases h
  case endOfRestoring => exact .inl (slotWalk_endRestore s)
  case pinResetReleased => exact .inl (slotWalk_releaseReset s)
  case seatChange n level => exact .inl (.alike (slotsAlike_changeSeat n level s))
  case debounceExpiry n => exact .inl (slotWalk_expireDebounce n s)
  case settleTimerExpiry n => exact .inl (slotWalk_expireSettle n s)
  case idleTimerExpiry n => exact .inl (slotWalk_expireIdle n s)
  case cartridgeResponse n response => exact slots_receiveResponse n response s
  case attemptTimeout n received => exact slots_expireAttempt n received s
  case conversionComplete code => exact .inl (.alike (slotsAlike_completeConversion code s))
  case programVerify passes => exact .inl (slotWalk_endProgram passes s)

/-- Every command walks the slots, or ends an attempt. -/
theorem exec_slots {c : Instr} {s t : State} (h : exec c s = .next t) : SlotWalk s t ∨ AttemptEnds c s t := by
  rcases command_cases c with ⟨row, handle, hc⟩ | ⟨f, hc⟩ | ⟨f, hc⟩
  · rw [exec_of_requestOf hc] at h
    cases h
    exact .inl (slotWalk_takeRequest hc s)
  · rw [exec_of_eventOf hc] at h
    cases h
    exact slots_of_eventOf hc s
  · rw [exec_of_portOf hc] at h
    cases h
    exact .inl (slotWalk_of_portOf hc s)

end Sys2Proof.Machine
end

section
/-! A slot that agrees with itself, said for a slot at rest, one that waits and one whose attempt is in flight; and what work at
one slot may do to serials and nonces (for O56 and O57). -/

namespace Sys2Proof.Machine

/-! ### The record of a binding -/

/-- What the agreement of a slot with itself asks of the record alone (R91, R142). -/
structure RecordSound (r : BindingRecord) : Prop where
  evaluated : r.uBind ≠ none → r.identity ≠ none
  acknowledged : r.lastWritten.isSome = r.uBind.isSome
  notAbove : r.lastWritten.getD 0 ≤ r.uEst.getD 0
  stored : r.uBind.getD 0 ≤ 4294967295

theorem BindingWf.record {c : SlotContext} (h : BindingWf c) : RecordSound c.record :=
  ⟨h.evaluated, h.acknowledged, h.notAbove, h.stored⟩

theorem recordSound_starting : RecordSound .starting := ⟨nofun, rfl, le_rfl, Nat.zero_le _⟩

/-- A record that keeps the identity, U_bind and the acknowledged count, and meters no less, stays sound. -/
theorem RecordSound.metered {r q : BindingRecord} (h : RecordSound r) (hi : q.identity = r.identity) (hu : q.uBind = r.uBind)
    (hl : q.lastWritten = r.lastWritten) (hm : min r.metered 4294967295 ≤ q.metered) : RecordSound q := by
  refine ⟨?_, ?_, ?_, ?_⟩
  · rw [hu, hi]; exact h.evaluated
  · rw [hl, hu]; exact h.acknowledged
  · have hbelow := h.notAbove
    rw [hl]
    simp only [BindingRecord.uEst, hu] at hbelow ⊢
    cases hub : r.uBind with
    | none => simpa [hub] using hbelow
    | some u =>
      simp only [hub, Option.map_some, Option.getD_some, satAdd32, satAdd, Config.max32] at hbelow ⊢
      omega
  · rw [hu]; exact h.stored

theorem RecordSound.congr {r q : BindingRecord} (h : RecordSound r) (hi : q.identity = r.identity) (hu : q.uBind = r.uBind)
    (hl : q.lastWritten = r.lastWritten) (hm : q.metered = r.metered) : RecordSound q :=
  h.metered hi hu hl (by omega)

/-- A binding not yet identified has not been evaluated, and may take an identity. -/
theorem RecordSound.identify {r q : BindingRecord} (h : RecordSound r) (hi : q.identity ≠ none) (hu : q.uBind = r.uBind)
    (hl : q.lastWritten = r.lastWritten) (hm : q.metered = r.metered) : RecordSound q := by
  have hkept := h.congr (q := { q with identity := r.identity }) rfl hu hl hm
  exact ⟨fun _ => hi, hkept.acknowledged, hkept.notAbove, hkept.stored⟩

section Binding
variable {c : SlotContext} (h : RecordSound c.record)
include h

theorem RecordSound.failed (hb : c.bindingState = .failed) (hf : c.record.failure ≠ none) : BindingWf c where
  failure := by rw [hb, Option.isSome_iff_ne_none.mpr hf]; rfl
  noBinding := by simp [hb]
  unidentified := by simp [hb]
  identified := by simp [hb]
  verified := by simp [hb]
  evaluated := h.evaluated
  acknowledged := h.acknowledged
  notAbove := h.notAbove
  stored := h.stored

variable (hf : c.record.failure = none)
include hf

theorem RecordSound.unproved (hb : c.bindingState = .linkLost ∨ c.bindingState = .released) : BindingWf c where
  failure := by rcases hb with hb | hb <;> rw [hf, hb] <;> rfl
  noBinding := by rcases hb with hb | hb <;> simp [hb]
  unidentified := by rcases hb with hb | hb <;> simp [hb]
  identified := by rcases hb with hb | hb <;> simp [hb]
  verified := by rcases hb with hb | hb <;> simp [hb]
  evaluated := h.evaluated
  acknowledged := h.acknowledged
  notAbove := h.notAbove
  stored := h.stored

theorem RecordSound.identified (hb : c.bindingState = .pendingAuth ∨ c.bindingState = .unverified)
    (hi : c.record.identity ≠ none) : BindingWf c where
  failure := by rcases hb with hb | hb <;> rw [hf, hb] <;> rfl
  noBinding := by rcases hb with hb | hb <;> simp [hb]
  unidentified := by rcases hb with hb | hb <;> simp [hb]
  identified _ := hi
  verified := by rcases hb with hb | hb <;> simp [hb]
  evaluated := h.evaluated
  acknowledged := h.acknowledged
  notAbove := h.notAbove
  stored := h.stored

theorem RecordSound.unidentified (hb : c.bindingState = .pendingId) (hi : c.record.identity = none) : BindingWf c where
  failure := by rw [hf, hb]; rfl
  noBinding := by simp [hb]
  unidentified _ := hi
  identified := by simp [hb]
  verified := by simp [hb]
  evaluated := h.evaluated
  acknowledged := h.acknowledged
  notAbove := h.notAbove
  stored := h.stored

theorem RecordSound.verified (hb : c.bindingState = .verified) (hu : c.record.uBind ≠ none)
    (ho : c.record.verifiedOnce = true) : BindingWf c where
  failure := by rw [hf, hb]; rfl
  noBinding := by simp [hb]
  unidentified := by simp [hb]
  identified := by simp [hb]
  verified _ := ⟨hu, ho⟩
  evaluated := h.evaluated
  acknowledged := h.acknowledged
  notAbove := h.notAbove
  stored := h.stored

end Binding

/-- A touched record leaves the binding sound. -/
theorem BindingWf.touched {c d : SlotContext} (h : BindingWf c) (ht : Touched c d) : BindingWf d := by
  have hb : d.bindingState = c.bindingState := by rw [ht.frame]
  have hr : RecordSound d.record := h.record.metered ht.identity ht.uBind ht.lastWritten ht.metered
  refine ⟨?_, fun hn => ?_, ?_, ?_, ?_, hr.evaluated, hr.acknowledged, hr.notAbove, hr.stored⟩
  · rw [ht.failure, hb]; exact h.failure
  · rw [hb] at hn
    exact ht.unbound hn (h.noBinding hn)
  · rw [hb, ht.identity]; exact h.unidentified
  · rw [hb, ht.identity]; exact h.identified
  · rw [hb, ht.uBind, ht.verifiedOnce]; exact h.verified

/-! ### Operation, supply, timers and attempt -/

/-- A slot without an attempt in flight: its queue, supply and timers agree. -/
structure Quiet (c : SlotContext) : Prop where
  kinds : (c.queue.map QueueEntry.kind).Nodup
  attempt : c.attempt = none
  settle : c.settleTimer.isSome = decide (c.supply = .settling)
  idleTimer : c.idleTimer = if c.supply = .poweredOn then idleStart c.config else none
  unpowered : c.bindingState = .noCartridge ∨ c.bindingState = .released → c.supply = .off

theorem ControlWf.quiet {c : SlotContext} (h : ControlWf c) (ha : c.attempt = none) : Quiet c :=
  ⟨h.kinds, ha, h.settle, by rw [h.idleTimer]; simp [ha], h.unpowered⟩

/-- A slot at rest with an empty queue agrees with itself. -/
theorem Quiet.rests {c : SlotContext} (h : Quiet c) (hc : c.current = none) (hq : c.queue = []) : ControlWf c where
  kinds := h.kinds
  idle _ := ⟨hq, h.attempt⟩
  waiting hn := absurd hc hn
  running hn := absurd h.attempt hn
  number a hn := absurd (h.attempt.symm.trans hn) nofun
  step op hn := absurd (hc.symm.trans hn) nofun
  target op hn := absurd (hc.symm.trans hn) nofun
  settle := h.settle
  idleTimer := by rw [h.idleTimer]; simp [h.attempt]
  unpowered := h.unpowered

/-- A slot whose operation waits for the supply agrees with itself. -/
theorem Quiet.waits {c : SlotContext} {op : CurrentOp} (h : Quiet c) (hc : c.current = some op) (hs : c.supply = .settling)
    (hstep : stepAllowed op c) : ControlWf c where
  kinds := h.kinds
  idle hn := absurd (hc.symm.trans hn) nofun
  waiting _ _ := hs
  running hn := absurd h.attempt hn
  number a hn := absurd (h.attempt.symm.trans hn) nofun
  step op' hn := by rw [← Option.some.inj (hc.symm.trans hn)]; exact hstep
  target op' _ _ hn := absurd h.attempt hn
  settle := h.settle
  idleTimer := by rw [h.idleTimer]; simp [h.attempt]
  unpowered := h.unpowered

/-- An operation stands at no step of a slot without a binding, or whose binding has ended or FAILED (R99). -/
theorem stepAllowed_open {op : CurrentOp} {c : SlotContext} (h : stepAllowed op c) :
    c.bindingState ≠ .failed ∧ c.bindingState ≠ .released ∧ c.bindingState ≠ .noCartridge := by
  unfold stepAllowed at h
  split at h
  · rcases h with h | ⟨h, -⟩ <;> simp [h]
  · simp [h]
  · obtain ⟨-, h | h | h | h⟩ := h <;> simp [h]
  · simp [h]
  · simp [h]
  · exact h.elim

theorem stepAllowed_powered {op : CurrentOp} {c : SlotContext} (h : stepAllowed op c) :
    ¬(c.bindingState = .noCartridge ∨ c.bindingState = .released) := by
  obtain ⟨-, hreleased, hbound⟩ := stepAllowed_open h
  exact not_or.mpr ⟨hbound, hreleased⟩

/-- A slot whose attempt is in flight agrees with itself. -/
theorem controlWf_runs {c : SlotContext} {op : CurrentOp} {a : Attempt} (hkinds : (c.queue.map QueueEntry.kind).Nodup)
    (hc : c.current = some op) (ha : c.attempt = some a) (hs : c.supply = .poweredOn) (hsettle : c.settleTimer = none)
    (hidle : c.idleTimer = none) (hnumber : 1 ≤ a.number ∧ a.number ≤ 3) (hstep : stepAllowed op c)
    (htarget : op.step = .advance → ∃ t, op.target = some t ∧ c.record.lastWritten.getD 0 ≤ t) : ControlWf c where
  kinds := hkinds
  idle hn := absurd (hc.symm.trans hn) nofun
  waiting _ hn := absurd (ha.symm.trans hn) nofun
  running _ := hs
  number b hn := by rw [← Option.some.inj (ha.symm.trans hn)]; exact hnumber
  step op' hn := by rw [← Option.some.inj (hc.symm.trans hn)]; exact hstep
  target op' hn hadv _ := by
    rw [← Option.some.inj (hc.symm.trans hn)] at hadv ⊢
    exact htarget hadv
  settle := by rw [hsettle, hs]; rfl
  idleTimer := by rw [hidle]; simp [ha]
  unpowered hb := absurd hb (stepAllowed_powered hstep)

/-! ### Work at one slot -/

/-- The nonce that a slot's attempt in flight carries. -/
def nonceOf (c : SlotContext) : Option Nonce := c.attempt.bind (·.nonce)

/-- The checkpoint records are in range (R145, R174). -/
def CheckpointsSound (s : State) : Prop :=
  ∀ (n : Slot) (k : Checkpoint), s.refill.checkpoints[n] = some k → k.acknowledged ≤ k.estimate ∧ k.estimate ≤ 4294967295

/-- Work at one slot: it keeps the checkpoint records in range, takes a serial that no other slot holds at most, and draws a nonce
that none carries and none has spent, so long as there is one. -/
structure SlotMoves (n : Slot) (s t : State) : Prop where
  work : SlotWork n s t
  checkpoints : CheckpointsSound s → CheckpointsSound t
  serial : ∀ x, holdsSerial (t.slot n) x → holdsSerial (s.slot n) x ∨ ∀ m, m ≠ n → ¬holdsSerial (s.slot m) x
  spent : t.spentNonces = s.spentNonces
  nonce : ∀ v, nonceOf (t.slot n) = some v → nonceOf (s.slot n) = some v ∨
    (s.spentNonces.length + 7 < 2 ^ 128 → v ∉ s.spentNonces ∧ ∀ m, m ≠ n → nonceOf (s.slot m) ≠ some v)

theorem SlotMoves.refl (n : Slot) (s : State) : SlotMoves n s s := ⟨.refl n s, id, fun _ h => .inl h, rfl, fun _ h => .inl h⟩

theorem SlotMoves.trans {n : Slot} {s t u : State} (h : SlotMoves n s t) (g : SlotMoves n t u) : SlotMoves n s u where
  work := h.work.trans g.work
  checkpoints hs := g.checkpoints (h.checkpoints hs)
  serial x hx := by
    rcases g.serial x hx with hx | hx
    · exact h.serial x hx
    · exact .inr fun m hm => by rw [← h.work.others m hm]; exact hx m hm
  spent := g.spent.trans h.spent
  nonce v hv := by
    rcases g.nonce v hv with hv | hv
    · exact h.nonce v hv
    · refine .inr fun hroom => ?_
      obtain ⟨hunspent, hother⟩ := hv (by rw [h.spent]; exact hroom)
      exact ⟨by rw [← h.spent]; exact hunspent, fun m hm => by rw [← h.work.others m hm]; exact hother m hm⟩

/-- A slot that is written moves, if its binding takes no serial that another slot's holds, and it has no new attempt. -/
theorem SlotMoves.written {n : Slot} {c : SlotContext} {s : State}
    (hserial : ∀ x, holdsSerial c x → holdsSerial (s.slot n) x ∨ ∀ m, m ≠ n → ¬holdsSerial (s.slot m) x)
    (hnonce : c.attempt = none ∨ c.attempt = (s.slot n).attempt) : SlotMoves n s (s.setSlot n c) where
  work := slotWork_setSlot n c s
  checkpoints hs := hs
  serial x hx := by
    rw [State.slot_setSlot_self] at hx
    exact hserial x hx
  spent := rfl
  nonce v hv := by
    rw [State.slot_setSlot_self] at hv
    rcases hnonce with hn | hn
    · rw [nonceOf, hn] at hv
      exact absurd hv nofun
    · rw [nonceOf, hn] at hv
      exact .inl hv

theorem SlotMoves.setSlot {n : Slot} {c : SlotContext} {s : State} (hserial : ∀ x, holdsSerial c x → holdsSerial (s.slot n) x)
    (hnonce : c.attempt = none ∨ c.attempt = (s.slot n).attempt) : SlotMoves n s (s.setSlot n c) :=
  .written (fun x hx => .inl (hserial x hx)) hnonce

/-- A binding that has no identity, FAILED or is RELEASED holds no serial. -/
theorem holdsSerial_of_kept {c d : SlotContext} (hi : d.record.identity = c.record.identity)
    (hb : d.bindingState = .failed ∨ d.bindingState = .released ∨ d.record.identity = none ∨
      (c.bindingState ≠ .failed ∧ c.bindingState ≠ .released)) (x : Serial) (h : holdsSerial d x) : holdsSerial c x := by
  obtain ⟨hf, hr, i, hid, hx⟩ := h
  rcases hb with hb | hb | hb | ⟨hf', hr'⟩
  · exact absurd hb hf
  · exact absurd hb hr
  · exact absurd (hb.symm.trans hid) nofun
  · exact ⟨hf', hr', i, hi ▸ hid, hx⟩

end Sys2Proof.Machine
end

section
/-! What the operations of a slot do to its agreement with itself: attempts, the queue and the end of an operation (for O56 and
O57). -/

namespace Sys2Proof.Machine

/-! ### Slots that settle -/

/-- Work at one slot after which it agrees with itself. -/
structure Settles (n : Slot) (s t : State) : Prop where
  moves : SlotMoves n s t
  control : ControlWf (t.slot n)
  binding : BindingWf (t.slot n)

theorem Settles.after {n : Slot} {s t u : State} (h : SlotMoves n s t) (g : Settles n t u) : Settles n s u :=
  ⟨h.trans g.moves, g.control, g.binding⟩

/-- A sound slot at its queue: no operation is current and no attempt in flight. -/
structure Between (c : SlotContext) : Prop where
  quiet : Quiet c
  current : c.current = none
  binding : BindingWf c

theorem ControlWf.between {c : SlotContext} (h : ControlWf c) (hb : BindingWf c) (hc : c.current = none) : Between c :=
  ⟨h.quiet (h.idle hc).2, hc, hb⟩

/-- Quietness reads queue, attempt, supply, timers, idle delay and binding state. -/
theorem Quiet.congr {c d : SlotContext} (h : Quiet c) (hq : d.queue = c.queue) (ha : d.attempt = c.attempt)
    (hs : d.supply = c.supply) (ht : d.settleTimer = c.settleTimer) (hi : d.idleTimer = c.idleTimer) (hcfg : d.config = c.config)
    (hb : d.bindingState = .noCartridge ∨ d.bindingState = .released →
      c.bindingState = .noCartridge ∨ c.bindingState = .released) : Quiet d where
  kinds := by rw [hq]; exact h.kinds
  attempt := ha.trans h.attempt
  settle := by rw [ht, hs]; exact h.settle
  idleTimer := by rw [hi, hs, hcfg]; exact h.idleTimer
  unpowered hd := hs.trans (h.unpowered (hb hd))

theorem Quiet.merged {c : SlotContext} (h : Quiet c) (allowance : Nat) (p : Option Primary) (e : Byte) (a : Word16) :
    Quiet (mergeStatus allowance p e a c) := by
  rw [mergeStatus_frame]
  exact h.congr rfl rfl rfl rfl rfl rfl id

theorem BindingWf.merged {c : SlotContext} (h : BindingWf c) (allowance : Nat) (p : Option Primary) (e : Byte) (a : Word16) :
    BindingWf (mergeStatus allowance p e a c) := h.congr (mergeStatus_bindingState ..) (mergeStatus_record ..)

theorem Between.merged {c : SlotContext} (h : Between c) (allowance : Nat) (p : Option Primary) (e : Byte) (a : Word16) :
    Between (mergeStatus allowance p e a c) :=
  ⟨h.quiet.merged .., (mergeStatus_current ..).trans h.current, h.binding.merged ..⟩

/-- A quiet slot with its supply ON has no settle timer running. -/
theorem Quiet.settled {c : SlotContext} (h : Quiet c) (hon : c.supply = .poweredOn) : c.settleTimer = none := by
  have hsettle := h.settle
  rw [hon] at hsettle
  exact Option.not_isSome_iff_eq_none.mp (by simp [hsettle])

/-! ### Attempts -/

/-- The slot with an attempt of its operation in flight (R81, R83, R84). -/
def startedSlot (k : Nat) (op : CurrentOp) (nonce : Nonce) (c : SlotContext) : SlotContext :=
  { c with
      attempt := some
        { number := k, nonce := if op.step = .challenge then some nonce else none,
          request := requestMessage op.step nonce (advanceTarget k op c.record), timer := c.config.timeout },
      current := some { op with target := if op.step = .advance then some (advanceTarget k op c.record) else op.target },
      idleTimer := none }

theorem startAttempt_eq {n : Slot} {op : CurrentOp} {s : State} (hc : (s.slot n).current = some op) (k : Nat) :
    startAttempt n k s = { s.setSlot n (startedSlot k op s.freshNonce (s.slot n)) with
      nonceCount := if op.step = .challenge then s.nonceCount + 1 else s.nonceCount } := by
  obtain ⟨kind, origin, step, target, halt⟩ := op
  cases step <;> (simp only [startAttempt, hc]; rfl)

theorem startAttempt_slot {n : Slot} {op : CurrentOp} {s : State} (hc : (s.slot n).current = some op) (k : Nat) :
    (startAttempt n k s).slot n = startedSlot k op s.freshNonce (s.slot n) := by
  rw [startAttempt_eq hc]
  exact State.slot_setSlot_self n _ s

/-- A slot without an attempt leaves a place among those in flight. -/
theorem noncesInFlight_length {n : Slot} {s : State} (h : (s.slot n).attempt = none) : s.noncesInFlight.length ≤ 7 :=
  Nat.le_of_lt_succ (List.length_filterMap_lt_length_iff_exists.mpr ⟨n, mem_allSlots n, by rw [h]; rfl⟩)

theorem mem_noncesInFlight {n : Slot} {v : Nonce} {s : State} (h : nonceOf (s.slot n) = some v) : v ∈ s.noncesInFlight :=
  List.mem_filterMap.mpr ⟨n, mem_allSlots n, h⟩

/-- An attempt that starts gives no serial, and carries a fresh nonce at most (R84, R130). -/
theorem slotMoves_startAttempt {n : Slot} {s : State} (ha : (s.slot n).attempt = none) (k : Nat) :
    SlotMoves n s (startAttempt n k s) := by
  cases hc : (s.slot n).current with
  | none =>
    rw [startAttempt_of_none hc]
    exact .refl n s
  | some op =>
    refine ⟨slotWork_startAttempt n k s, fun hs => ?_, fun x hx => .inl ?_, ?_, fun v hv => .inr fun hroom => ?_⟩
    · rw [startAttempt_eq hc]
      exact hs
    · rw [startAttempt_slot hc] at hx
      exact hx
    · rw [startAttempt_eq hc]
      rfl
    · rw [startAttempt_slot hc, nonceOf] at hv
      have hin := noncesInFlight_length ha
      obtain ⟨hunspent, hother⟩ := freshNonce_spec s (by omega)
      have hfresh : v = s.freshNonce := by
        by_cases hstep : op.step = .challenge
        · simpa [startedSlot, hstep] using hv.symm
        · simp [startedSlot, hstep] at hv
      rw [hfresh]
      exact ⟨hunspent, fun m _ hm => hother (mem_noncesInFlight hm)⟩

section Bus
variable {n : Slot} {op : CurrentOp} {s : State} (hq : Quiet (s.slot n)) (hb : BindingWf (s.slot n))
  (hc : (s.slot n).current = some op) (hstep : stepAllowed op (s.slot n))
include hq hb hc hstep

/-- An attempt of an operation that its binding allows leaves the slot sound (R83, R84, R109). -/
theorem settles_startAttempt (hon : (s.slot n).supply = .poweredOn) {k : Nat} (hk : 1 ≤ k ∧ k ≤ 3)
    (ht : op.step = .advance → (s.slot n).record.lastWritten.getD 0 ≤ advanceTarget k op (s.slot n).record) :
    Settles n s (startAttempt n k s) := by
  refine ⟨slotMoves_startAttempt hq.attempt k, ?_, ?_⟩ <;> rw [startAttempt_slot hc]
  · exact controlWf_runs hq.kinds rfl rfl hon (hq.settled hon) rfl hk hstep fun hadv =>
      ⟨advanceTarget k op (s.slot n).record, if_pos hadv, ht hadv⟩
  · exact hb.congr rfl rfl

/-- An operation that asks for the bus starts its first attempt, or waits for the supply (R80). -/
theorem settles_requestBus : Settles n s (requestBus n s) := by
  unfold requestBus
  split
  · next hon => exact settles_startAttempt hq hb hc hstep hon ⟨le_rfl, by decide⟩ fun _ => hb.notAbove
  · next hsettling => exact ⟨.refl n s, hq.waits hc hsettling hstep, hb⟩
  · next hoff =>
    have hidle : (s.slot n).idleTimer = none := by rw [hq.idleTimer, hoff]; rfl
    refine ⟨.setSlot (fun _ h => h) (.inr rfl), ?_, ?_⟩ <;> rw [State.slot_modSlot_self]
    · exact Quiet.waits (op := op)
        ⟨hq.kinds, hq.attempt, rfl, hidle, fun hd => absurd hd (stepAllowed_powered hstep)⟩ hc rfl hstep
    · exact hb.congr rfl rfl

end Bus

/-! ### The end of a binding -/

theorem estimate_le (r : BindingRecord) : r.uEst.getD 0 ≤ 4294967295 := by
  simp only [BindingRecord.uEst]
  cases r.uBind with
  | none => exact Nat.zero_le _
  | some u => exact Nat.min_le_right _ _

/-- A commit to the Record Store, and the retired list, leave slots and checkpoints alone. -/
theorem slotMoves_of_slots {n : Slot} {s t : State} (hw : SlotWork n s t) (hslots : t.slots = s.slots)
    (hspent : t.spentNonces = s.spentNonces) (hc : CheckpointsSound s → CheckpointsSound t) : SlotMoves n s t :=
  ⟨hw, hc, fun x hx => .inl (by rw [← State.slot_congr hslots n]; exact hx), hspent,
    fun v hv => .inl (by rw [← State.slot_congr hslots n]; exact hv)⟩

theorem commit_spent (w : Write) (s : State) : (commit w s).spentNonces = s.spentNonces := by rw [commit_frame]

theorem slotMoves_addRetired (n : Slot) (serial : Serial) (g f : Nat) (r : RetiredReason) (s : State) :
    SlotMoves n s (addRetired serial g f r s) :=
  slotMoves_of_slots (slotWork_addRetired n ..) (commit_slots ..) (commit_spent ..) fun h => by
    rw [CheckpointsSound, addRetired_refill]
    exact h

theorem slotMoves_removeRetired (n : Slot) (e : RetiredEntry) (s : State) : SlotMoves n s (removeRetired e s) :=
  slotMoves_of_slots (slotWork_removeRetired n ..) (commit_slots ..) (commit_spent ..) fun h => by
    rw [CheckpointsSound, removeRetired_refill]
    exact h

/-- The checkpoint of a sound record is in range (R145, R174). -/
theorem slotMoves_writeCheckpoint {n : Slot} {s : State} (h : RecordSound (s.slot n).record) :
    SlotMoves n s (writeCheckpoint n s) := by
  unfold writeCheckpoint
  split
  · next k hk =>
    refine slotMoves_of_slots ((slotWork_refill n _ s).trans (slotWork_commit n _ _)) (commit_slots ..) (commit_spent ..)
      fun hs m k' hk' => ?_
    rw [commit_refill, Fin.getElem_fin, Vector.getElem_set] at hk'
    split at hk'
    · obtain rfl := Option.some.inj hk'
      unfold checkpointOf at hk
      split at hk
      · next i a e hi ha he =>
        obtain rfl := Option.some.inj hk
        have hbelow := h.notAbove
        have hmax := estimate_le (s.slot n).record
        rw [ha, he] at hbelow
        rw [he] at hmax
        exact ⟨hbelow, hmax⟩
      · exact absurd hk nofun
    · exact hs m k' hk'
  · exact .refl n s

theorem slotMoves_judgeRetirement (n : Slot) (s : State) : SlotMoves n s (judgeRetirement n s) := by
  unfold judgeRetirement
  dsimp only
  split
  · exact slotMoves_addRetired n _ _ _ _ s
  · exact .refl n s

theorem slotMoves_endBinding {n : Slot} {s : State} (h : RecordSound (s.slot n).record) : SlotMoves n s (endBinding n s) := by
  unfold endBinding
  split
  · exact (slotMoves_writeCheckpoint h).trans (slotMoves_judgeRetirement n _)
  · exact .refl n s

theorem slotMoves_bindingEnds {n : Slot} {s : State} (h : BindingWf (s.slot n)) :
    SlotMoves n s (s.bindingEnds n (s.slot n)) := by
  by_cases hlive : (s.slot n).bindingState = .noCartridge ∨ (s.slot n).bindingState = .released
  · rw [State.bindingEnds, if_pos (hlive.imp id .inl)]
    exact .refl n s
  · obtain ⟨hlive, hopen⟩ := not_or.mp hlive
    rw [← endBinding_live h.isEvaluated hlive hopen]
    exact slotMoves_endBinding h.record

theorem between_released {c : SlotContext} (hq : Quiet c) (hb : BindingWf c) : Between (releasedSlot c) where
  quiet := ⟨hq.kinds, hq.attempt, rfl, rfl, fun _ => rfl⟩
  current := rfl
  binding := (hb.record.congr (q := keptRecord c) rfl rfl rfl rfl).unproved rfl (.inr rfl)

/-- A binding that is released leaves its slot at its queue (R110). -/
theorem releasedSlot_between {n : Slot} {s : State} (hq : Quiet (s.slot n)) (hb : BindingWf (s.slot n)) {t : State}
    {p : Option Primary} {a : Word16} (ht : t = (s.bindingEnds n (s.slot n)).setSlot n (mergeStatus s.policy.allowance p 0 a
      (refreshSnapshot s.policy.allowance (releasedSlot (s.slot n))))) :
    SlotMoves n s t ∧ Between (t.slot n) ∧ (t.slot n).queue = (s.slot n).queue := by
  have hbetween := between_released hq hb
  have hfresh : Between (refreshSnapshot s.policy.allowance (releasedSlot (s.slot n))) :=
    ⟨hbetween.quiet.congr rfl rfl rfl rfl rfl rfl id, rfl, hbetween.binding.congr rfl rfl⟩
  rw [ht, State.slot_setSlot_self]
  refine ⟨(slotMoves_bindingEnds hb).trans (.setSlot (fun x hx => ?_) (.inl ?_)), hfresh.merged .., mergeStatus_queue ..⟩
  · exact absurd (mergeStatus_bindingState ..) hx.2.1
  · exact (mergeStatus_attempt ..).trans hq.attempt

/-! ### The next entry -/

/-- What a queue entry does: it becomes current at a sound slot, or leaves the slot at the rest of its queue (R103). -/
def Takes (n : Slot) (s t : State) : Prop :=
  (Settles n s t ∧ (t.slot n).current ≠ none) ∨
    (SlotMoves n s t ∧ Between (t.slot n) ∧ (t.slot n).queue = (s.slot n).queue)

theorem touched_sinceVerify (c : SlotContext) : Touched c { c with record := { c.record with sinceVerify := 0 } } :=
  ⟨rfl, rfl, rfl, rfl, Nat.min_le_left _ _, rfl, rfl,
    fun _ h => congrArg (fun r : BindingRecord => { r with sinceVerify := 0 }) h⟩

/-- The slot made ready for an operation's first step is sound, and the step is allowed there (R99, R105). -/
theorem readied_sound {kind : OpKind} {c : SlotContext} (hq : Quiet c) (hb : BindingWf c) (hm : MeetsCondition kind c)
    (hr : kind = .release → c.bindingState = .verified) (origin : Origin) :
    Quiet (readied kind c) ∧ BindingWf (readied kind c) ∧ stepAllowed (newOp kind origin) (readied kind c) := by
  obtain ⟨hbind, hverify, hwrite, -⟩ := hm
  cases kind with
  | bind =>
    unfold readied
    dsimp only
    split
    · exact ⟨hq.congr rfl rfl rfl rfl rfl rfl (by simp), recordSound_starting.unidentified rfl rfl rfl, .inl rfl⟩
    · next hopen =>
      obtain ⟨hopen, hfailed⟩ := not_or.mp hopen
      refine ⟨hq, hb, ?_⟩
      rcases hbind rfl with h | h | h | h
      · exact .inl h
      · exact absurd h hopen
      · exact absurd h hfailed
      · exact .inr h
  | verify =>
    refine ⟨hq.congr rfl rfl rfl rfl rfl rfl id, ?_, ?_⟩
    · exact hb.touched (touched_sinceVerify c)
    · obtain ⟨hi, hstates⟩ := hverify rfl
      simp only [List.mem_cons, List.not_mem_nil, or_false] at hstates
      exact ⟨hi, hstates⟩
  | writeBack => exact ⟨hq, hb, hwrite rfl⟩
  | release => exact ⟨hq, hb, hr rfl⟩

theorem readied_frame (kind : OpKind) (c : SlotContext) :
    (readied kind c).attempt = c.attempt ∧ (∀ x, holdsSerial (readied kind c) x → holdsSerial c x) := by
  cases kind with
  | bind =>
    unfold readied
    dsimp only
    split
    · exact ⟨rfl, fun x ⟨_, _, i, hi, _⟩ => absurd hi nofun⟩
    · exact ⟨rfl, fun _ h => h⟩
  | verify | writeBack | release => exact ⟨rfl, fun _ h => h⟩

/-- An operation that becomes current leaves the slot sound. -/
theorem settles_begins {n : Slot} {kind : OpKind} {s : State} (hq : Quiet (s.slot n)) (hb : BindingWf (s.slot n))
    (hm : MeetsCondition kind (s.slot n)) (hr : kind = .release → (s.slot n).bindingState = .verified) (origin : Origin) :
    Settles n s (s.begins n kind origin) := by
  obtain ⟨hq', hb', hstep⟩ := readied_sound hq hb hm hr origin
  obtain ⟨hattempt, hserial⟩ := readied_frame kind (s.slot n)
  rw [← requestBus_readied]
  refine Settles.after ?_ (settles_requestBus (op := newOp kind origin) ?_ ?_ ?_ ?_)
  · exact .setSlot hserial (.inr hattempt)
  all_goals rw [State.slot_setSlot_self]
  · exact hq'.congr rfl rfl rfl rfl rfl rfl id
  · exact hb'.congr rfl rfl
  · exact hstep

theorem takes_beginOp {n : Slot} {s : State} (h : Between (s.slot n)) (e : QueueEntry) : Takes n s (beginOp n e s) := by
  have hends : ∀ (d : SlotContext) (p : Option Primary) (a : Word16), Between d → d.queue = (s.slot n).queue →
      d.attempt = (s.slot n).attempt → (∀ x, holdsSerial d x → holdsSerial (s.slot n) x) →
      Takes n s (s.setSlot n (mergeStatus s.policy.allowance p 0 a d)) := fun d p a hd hqueue hattempt hserial => by
    refine .inr ⟨.setSlot (fun x hx => hserial x ?_) (.inr ?_), ?_, ?_⟩
    · rwa [holdsSerial, mergeStatus_bindingState, mergeStatus_record] at hx
    · rw [mergeStatus_attempt, hattempt]
    · rw [State.slot_setSlot_self]
      exact hd.merged ..
    · rw [State.slot_setSlot_self, mergeStatus_queue, hqueue]
  cases hm : stateCondition e.kind (s.slot n) with
  | false =>
    rw [beginOp_stale h.current hm]
    exact hends _ _ _ h rfl rfl fun _ hx => hx
  | true =>
    have hbegins : (e.kind = .verify → s.keyPresent = true) → (e.kind = .release → (s.slot n).bindingState = .verified) →
        Takes n s (beginOp n e s) := fun hv hr => by
      rw [beginOp_begins hm hv hr]
      exact .inl ⟨settles_begins h.quiet h.binding ((stateCondition_iff ..).mp hm) hr e.origin,
        (hasBegun_begins n e.kind e.origin s).current_ne⟩
    by_cases hv : e.kind = .verify ∧ s.keyPresent = false
    · rw [beginOp_keyless h.current hv.1 hv.2 (hv.1 ▸ hm)]
      refine hends _ _ _ ⟨h.quiet.congr rfl rfl rfl rfl rfl rfl id, h.current, ?_⟩ rfl rfl fun _ hx => hx
      exact h.binding.touched (touched_sinceVerify _)
    · by_cases hr : e.kind = .release ∧ (s.slot n).bindingState ≠ .verified
      · rw [beginOp_release hr.1 (hr.1 ▸ hm) hr.2 h.binding.isEvaluated]
        exact .inr (releasedSlot_between h.quiet h.binding rfl)
      · exact hbegins (fun hk => by simpa [hk] using hv) fun hk => by simpa [hk] using hr

/-- The rest of a queue, its oldest entry taken. -/
theorem Between.taken {c : SlotContext} {e : QueueEntry} {rest : List QueueEntry} (h : Between c) (hq : c.queue = e :: rest) :
    Between { c with queue := rest } := by
  have hkinds := h.quiet.kinds
  rw [hq] at hkinds
  exact ⟨⟨(List.nodup_cons.mp hkinds).2, h.quiet.attempt, h.quiet.settle, h.quiet.idleTimer, h.quiet.unpowered⟩, h.current,
    h.binding.congr rfl rfl⟩

/-- The queue runs until an operation stays current or it is empty, and leaves the slot sound (R103). -/
theorem settles_runQueue {n : Slot} (k : Nat) {s : State} (h : Between (s.slot n)) (hk : (s.slot n).queue.length ≤ k) :
    Settles n s (runQueue k n s) := by
  induction k generalizing s with
  | zero => exact ⟨.refl n s, h.quiet.rests h.current (List.length_eq_zero_iff.mp (Nat.le_zero.mp hk)), h.binding⟩
  | succ k ih =>
    cases hq : (s.slot n).queue with
    | nil =>
      rw [runQueue_of_empty hq]
      exact ⟨.refl n s, h.quiet.rests h.current hq, h.binding⟩
    | cons e rest =>
      have hslot : (s.setSlot n { s.slot n with queue := rest }).slot n = { s.slot n with queue := rest } :=
        State.slot_setSlot_self n _ s
      rw [runQueue_next h.current hq]
      refine Settles.after (.setSlot (c := { s.slot n with queue := rest }) (fun _ hx => hx) (.inr rfl)) ?_
      rcases takes_beginOp (by rw [hslot]; exact h.taken hq) e with ⟨hsettles, hcurrent⟩ | ⟨hmoves, hbetween, hqueue⟩
      · rw [runQueue_of_current hcurrent]
        exact hsettles
      · refine .after hmoves (ih hbetween ?_)
        rw [hqueue, hslot]
        simpa [hq] using hk

theorem settles_pump {n : Slot} {s : State} (h : Between (s.slot n)) : Settles n s (pump n s) := settles_runQueue _ h le_rfl

/-! ### Joining the queue -/

/-- At most one entry of each kind is queued (R100). -/
theorem joinQueue_kinds {kind : OpKind} {origin : Origin} {q : List QueueEntry} (h : (q.map QueueEntry.kind).Nodup) :
    ((joinQueue kind origin q).map QueueEntry.kind).Nodup := by
  unfold joinQueue
  split
  · rw [List.map_map]
    refine (congrArg List.Nodup (List.map_congr_left fun e _ => ?_)).mpr h
    simp only [Function.comp_apply]
    split <;> rfl
  · next hq =>
    rw [List.map_append, List.map_singleton, List.nodup_append_comm]
    refine List.nodup_cons.mpr ⟨fun hmem => hq ?_, h⟩
    simpa [isQueued] using hmem

theorem ControlWf.joined {c : SlotContext} {q : List QueueEntry} (h : ControlWf c) (hc : c.current ≠ none)
    (hq : (q.map QueueEntry.kind).Nodup) : ControlWf { c with queue := q } :=
  ⟨hq, fun hn => absurd hn hc, h.waiting, h.running, h.number, h.step, h.target, h.settle, h.idleTimer, h.unpowered⟩

/-- An operation that joins the queue leaves the slot sound (R100, R103). -/
theorem settles_joinOp {n : Slot} {s : State} (hw : ControlWf (s.slot n)) (hb : BindingWf (s.slot n)) (kind : OpKind)
    (origin : Origin) : Settles n s (joinOp n kind origin s) := by
  by_cases hc : (s.slot n).current = none
  · obtain ⟨hq, -⟩ := hw.idle hc
    rw [joinOp_of_idle hc hq]
    rcases takes_beginOp (hw.between hb hc) { kind := kind, origin := origin } with ⟨hsettles, -⟩ | ⟨hmoves, hbetween, hqueue⟩
    · exact hsettles
    · exact ⟨hmoves, hbetween.quiet.rests hbetween.current (hqueue.trans hq), hbetween.binding⟩
  · rw [joinOp_of_current hc]
    refine ⟨.setSlot (fun _ hx => hx) (.inr rfl), ?_, ?_⟩ <;> rw [State.slot_setSlot_self]
    · exact hw.joined hc (joinQueue_kinds hw.kinds)
    · exact hb.congr rfl rfl

theorem settles_askAuto {n : Slot} {s : State} (hw : ControlWf (s.slot n)) (hb : BindingWf (s.slot n)) (kind : OpKind) :
    Settles n s (askAuto n kind s) := by
  unfold askAuto
  split
  · exact settles_joinOp hw hb kind .auto
  · exact ⟨.refl n s, hw, hb⟩

/-! ### The end of an operation -/

/-- An operation that ends at a quiet slot with a sound binding leaves the slot sound (R104). -/
theorem settles_endOp {n : Slot} {op : CurrentOp} {s : State} (hq : Quiet (s.slot n)) (hb : BindingWf (s.slot n))
    (hc : (s.slot n).current = some op) (result : OpResult) (why : Option FailureReason) (e : Byte) (a : Word16) :
    Settles n s (endOp n result why e a s) := by
  unfold endOp
  rw [finishOp_of_current hc]
  refine .after ?_ (settles_pump ?_)
  · refine .setSlot (fun x hx => ?_) (.inr (mergeStatus_attempt ..))
    rwa [holdsSerial, mergeStatus_bindingState, mergeStatus_record] at hx
  · rw [State.slot_setSlot_self]
    have hended : Between { s.slot n with current := none } :=
      ⟨hq.congr rfl rfl rfl rfl rfl rfl id, rfl, hb.congr rfl rfl⟩
    exact hended.merged ..

end Sys2Proof.Machine
end

section
/-! What the end of an attempt does to a slot's agreement with itself: a response judged, and an attempt failed (for O56 and
O57). -/

namespace Sys2Proof.Machine

/-! ### A slot whose attempt has ended -/

theorem ControlWf.over {c : SlotContext} (h : ControlWf c) (ha : c.attempt ≠ none) : Quiet (attemptOver c) where
  kinds := h.kinds
  attempt := rfl
  settle := h.settle
  idleTimer := by
    rw [if_pos (by exact h.running ha)]
    rfl
  unpowered := h.unpowered

/-- A binding that takes another state as its operation ends leaves the slot sound (R90, R104). -/
theorem settles_ended {n : Slot} {b : BindingState} {r : BindingRecord} {s : State} (hq : Quiet (s.slot n))
    (hopen : ¬(b = .noCartridge ∨ b = .released)) (hb : BindingWf (endedSlot b r (s.slot n)))
    (hserial : ∀ x, holdsSerial (endedSlot b r (s.slot n)) x →
      holdsSerial (s.slot n) x ∨ ∀ m, m ≠ n → ¬holdsSerial (s.slot m) x)
    (allowance : Nat) (p : Option Primary) (e : Byte) (a : Word16) :
    Settles n s (pump n (s.setSlot n (mergeStatus allowance p e a (endedSlot b r (s.slot n))))) := by
  have hended : Between (endedSlot b r (s.slot n)) :=
    ⟨hq.congr rfl rfl rfl rfl rfl rfl fun h => absurd h hopen, rfl, hb⟩
  refine .after ?_ (settles_pump ?_)
  · refine .written (fun x hx => hserial x ?_) (.inr (mergeStatus_attempt ..))
    rwa [holdsSerial, mergeStatus_bindingState, mergeStatus_record] at hx
  · rw [State.slot_setSlot_self]
    exact hended.merged ..

/-- A FAILED binding holds no serial. -/
theorem settles_fails {n : Slot} {r : BindingRecord} {s : State} (hq : Quiet (s.slot n)) (hr : RecordSound r)
    {why : FailureReason} (hf : r.failure = some why) (allowance : Nat) (p : Option Primary) (e : Byte) (a : Word16) :
    Settles n s (pump n (s.setSlot n (mergeStatus allowance p e a (endedSlot .failed r (s.slot n))))) :=
  settles_ended hq (by simp) (RecordSound.failed hr rfl fun h => absurd (hf.symm.trans h) nofun) (fun _ hx => absurd rfl hx.1)
    allowance p e a

/-- A slot whose attempt is over, as its response is judged (R83). -/
structure Judging (n : Slot) (op : CurrentOp) (s : State) : Prop where
  quiet : Quiet (s.slot n)
  binding : BindingWf (s.slot n)
  current : (s.slot n).current = some op
  step : stepAllowed op (s.slot n)
  checkpoints : CheckpointsSound s

/-! ### The identity judged -/

theorem stepAllowed_ident {op : CurrentOp} {c : SlotContext} (h : stepAllowed op c) (hb : BindingWf c) (hs : op.step = .ident) :
    op.kind = .bind ∧ c.record.identity = none := by
  unfold stepAllowed at h
  rw [hs] at h
  cases hk : op.kind with
  | bind =>
    rw [hk] at h
    exact ⟨rfl, h.elim hb.unidentified And.right⟩
  | verify | writeBack | release => simp [hk] at h

/-- The identity judgment leaves the slot sound, and gives it no serial that another slot's binding holds (R106). -/
theorem settles_judgeIdentity {n : Slot} {op : CurrentOp} {s : State} (h : Judging n op s) (hs : op.step = .ident)
    (msg : List Byte) : Settles n s (judgeIdentity n msg s) := by
  obtain ⟨hq, hb, hc, hstep, -⟩ := h
  obtain ⟨hkind, hnone⟩ := stepAllowed_ident hstep hb hs
  generalize hi : parseIdentity msg = i
  have hidentified : ∀ why, RecordSound { (s.slot n).record with identity := some i, failure := why } := fun _ =>
    hb.record.identify nofun rfl rfl rfl
  by_cases hbad : identityFormat msg ≠ 1 ∨ i.capacity = 0 ∨ i.inkType = 0
  · rw [judgeIdentity_bad hc hi hbad]
    refine settles_fails hq ?_ rfl ..
    exact hb.record.congr rfl rfl rfl rfl
  by_cases hink : (s.slot n).config.inkType ≠ 0 ∧ (s.slot n).config.inkType ≠ i.inkType
  · rw [judgeIdentity_wrongInk hc hi hbad hink]
    refine settles_fails hq ?_ rfl ..
    exact hidentified _
  cases hheld : serialHeldElsewhere n i.serial s with
  | true =>
    rw [judgeIdentity_duplicate hc hi hbad hink hheld]
    refine settles_fails hq ?_ rfl ..
    exact hidentified _
  | false =>
    have hfree : ∀ (d : SlotContext) x, d.record.identity = some i → holdsSerial d x →
        holdsSerial (s.slot n) x ∨ ∀ m, m ≠ n → ¬holdsSerial (s.slot m) x := fun d x hd ⟨_, _, j, hj, hx⟩ => by
      rw [hd] at hj
      obtain rfl := Option.some.inj hj
      refine .inr fun m hm hmx => Bool.false_ne_true (hheld.symm.trans ((serialHeldElsewhere_iff ..).mpr ⟨m, hm, ?_⟩))
      rw [hx]
      exact hmx
    cases hkey : s.keyPresent with
    | false =>
      rw [judgeIdentity_keyless hc hi hbad hink hheld hkey]
      exact settles_ended hq (by simp) (RecordSound.identified (hidentified none) rfl (.inr rfl) nofun)
        (fun x => hfree _ x rfl) ..
    | true =>
      cases hhalt : op.haltPending with
      | true =>
        rw [judgeIdentity_halted hc hi hbad hink hheld hkey hhalt]
        exact settles_ended hq (by simp) (RecordSound.identified (hidentified none) rfl (.inl rfl) nofun)
          (fun x => hfree _ x rfl) ..
      | false =>
        rw [judgeIdentity_goesOn hc hi hbad hink hheld hkey hhalt]
        refine .after ?_ (settles_requestBus (op := { op with step := .challenge }) ?_ ?_ ?_ ?_)
        · exact .written (fun x => hfree _ x rfl) (.inr rfl)
        all_goals rw [State.slot_setSlot_self]
        · exact hq.congr rfl rfl rfl rfl rfl rfl (by simp)
        · exact RecordSound.identified (hidentified none) rfl (.inl rfl) nofun
        · simp [stepAllowed, hkind]

/-! ### The tag comparison judged -/

theorem fieldAt_lt (bs : List Byte) (i k : Nat) : fieldAt bs i k < 256 ^ k :=
  (beNat_lt _).trans_le (Nat.pow_le_pow_right (by decide) (List.length_take_le k _))

theorem stepAllowed_challenge {op : CurrentOp} {c : SlotContext} (h : stepAllowed op c) (hb : BindingWf c)
    (hs : op.step = .challenge) : c.record.identity ≠ none := by
  unfold stepAllowed at h
  rw [hs] at h
  cases hk : op.kind with
  | bind =>
    rw [hk] at h
    exact hb.identified (.inl h)
  | verify =>
    rw [hk] at h
    exact h.1
  | writeBack | release => simp [hk] at h

/-- Evidence steps and judgments keep who the binding is, its counts and its proof. -/
structure SameBinding (r q : BindingRecord) : Prop where
  identity : q.identity = r.identity
  uBind : q.uBind = r.uBind
  lastWritten : q.lastWritten = r.lastWritten
  metered : q.metered = r.metered
  verifiedOnce : q.verifiedOnce = r.verifiedOnce
  failure : q.failure = r.failure

theorem SameBinding.refl (r : BindingRecord) : SameBinding r r := ⟨rfl, rfl, rfl, rfl, rfl, rfl⟩

theorem SameBinding.trans {r q p : BindingRecord} (h : SameBinding r q) (g : SameBinding q p) : SameBinding r p :=
  ⟨g.identity.trans h.identity, g.uBind.trans h.uBind, g.lastWritten.trans h.lastWritten, g.metered.trans h.metered,
    g.verifiedOnce.trans h.verifiedOnce, g.failure.trans h.failure⟩

theorem SameBinding.sound {r q : BindingRecord} (h : SameBinding r q) (hr : RecordSound r) : RecordSound q :=
  hr.congr h.identity h.uBind h.lastWritten h.metered

theorem sameBinding_setRaw (cfg : SlotConfig) (k : EvidenceKind) (v : Nat) (r : BindingRecord) :
    SameBinding r (setRaw cfg k v r).1 := ⟨rfl, rfl, rfl, rfl, rfl, rfl⟩

theorem sameBinding_judgeSilently (cfg : SlotConfig) (r : BindingRecord) : SameBinding r (judgeSilently cfg r).1 := by
  rw [judgeSilently_frame]
  exact ⟨rfl, rfl, rfl, rfl, rfl, rfl⟩

theorem sameBinding_evidenceIf {f : BindingRecord → BindingRecord × Word16} (hf : ∀ r, SameBinding r (f r).1) (b : Bool)
    (p : BindingRecord × Word16) : SameBinding p.1 (evidenceIf b f p).1 := by
  unfold evidenceIf
  split
  · exact hf p.1
  · exact .refl _

/-- A binding becomes VERIFIED as its operation ends (R107, R108, R132). -/
theorem becomeVerified_eq (n : Slot) (event : SlotEvent) (judged : Bool) (alerts : Word16) (s : State)
    {p : BindingRecord × Word16} (hp : p = evidenceIf judged (judgeSilently (s.slot n).config) (provedRecord (s.slot n).record, alerts)) :
    becomeVerified n event judged alerts s = endOp n .verified none event.bits p.2
      (s.setSlot n { enterState s.policy.allowance .verified none (s.slot n) with record := p.1 }) := by
  unfold becomeVerified setBinding
  simp only [modSlot_eq, State.slot_setSlot_self, State.setSlot_setSlot]
  rw [hp]
  rfl

theorem settles_becomeVerified {n : Slot} {op : CurrentOp} {s : State} (hq : Quiet (s.slot n))
    (hr : RecordSound (s.slot n).record) (hu : (s.slot n).record.uBind ≠ none) (hc : (s.slot n).current = some op)
    (hopen : (s.slot n).bindingState ≠ .failed ∧ (s.slot n).bindingState ≠ .released) (event : SlotEvent) (judged : Bool)
    (alerts : Word16) : Settles n s (becomeVerified n event judged alerts s) := by
  rw [becomeVerified_eq n event judged alerts s rfl]
  have hsame := sameBinding_evidenceIf (sameBinding_judgeSilently (s.slot n).config) judged
    (provedRecord (s.slot n).record, alerts)
  generalize evidenceIf judged (judgeSilently (s.slot n).config) (provedRecord (s.slot n).record, alerts) = p at hsame ⊢
  have hproved : RecordSound (provedRecord (s.slot n).record) := hr.congr rfl rfl rfl rfl
  refine .after ?_ (settles_endOp (op := op) ?_ ?_ ?_ ..)
  · exact .setSlot (holdsSerial_of_kept hsame.identity (.inr (.inr (.inr hopen)))) (.inr rfl)
  all_goals rw [State.slot_setSlot_self]
  · exact hq.congr rfl rfl rfl rfl rfl rfl (by rintro (h | h) <;> exact absurd h nofun)
  · exact RecordSound.verified (hsame.sound hproved) hsame.failure rfl (fun h => hu (hsame.uBind.symm.trans h))
      hsame.verifiedOnce
  · exact hc

/-! ### The evaluation at BIND -/

theorem foldl_max_le {l : List Nat} {a b : Nat} (ha : a ≤ b) (h : ∀ x ∈ l, x ≤ b) : l.foldl max a ≤ b := by
  induction l generalizing a with
  | nil => exact ha
  | cons x l ih => exact ih (max_le ha (h x (by simp))) fun y hy => h y (by simp [hy])

theorem foldl_max_mono {l : List Checkpoint} {f g : Checkpoint → Nat} {a b : Nat} (hab : a ≤ b) (h : ∀ k ∈ l, f k ≤ g k) :
    (l.map f).foldl max a ≤ (l.map g).foldl max b := by
  induction l generalizing a b with
  | nil => exact hab
  | cons k l ih => exact ih (max_le_max hab (h k (by simp))) fun j hj => h j (by simp [hj])

/-- What the checkpoints give: the acknowledged count is not above U_bind, and U_bind is in range (R140, R142). -/
theorem bindFromCheckpoints_bounds {found : List Checkpoint} {used : Nat} (generation : Nat) (hu : used ≤ 4294967295)
    (h : ∀ k ∈ found, k.acknowledged ≤ k.estimate ∧ k.estimate ≤ 4294967295) :
    (bindFromCheckpoints found used generation).2.1 ≤ (bindFromCheckpoints found used generation).1 ∧
      (bindFromCheckpoints found used generation).1 ≤ 4294967295 := by
  unfold bindFromCheckpoints
  dsimp only
  generalize hm : found.filter (fun c => decide (c.generation = generation)) = matching
  have hmatching : ∀ k ∈ matching, k.acknowledged ≤ k.estimate ∧ k.estimate ≤ 4294967295 := fun k hk => by
    rw [← hm] at hk
    exact h k (List.mem_of_mem_filter hk)
  split
  · exact ⟨le_rfl, hu⟩
  · refine ⟨max_le_max le_rfl (foldl_max_mono le_rfl fun k hk => (hmatching k hk).1),
      max_le hu (foldl_max_le (Nat.zero_le _) fun e he => ?_)⟩
    obtain ⟨k, hk, rfl⟩ := List.mem_map.mp he
    exact (hmatching k hk).2

theorem mem_checkpointsOf {serial : Serial} {k : Checkpoint} {s : State} (h : k ∈ checkpointsOf serial s) :
    ∃ n : Slot, s.refill.checkpoints[n] = some k := by
  obtain ⟨n, -, hn⟩ := List.mem_filterMap.mp h
  split at hn
  · next c hc =>
    split at hn
    · exact ⟨n, hc.trans hn⟩
    · exact absurd hn nofun
  · exact absurd hn nofun

theorem removeRetired_slots (e : RetiredEntry) (s : State) : (removeRetired e s).slots = s.slots := commit_slots ..

theorem sameBinding_bindEvidence (cfg : SlotConfig) (regresses refilled : Bool) (r : BindingRecord) :
    SameBinding r (evidenceIf refilled (setRaw cfg .retiredMatch 1)
      (evidenceIf regresses (countRaw cfg .regression) (r, 0))).1 :=
  (sameBinding_evidenceIf (f := countRaw cfg .regression) (fun _ => sameBinding_setRaw ..) regresses (r, 0)).trans
    (sameBinding_evidenceIf (sameBinding_setRaw cfg .retiredMatch 1) refilled _)

/-- The evaluation at BIND gives a sound record with U_bind, and keeps the serial (R140 to R142). -/
theorem evaluateBind_sound {n : Slot} {i : Identity} {used : Nat} {s : State} (hi : (s.slot n).record.identity = some i)
    (hs : CheckpointsSound s) (hu : used ≤ 4294967295) (generation : Nat) :
    SlotMoves n s (evaluateBind n used generation s).1 ∧ ∃ r : BindingRecord,
      (evaluateBind n used generation s).1.slot n = { s.slot n with record := r } ∧ RecordSound r ∧ r.uBind ≠ none := by
  obtain ⟨hbelow, hmax⟩ := bindFromCheckpoints_bounds (found := checkpointsOf i.serial s) generation hu fun k hk =>
    (mem_checkpointsOf hk).elim fun m hm => hs m k hm
  unfold evaluateBind
  rw [hi]
  dsimp only
  generalize bindFromCheckpoints (checkpointsOf i.serial s) used generation = b at hbelow hmax ⊢
  generalize retiredFinding s.refill.retired i.serial used generation = finding
  have hsame := sameBinding_bindEvidence (s.slot n).config b.2.2 (decide (finding = .refilled)) { (s.slot n).record with
    identity := some { i with generation := generation }, uBind := some b.1, lastWritten := some b.2.1 }
  generalize evidenceIf (decide (finding = .refilled)) (setRaw (s.slot n).config .retiredMatch 1) _ = p at hsame ⊢
  have hsound : RecordSound p.1 := by
    refine hsame.sound ⟨fun _ => nofun, rfl, ?_, hmax⟩
    simp only [BindingRecord.uEst, Option.map_some, Option.getD_some, satAdd32, satAdd, Config.max32]
    omega
  have hmoves : SlotMoves n s (s.setSlot n { s.slot n with record := p.1 }) := by
    refine .setSlot (fun x ⟨hf, hr, j, hj, hx⟩ => ⟨hf, hr, i, hi, ?_⟩) (.inr rfl)
    rw [← hx, ← Option.some.inj (hsame.identity.symm.trans hj)]
  have hslot : (s.setSlot n { s.slot n with record := p.1 }).slot n = { s.slot n with record := p.1 } :=
    State.slot_setSlot_self n _ s
  have hset : p.1.uBind ≠ none := by rw [hsame.uBind]; nofun
  cases finding with
  | authorisedRefill e =>
    exact ⟨hmoves.trans (slotMoves_removeRetired n e _), p.1, (State.slot_congr (removeRetired_slots e _) n).trans hslot,
      hsound, hset⟩
  | notListed | refilled | emptyCartridge => exact ⟨hmoves, p.1, hslot, hsound, hset⟩

/-! ### The evaluation at VERIFY -/

/-- The evaluation at VERIFY keeps the record sound, its identity and its U_bind (R143). -/
theorem evaluateVerify_sound {r : BindingRecord} {used : Nat} (h : RecordSound r) (hu : r.uBind ≠ none)
    (hused : used ≤ 4294967295) (cfg : SlotConfig) (generation : Nat) :
    RecordSound (evaluateVerify cfg used generation r).1.1 ∧ (evaluateVerify cfg used generation r).1.1.uBind ≠ none ∧
      (evaluateVerify cfg used generation r).1.1.identity = r.identity := by
  unfold evaluateVerify
  split
  · next i u est lw hi hub hest hlw =>
    have hstored := h.stored
    have hest' : est = min (u + r.metered) 4294967295 := by
      simpa [BindingRecord.uEst, hub, satAdd32, satAdd, Config.max32] using hest.symm
    rw [hub, Option.getD_some] at hstored
    split
    · exact ⟨h.congr rfl rfl rfl rfl, hu, rfl⟩
    · split
      · next hle =>
        refine ⟨⟨h.evaluated, ?_, ?_, ?_⟩, hu, rfl⟩
        · simp [hub]
        · simp [BindingRecord.uEst, hub, satAdd32, satAdd, Config.max32]
          omega
        · simpa [hub] using hstored
      · next hgt =>
        refine ⟨⟨fun _ => by simp [hi], rfl, ?_, ?_⟩, nofun, rfl⟩
        · simp only [BindingRecord.uEst, Option.map_some, Option.getD_some, satAdd32, satAdd, Config.max32]
          omega
        · simp only [Option.getD_some]
          omega
  · exact ⟨h, hu, rfl⟩

/-- The tag comparison leaves the slot sound (R107, R108, R131 to R133). -/
theorem settles_judgeChallenge {n : Slot} {op : CurrentOp} {s : State} (h : Judging n op s) (hs : op.step = .challenge)
    (a : Attempt) (msg : List Byte) : Settles n s (judgeChallenge n a msg s) := by
  obtain ⟨hq, hb, hc, hstep, hcheck⟩ := h
  obtain ⟨hfailed, hreleased, -⟩ := stepAllowed_open hstep
  have hused : fieldAt msg 1 4 ≤ 4294967295 := Nat.le_of_lt_succ (fieldAt_lt msg 1 4)
  by_cases hm : tagMatches s.key (s.slot n).record a msg = true
  · by_cases hbinds : isCurrent .bind (s.slot n) = true ∨ (s.slot n).record.uBind = none
    · obtain ⟨i, hi⟩ := Option.ne_none_iff_exists'.mp (stepAllowed_challenge hstep hb hs)
      obtain ⟨hmoves, r, hslot, hr, hu⟩ := evaluateBind_sound hi hcheck hused (fieldAt msg 5 1)
      rw [judgeChallenge_binds hm hbinds rfl]
      refine .after hmoves (settles_becomeVerified (op := op) ?_ ?_ ?_ ?_ ?_ ..) <;> rw [hslot]
      · exact hq.congr rfl rfl rfl rfl rfl rfl id
      · exact hr
      · exact hu
      · exact hc
      · exact ⟨hfailed, hreleased⟩
    · obtain ⟨hkind, hu⟩ := not_or.mp hbinds
      obtain ⟨hr, hu', hi⟩ := evaluateVerify_sound hb.record hu hused (s.slot n).config (fieldAt msg 5 1)
      rw [judgeChallenge_verify hm (by simpa using hkind) hu rfl]
      refine .after ?_ (settles_becomeVerified (op := op) ?_ ?_ ?_ ?_ ?_ ..)
      · exact .setSlot (holdsSerial_of_kept hi (.inr (.inr (.inr ⟨hfailed, hreleased⟩)))) (.inr rfl)
      all_goals rw [State.slot_setSlot_self]
      · exact hq.congr rfl rfl rfl rfl rfl rfl id
      · exact hr
      · exact hu'
      · exact hc
      · exact ⟨hfailed, hreleased⟩
  · rw [judgeChallenge_fails hc hm]
    refine settles_fails (r := { (s.slot n).record with failure := some .auth }) hq ?_ rfl ..
    exact hb.record.congr rfl rfl rfl rfl

/-! ### The evaluation at ADVANCE -/

theorem sameBinding_refusedRecord (below : Bool) (r : BindingRecord) : SameBinding r (refusedRecord below r) :=
  ⟨rfl, rfl, rfl, rfl, rfl, rfl⟩

/-- A binding proved: its record is sound, evaluated and proved, and holds no failure. -/
structure ProvedRecord (i : Identity) (r : BindingRecord) : Prop where
  sound : RecordSound r
  uBind : r.uBind ≠ none
  identity : r.identity = some i
  verifiedOnce : r.verifiedOnce = true
  failure : r.failure = none

theorem SameBinding.proved {i : Identity} {r q : BindingRecord} (h : SameBinding r q) (hr : ProvedRecord i r) :
    ProvedRecord i q :=
  ⟨h.sound hr.sound, by rw [h.uBind]; exact hr.uBind, h.identity.trans hr.identity, h.verifiedOnce.trans hr.verifiedOnce,
    h.failure.trans hr.failure⟩

theorem BindingWf.proved {c : SlotContext} (h : BindingWf c) (hv : c.bindingState = .verified) :
    ∃ i, ProvedRecord i c.record := by
  obtain ⟨hu, honce⟩ := h.verified hv
  obtain ⟨i, hi⟩ := Option.ne_none_iff_exists'.mp (h.evaluated hu)
  exact ⟨i, h.record, hu, hi, honce, h.noFailure (by simp [hv])⟩

/-- The evaluation at ADVANCE keeps the binding proved (R138, R144). -/
theorem evaluateAdvance_proved {i : Identity} {r : BindingRecord} {v : Nat} (h : ProvedRecord i r) (hv : v ≤ 4294967295)
    (cfg : SlotConfig) (T : Nat) : ProvedRecord i (evaluateAdvance cfg v T r).record := by
  obtain ⟨u, hu⟩ := Option.ne_none_iff_exists'.mp h.uBind
  by_cases hT : T ≤ v
  · rw [evaluateAdvance_taken hu rfl hT]
    have hstored := h.sound.stored
    rw [hu, Option.getD_some] at hstored
    refine ⟨⟨fun _ => by rw [takenRecord, h.identity]; nofun, rfl, ?_, ?_⟩, nofun, h.identity, h.verifiedOnce, h.failure⟩
    · simp only [takenRecord, BindingRecord.uEst, Option.map_some, Option.getD_some, satAdd32, satAdd, Config.max32]
      split <;> omega
    · simp only [takenRecord, Option.getD_some]
      split <;> omega
  · have hack := h.sound.acknowledged
    rw [hu, Option.isSome_some, Option.isSome_iff_exists] at hack
    obtain ⟨lw, hlw⟩ := hack
    rw [evaluateAdvance_refused hlw (Nat.lt_of_not_le hT)]
    exact (sameBinding_refusedRecord _ r).proved h

/-- The end of the operation that made an ADVANCE leaves the slot sound (R109, R110, R113). -/
theorem settles_endAdvance {n : Slot} {op : CurrentOp} {s : State} (hq : Quiet (s.slot n)) (hb : BindingWf (s.slot n))
    (hc : (s.slot n).current = some op) (hv : (s.slot n).bindingState = .verified) (taken : Bool) (alerts : Word16) :
    Settles n s (endAdvance n op taken alerts s) := by
  unfold endAdvance
  split
  · split
    · exact settles_endOp hq hb hc ..
    · have hreleased := finishRelease_eq hc hb.isEvaluated (by simp [hv]) (by simp [hv]) alerts
      obtain ⟨hmoves, hbetween, -⟩ := releasedSlot_between hq hb hreleased
      exact .after hmoves (settles_pump hbetween)
  · exact settles_endOp hq hb hc ..

/-- An answer that was taken writes its checkpoint; the slot takes the record alone (R144, R145). -/
theorem advanceWritten_moves {n : Slot} {i : Identity} {e : AdvanceOutcome} {s : State}
    (hi : (s.slot n).record.identity = some i) (he : ProvedRecord i e.record) :
    SlotMoves n s (advanceWritten n e s) ∧ (advanceWritten n e s).slot n = { s.slot n with record := e.record } := by
  have hslot : (s.setSlot n { s.slot n with record := e.record }).slot n = { s.slot n with record := e.record } :=
    State.slot_setSlot_self n _ s
  have hmoves : SlotMoves n s (s.setSlot n { s.slot n with record := e.record }) := by
    refine .setSlot (fun x ⟨hf, hr, j, hj, hx⟩ => ⟨hf, hr, j, ?_, hx⟩) (.inr rfl)
    rw [hi, ← he.identity]
    exact hj
  unfold advanceWritten
  split
  · refine ⟨hmoves.trans (slotMoves_writeCheckpoint (by rw [hslot]; exact he.sound)), ?_⟩
    rw [State.slot_congr (writeCheckpoint_slots n _)]
    exact hslot
  · exact ⟨hmoves, hslot⟩

theorem stepAllowed_advance {op : CurrentOp} {c : SlotContext} (h : stepAllowed op c) (hs : op.step = .advance) :
    c.bindingState = .verified := by
  unfold stepAllowed at h
  rw [hs] at h
  cases hk : op.kind with
  | writeBack | release =>
    rw [hk] at h
    exact h
  | bind | verify => simp [hk] at h

/-- The answer of an ADVANCE leaves the slot sound (R109, R110, R144). -/
theorem settles_judgeAdvance {n : Slot} {op : CurrentOp} {s : State} (h : Judging n op s) (hs : op.step = .advance)
    (msg : List Byte) : Settles n s (judgeAdvance n msg s) := by
  obtain ⟨hq, hb, hc, hstep, -⟩ := h
  have hv := stepAllowed_advance hstep hs
  obtain ⟨i, hproved⟩ := hb.proved hv
  have he := evaluateAdvance_proved hproved (Nat.le_of_lt_succ (fieldAt_lt msg 1 4)) (s.slot n).config (op.target.getD 0)
  rw [judgeAdvance_of_current hc]
  generalize evaluateAdvance (s.slot n).config (fieldAt msg 1 4) (op.target.getD 0) (s.slot n).record = e at he ⊢
  obtain ⟨hmoves, hslot⟩ := advanceWritten_moves hproved.identity he
  unfold concludeAdvance
  dsimp only
  rw [hslot]
  have hjudged := sameBinding_evidenceIf (sameBinding_judgeSilently (s.slot n).config) e.raised (e.record, e.alerts)
  generalize evidenceIf e.raised (judgeSilently (s.slot n).config) (e.record, e.alerts) = p at hjudged ⊢
  obtain ⟨hsound, hu, hidentity, honce, hfailure⟩ := hjudged.proved he
  refine .after hmoves (.after (t := (advanceWritten n e s).setSlot n { s.slot n with record := p.1 }) ?_
    (settles_endAdvance ?_ ?_ ?_ ?_ ..))
  · refine .setSlot (holdsSerial_of_kept ?_ (.inr (.inr (.inr ?_)))) (.inr ?_) <;> rw [hslot]
    · exact hjudged.identity
    · simp [hv]
  all_goals rw [State.slot_setSlot_self]
  · exact hq.congr rfl rfl rfl rfl rfl rfl id
  · exact RecordSound.verified hsound hfailure hv hu honce
  · exact hc
  · exact hv

/-- A good response leaves the slot sound (R83). -/
theorem settles_handResponse {n : Slot} {op : CurrentOp} {s : State} (h : Judging n op s) (a : Attempt) (msg : List Byte) :
    Settles n s (handResponse n op a msg s) := by
  unfold handResponse
  split
  · next hs => exact settles_judgeIdentity h hs msg
  · next hs => exact settles_judgeChallenge h hs a msg
  · next hs => exact settles_judgeAdvance h hs msg

/-! ### A failed attempt -/

/-- What follows a failed attempt leaves the slot sound: the next attempt, or the LINK outcome (R83, R84, R86). -/
theorem settles_failAttempt {n : Slot} {op : CurrentOp} {a : Attempt} {s : State} (hw : ControlWf (s.slot n))
    (hb : BindingWf (s.slot n)) (hc : (s.slot n).current = some op) (ha : (s.slot n).attempt = some a) :
    Settles n (s.attemptFailed n a) (failAttempt n a s) := by
  obtain ⟨hone, hthree⟩ := hw.number a ha
  have hattempt : (s.slot n).attempt ≠ none := by rw [ha]; nofun
  have hq : Quiet (failedSlot (s.slot n)) := (hw.over hattempt).congr rfl rfl rfl rfl rfl rfl id
  have hc' : ((s.attemptFailed n a).slot n).current = some op := by
    rw [State.attemptFailed_slot]
    exact hc
  rw [failAttempt_eq]
  split
  · next hlt =>
    refine settles_startAttempt (op := op) ?_ ?_ hc' ?_ ?_ ⟨by omega, by omega⟩ fun hadv => ?_ <;>
      rw [State.attemptFailed_slot]
    · exact hq
    · exact hb.congr rfl rfl
    · exact hw.step op hc
    · exact hw.running hattempt
    · obtain ⟨T, hT, hle⟩ := hw.target op hc hadv hattempt
      rw [advanceTarget_retry hone hT]
      exact hle
  · rw [linkOutcome_eq hc', State.attemptFailed_slot]
    obtain ⟨hfailed, hreleased, -⟩ := stepAllowed_open (hw.step op hc)
    have hlost : Quiet { failedSlot (s.slot n) with
        queue := [], current := none, bindingState := .linkLost, record := { (s.slot n).record with failure := none } } :=
      ⟨List.nodup_nil, rfl, hq.settle, hq.idleTimer, by simp⟩
    refine ⟨.setSlot (fun x ⟨_, _, i, hi, hx⟩ => ?_) (.inl (mergeStatus_attempt ..)), ?_, ?_⟩
    · rw [mergeStatus_record] at hi
      rw [State.attemptFailed_slot]
      exact ⟨hfailed, hreleased, i, hi, hx⟩
    all_goals rw [State.slot_setSlot_self]
    · exact (hlost.merged ..).rests (mergeStatus_current ..) (mergeStatus_queue ..)
    · refine BindingWf.merged (RecordSound.unproved ?_ rfl (.inl rfl)) ..
      exact hb.record.congr rfl rfl rfl rfl

end Sys2Proof.Machine
end

section
/-! Every step keeps the slots in agreement with themselves, the serials distinct and the nonces distinct and unspent (for O56
and O57). -/

namespace Sys2Proof.Machine

/-! ### What a step keeps -/

/-- What O56 and O57 ask of what a step leaves, with the spent nonces not more than before. -/
structure Kept (s t : State) : Prop where
  slots : SlotsWf t
  spent : t.spentNonces.length ≤ s.spentNonces.length
  serials : SerialsDistinct s → SerialsDistinct t
  nonces : NoncesWf s → s.spentNonces.length + 8 < 2 ^ 128 → NoncesWf t

theorem Kept.refl {s : State} (h : SlotsWf s) : Kept s s := ⟨h, le_rfl, id, fun h _ => h⟩

theorem Kept.trans {s t u : State} (h : Kept s t) (g : Kept t u) : Kept s u where
  slots := g.slots
  spent := g.spent.trans h.spent
  serials hs := g.serials (h.serials hs)
  nonces hs hroom := g.nonces (h.nonces hs hroom) (by have := h.spent; omega)

theorem nonceOf_eq_some {c : SlotContext} {v : Nonce} : nonceOf c = some v ↔ ∃ a, c.attempt = some a ∧ a.nonce = some v :=
  Option.bind_eq_some_iff

theorem noncesWf_iff (s : State) : NoncesWf s ↔ (∀ n v, nonceOf (s.slot n) = some v → v ∉ s.spentNonces) ∧
    ∀ m n v, nonceOf (s.slot m) = some v → nonceOf (s.slot n) = some v → m = n := by
  constructor
  · rintro ⟨hunspent, hdistinct⟩
    refine ⟨fun n v hv => ?_, fun m n v hm hn => ?_⟩
    · obtain ⟨a, ha, hav⟩ := nonceOf_eq_some.mp hv
      exact hunspent n a v ha hav
    · obtain ⟨a, ha, hav⟩ := nonceOf_eq_some.mp hm
      obtain ⟨b, hb, hbv⟩ := nonceOf_eq_some.mp hn
      exact hdistinct m n a b v ha hb hav hbv
  · rintro ⟨hunspent, hdistinct⟩
    exact ⟨fun n a v ha hav => hunspent n v (nonceOf_eq_some.mpr ⟨a, ha, hav⟩), fun m n a b v ha hb hav hbv =>
      hdistinct m n v (nonceOf_eq_some.mpr ⟨a, ha, hav⟩) (nonceOf_eq_some.mpr ⟨b, hb, hbv⟩)⟩

theorem running_iff (s : State) : s.running = true ↔ s.powered = true ∧ s.resetAsserted = false ∧ s.restoring = false := by
  simp only [State.running, State.alive, Bool.and_eq_true, Bool.not_eq_true', and_assoc]

/-! ### Work at one slot keeps the whole -/

/-- Slots stay sound where work at one leaves it sound. -/
theorem SlotsWf.of_work {n : Slot} {s t : State} (hw : SlotsWf s) (h : SlotWork n s t)
    (hcontrol : ControlWf (t.slot n)) (hbinding : BindingWf (t.slot n)) (hstopped : s.running = false → SlotIdle (t.slot n))
    (hunbound : s.powered = false ∨ s.restoring = true → (t.slot n).bindingState = .noCartridge)
    (hcheckpoints : CheckpointsSound t) : SlotsWf t where
  control m := by
    by_cases hm : m = n
    · rw [hm]; exact hcontrol
    · rw [h.others m hm]; exact hw.control m
  binding m := by
    by_cases hm : m = n
    · rw [hm]; exact hbinding
    · rw [h.others m hm]; exact hw.binding m
  stopped hr m := by
    have hr' : s.running = false := by
      rw [h.frame] at hr
      exact hr
    by_cases hm : m = n
    · rw [hm]; exact hstopped hr'
    · rw [h.others m hm]; exact hw.stopped hr' m
  unbound hu m := by
    have hu' : s.powered = false ∨ s.restoring = true := by
      rw [h.frame] at hu
      exact hu
    by_cases hm : m = n
    · rw [hm]; exact hunbound hu'
    · rw [h.others m hm]; exact hw.unbound hu' m
  checkpoints := hcheckpoints

section Moves
variable {n : Slot} {s t : State} (h : SlotMoves n s t)
include h

theorem SlotMoves.slot_ne {m : Slot} (hm : m ≠ n) : t.slot m = s.slot m := h.work.others m hm

/-- Two slots that hold one thing are one, where the slot worked at takes nothing that another holds. -/
theorem SlotMoves.serials_distinct (hs : SerialsDistinct s) : SerialsDistinct t := by
  have hother : ∀ m x, m ≠ n → holdsSerial (t.slot n) x → ¬holdsSerial (t.slot m) x := fun m x hm hn hmx => by
    rw [h.slot_ne hm] at hmx
    rcases h.serial x hn with hn | hn
    · exact hm (hs m n x hmx hn)
    · exact hn m hm hmx
  intro m k x hm hk
  by_cases hmn : m = n
  · by_contra hne
    exact hother k x (fun hkn => hne (hmn.trans hkn.symm)) (hmn ▸ hm) hk
  · by_cases hkn : k = n
    · exact absurd hm (hother m x hmn (hkn ▸ hk))
    · rw [h.slot_ne hmn] at hm
      rw [h.slot_ne hkn] at hk
      exact hs m k x hm hk

theorem SlotMoves.nonces_wf (hs : NoncesWf s) (hroom : s.spentNonces.length + 7 < 2 ^ 128) : NoncesWf t := by
  obtain ⟨hunspent, hdistinct⟩ := (noncesWf_iff s).mp hs
  have hother : ∀ m v, m ≠ n → nonceOf (t.slot n) = some v → nonceOf (t.slot m) ≠ some v := fun m v hm hn hmv => by
    rw [h.slot_ne hm] at hmv
    rcases h.nonce v hn with hn | hn
    · exact hm (hdistinct m n v hmv hn)
    · exact (hn hroom).2 m hm hmv
  refine (noncesWf_iff t).mpr ⟨fun m v hv => ?_, fun m k v hm hk => ?_⟩
  · rw [h.spent]
    by_cases hmn : m = n
    · rcases h.nonce v (hmn ▸ hv) with hv | hv
      · exact hunspent n v hv
      · exact (hv hroom).1
    · rw [h.slot_ne hmn] at hv
      exact hunspent m v hv
  · by_cases hmn : m = n
    · by_contra hne
      exact hother k v (fun hkn => hne (hmn.trans hkn.symm)) (hmn ▸ hm) hk
    · by_cases hkn : k = n
      · exact absurd hm (hother m v hmn (hkn ▸ hk))
      · rw [h.slot_ne hmn] at hm
        rw [h.slot_ne hkn] at hk
        exact hdistinct m k v hm hk

/-- Work at a slot of a part that runs, or at one that stays at rest without a new binding, keeps the whole. -/
theorem SlotMoves.kept (hw : SlotsWf s) (hcontrol : ControlWf (t.slot n)) (hbinding : BindingWf (t.slot n))
    (hstopped : s.running = false → SlotIdle (t.slot n))
    (hunbound : s.powered = false ∨ s.restoring = true → (t.slot n).bindingState = .noCartridge) : Kept s t :=
  ⟨hw.of_work h.work hcontrol hbinding hstopped hunbound (h.checkpoints hw.checkpoints), h.spent ▸ le_rfl, h.serials_distinct,
    fun hs hroom => h.nonces_wf hs (by omega)⟩

end Moves

theorem Settles.kept {n : Slot} {s t : State} (h : Settles n s t) (hw : SlotsWf s) (hr : s.running = true) : Kept s t := by
  obtain ⟨hp, -, hrest⟩ := (running_iff s).mp hr
  exact h.moves.kept hw h.control h.binding (fun hn => absurd hr (by simp [hn])) (by simp [hp, hrest])

/-- A slot that works, or has a binding with RESET_N released, shows that the part runs. -/
theorem SlotsWf.running_of_busy {n : Slot} {s : State} (h : SlotsWf s) (hb : ¬SlotIdle (s.slot n)) : s.running = true := by
  by_contra hr
  exact hb (h.stopped (by simpa using hr) n)

theorem SlotsWf.running_of_bound {n : Slot} {s : State} (h : SlotsWf s) (ha : s.resetAsserted = false)
    (hb : (s.slot n).bindingState ≠ .noCartridge) : s.running = true := by
  have hbound := mt (fun hu => h.unbound hu n) hb
  obtain ⟨hp, hr⟩ := not_or.mp hbound
  exact (running_iff s).mpr ⟨by simpa using hp, ha, by simpa using hr⟩

/-! ### States with slots alike -/

section Alike
variable {c d : SlotContext} (h : SlotAlike c d)
include h

theorem SlotAlike.control (hc : ControlWf c) : ControlWf d := by
  rw [SlotAlike] at h
  rw [h]
  exact ⟨hc.kinds, hc.idle, hc.waiting, hc.running, hc.number, hc.step, hc.target, hc.settle, hc.idleTimer, hc.unpowered⟩

theorem SlotAlike.idle (hc : SlotIdle c) : SlotIdle d := by
  rw [SlotAlike] at h
  rw [h]
  exact ⟨hc.current, hc.queue, hc.attempt, hc.supply, hc.timers⟩

theorem SlotAlike.bindingState : d.bindingState = c.bindingState := by rw [h]

theorem SlotAlike.record : d.record = c.record := by rw [h]

theorem SlotAlike.nonceOf : nonceOf d = nonceOf c := by rw [h]; rfl

theorem SlotAlike.holdsSerial (x : Serial) : holdsSerial d x ↔ holdsSerial c x := by
  unfold Machine.holdsSerial
  rw [h.bindingState, h.record]

end Alike

theorem SlotsAlike.serials_distinct {s t : State} (h : SlotsAlike s t) (hs : SerialsDistinct s) : SerialsDistinct t :=
  fun m n x hm hn => hs m n x (((h.slots m).holdsSerial x).mp hm) (((h.slots n).holdsSerial x).mp hn)

theorem SlotsAlike.nonces_wf {s t : State} (h : SlotsAlike s t) (hs : NoncesWf s) : NoncesWf t := by
  rw [noncesWf_iff] at hs ⊢
  obtain ⟨hunspent, hdistinct⟩ := hs
  refine ⟨fun n v hv => ?_, fun m n v hm hn => ?_⟩
  · rw [h.spent]
    exact hunspent n v ((h.slots n).nonceOf ▸ hv)
  · exact hdistinct m n v ((h.slots m).nonceOf ▸ hm) ((h.slots n).nonceOf ▸ hn)

theorem SlotsAlike.kept {s t : State} (h : SlotsAlike s t) (hw : SlotsWf s) : Kept s t where
  slots :=
    { control := fun n => (h.slots n).control (hw.control n)
      binding := fun n => (hw.binding n).congr (h.slots n).bindingState (h.slots n).record
      stopped := fun hr n => (h.slots n).idle (hw.stopped (h.running ▸ hr) n)
      unbound := fun hu n => by
        rw [h.powered, h.restoring] at hu
        exact (h.slots n).bindingState.trans (hw.unbound hu n)
      checkpoints := by rw [h.checkpoints]; exact hw.checkpoints }
  spent := h.spent ▸ le_rfl
  serials := h.serials_distinct
  nonces hs _ := h.nonces_wf hs

/-! ### The steps at one slot -/

/-- A slot that is written at a part that runs keeps the whole. -/
theorem kept_setSlot {n : Slot} {c : SlotContext} {s : State} (hw : SlotsWf s) (hr : s.running = true) (hcontrol : ControlWf c)
    (hbinding : BindingWf c) (hserial : ∀ x, holdsSerial c x → holdsSerial (s.slot n) x)
    (hnonce : c.attempt = none ∨ c.attempt = (s.slot n).attempt) : Kept s (s.setSlot n c) :=
  Settles.kept ⟨.setSlot hserial hnonce, by rw [State.slot_setSlot_self]; exact hcontrol,
    by rw [State.slot_setSlot_self]; exact hbinding⟩ hw hr

/-- A slot without a binding rests (R76, R77, R95). -/
theorem ControlWf.unbound_idle {c : SlotContext} (h : ControlWf c) (hb : c.bindingState = .noCartridge) : SlotIdle c := by
  have hcurrent : c.current = none := by
    by_contra hc
    obtain ⟨op, hop⟩ := Option.ne_none_iff_exists'.mp hc
    exact stepAllowed_powered (h.step op hop) (.inl hb)
  obtain ⟨hqueue, hattempt⟩ := h.idle hcurrent
  have hoff := h.unpowered (.inl hb)
  have hsettle := h.settle
  rw [hoff] at hsettle
  refine ⟨hcurrent, hqueue, hattempt, hoff, Option.not_isSome_iff_eq_none.mp (by simp [hsettle]), ?_⟩
  rw [h.idleTimer, hoff]
  rfl

theorem kept_joinOp {n : Slot} {kind : OpKind} {s : State} (hw : SlotsWf s) (ha : s.resetAsserted = false)
    (hm : mayJoin kind (s.slot n) = true) (origin : Origin) : Kept s (joinOp n kind origin s) :=
  (settles_joinOp (hw.control n) (hw.binding n) kind origin).kept hw
    (hw.running_of_bound ha ((mayJoin_iff ..).mp hm).bound)

/-- A slot without an attempt loses its queue and its operation (R104, R112). -/
theorem kept_emptied {n : Slot} {s : State} (hw : SlotsWf s) (hr : s.running = true) (ha : (s.slot n).attempt = none)
    (allowance : Nat) (p : Option Primary) :
    Kept s (s.setSlot n (mergeStatus allowance p 0 0 { s.slot n with queue := [], current := none })) := by
  obtain ⟨-, -, hsettle, hidle, hoff⟩ := (hw.control n).quiet ha
  have hquiet : Quiet { s.slot n with queue := [], current := none } := ⟨List.nodup_nil, ha, hsettle, hidle, hoff⟩
  have hbinding : BindingWf { s.slot n with queue := [], current := none } := (hw.binding n).congr rfl rfl
  refine kept_setSlot hw hr ((hquiet.merged ..).rests (mergeStatus_current ..) (mergeStatus_queue ..)) (hbinding.merged ..)
    (fun x hx => ?_) (.inr (mergeStatus_attempt ..))
  rwa [holdsSerial, mergeStatus_bindingState, mergeStatus_record] at hx

theorem kept_haltedState {n : Slot} {s : State} (hw : SlotsWf s) (hr : s.running = true) : Kept s (haltedState n s) := by
  have hcontrol := hw.control n
  unfold haltedState
  split
  · next hc =>
    have hsame : { s.slot n with queue := [] } = { s.slot n with queue := [], current := none } := by rw [← hc]
    rw [hsame]
    exact kept_emptied hw hr (hcontrol.idle hc).2 ..
  · next op hc =>
    split
    · next hattempt => exact kept_emptied hw hr (by simpa using hattempt) ..
    · next hattempt =>
      obtain ⟨a, ha⟩ := Option.ne_none_iff_exists'.mp (show (s.slot n).attempt ≠ none by simpa using hattempt)
      have hon := hcontrol.running (by simp [ha])
      have hidle : (s.slot n).idleTimer = none := by rw [hcontrol.idleTimer, if_neg (by simp [ha])]
      have hsettle := hcontrol.settle
      rw [hon] at hsettle
      refine kept_setSlot hw hr ?_ ((hw.binding n).congr rfl rfl) (fun _ hx => hx) (.inr rfl)
      exact controlWf_runs List.nodup_nil rfl ha hon (Option.not_isSome_iff_eq_none.mp (by simp [hsettle])) hidle
        (hcontrol.number a ha) (hcontrol.step op hc) fun hadv => hcontrol.target op hc hadv (by simp [ha])

theorem kept_configured {n : Slot} {cfg : SlotConfig} {s : State} (hw : SlotsWf s) (hr : s.running = true)
    (hidle : cfg.idle = (s.slot n).config.idle) : Kept s (s.setSlot n { s.slot n with config := cfg }) := by
  have hc := hw.control n
  refine kept_setSlot hw hr ⟨hc.kinds, hc.idle, hc.waiting, hc.running, hc.number, hc.step, hc.target, hc.settle, ?_,
    hc.unpowered⟩ ((hw.binding n).congr rfl rfl) (fun _ hx => hx) (.inr rfl)
  have hstart : idleStart cfg = idleStart (s.slot n).config := by rw [idleStart_eq, idleStart_eq, hidle]
  rw [hstart]
  exact hc.idleTimer

theorem kept_reconfigured {n : Slot} {cfg : SlotConfig} {s : State} (hw : SlotsWf s) (hr : s.running = true) :
    Kept s (s.setSlot n (restartIdle { s.slot n with config := cfg })) := by
  have hc := hw.control n
  have hb := hw.binding n
  unfold restartIdle
  split
  · next h =>
    refine kept_setSlot hw hr ⟨hc.kinds, hc.idle, hc.waiting, hc.running, hc.number, hc.step, hc.target, hc.settle, ?_,
      hc.unpowered⟩ (hb.congr rfl rfl) (fun _ hx => hx) (.inr rfl)
    exact (if_pos h).symm
  · next h =>
    refine kept_setSlot hw hr ⟨hc.kinds, hc.idle, hc.waiting, hc.running, hc.number, hc.step, hc.target, hc.settle, ?_,
      hc.unpowered⟩ (hb.congr rfl rfl) (fun _ hx => hx) (.inr rfl)
    exact hc.idleTimer.trans ((if_neg h).trans (if_neg h).symm)

theorem Touched.control {c d : SlotContext} (h : Touched c d) (hc : ControlWf c) : ControlWf d := by
  have hstep : ∀ op, stepAllowed op c → stepAllowed op d := fun op ho => by
    unfold stepAllowed at ho ⊢
    rw [h.frame, h.identity]
    exact ho
  have hkept := h.lastWritten
  have hstep' : ∀ op, c.current = some op → stepAllowed op d := fun op ho => hstep op (hc.step op ho)
  rw [h.frame] at hstep' ⊢
  refine ⟨hc.kinds, hc.idle, hc.waiting, hc.running, hc.number, hstep', ?_, hc.settle, hc.idleTimer, hc.unpowered⟩
  intro op ho hadv ha
  rw [hkept]
  exact hc.target op ho hadv ha

theorem kept_touched {n : Slot} {d : SlotContext} {s : State} (hw : SlotsWf s) (h : Touched (s.slot n) d) :
    Kept s (s.setSlot n d) := by
  have hb : d.bindingState = (s.slot n).bindingState := by rw [h.frame]
  have hmoves : SlotMoves n s (s.setSlot n d) := by
    refine .setSlot (fun x ⟨hf, hr, i, hi, hx⟩ => ⟨hb ▸ hf, hb ▸ hr, i, h.identity ▸ hi, hx⟩) (.inr ?_)
    rw [h.frame]
  refine hmoves.kept hw ?_ ?_ (fun hr => ?_) fun hu => ?_ <;> rw [State.slot_setSlot_self]
  · exact h.control (hw.control n)
  · exact (hw.binding n).touched h
  · have hidle := hw.stopped hr n
    rw [h.frame]
    exact ⟨hidle.current, hidle.queue, hidle.attempt, hidle.supply, hidle.timers⟩
  · exact hb.trans (hw.unbound hu n)

theorem holdsSerial_starting {c : SlotContext} (h : c.record = .starting) (x : Serial) : ¬holdsSerial c x := by
  rintro ⟨-, -, i, hi, -⟩
  rw [h] at hi
  exact absurd hi nofun

theorem bindingWf_begun {c : SlotContext} (hb : c.bindingState = .pendingId) (hr : c.record = .starting) : BindingWf c :=
  RecordSound.unidentified (hr ▸ recordSound_starting) (by rw [hr]; rfl) hb (by rw [hr]; rfl)

theorem kept_begun {n : Slot} {s : State} (hw : SlotsWf s) (hr : s.running = true)
    (hb : (s.slot n).bindingState = .noCartridge) : Kept s (s.setSlot n (beginBinding (s.slot n))) :=
  kept_setSlot hw hr (.of_idle (((hw.control n).unbound_idle hb).rebound _ _)) (bindingWf_begun rfl rfl)
    (fun x hx => absurd hx (holdsSerial_starting rfl x)) (.inr rfl)

theorem kept_removed {n : Slot} {s : State} (hw : SlotsWf s) (hr : s.running = true)
    (hb : (s.slot n).bindingState ≠ .noCartridge) : Kept s (removeCartridge n s) := by
  rw [removeCartridge_eq (hw.binding n).isEvaluated hb]
  refine Settles.kept ⟨(slotMoves_bindingEnds (hw.binding n)).trans (.setSlot (fun x hx => ?_) (.inl ?_)), ?_, ?_⟩ hw hr
  · exact absurd hx (holdsSerial_starting (mergeStatus_record ..) x)
  · exact mergeStatus_attempt ..
  · rw [State.slot_setSlot_self, mergeStatus_frame]
    exact .of_idle ⟨rfl, rfl, rfl, rfl, rfl, rfl⟩
  · rw [State.slot_setSlot_self]
    exact BindingWf.merged (.starting rfl rfl) ..

theorem kept_settled {n : Slot} {s : State} (hw : SlotsWf s) (ha : s.alive = true) (hs : (s.slot n).supply = .settling)
    (ht : (s.slot n).settleTimer ≠ none) : Kept s (expireSettle n s) := by
  have hr : s.running = true := hw.running_of_busy fun hidle => absurd (hs.symm.trans hidle.supply) nofun
  have hc := hw.control n
  have hattempt : (s.slot n).attempt = none := by
    by_contra hne
    exact absurd (hs.symm.trans (hc.running hne)) nofun
  have hslot : (s.setSlot n (settledSlot (s.slot n))).slot n = settledSlot (s.slot n) := State.slot_setSlot_self n _ s
  have hquiet : Quiet (settledSlot (s.slot n)) :=
    ⟨hc.kinds, hattempt, rfl, rfl, fun hb => absurd (hs.symm.trans (hc.unpowered hb)) nofun⟩
  have hbinding : BindingWf (settledSlot (s.slot n)) := (hw.binding n).congr rfl rfl
  rw [expireSettle_of_settling ha hs ht]
  have hmoves : SlotMoves n s (s.setSlot n (settledSlot (s.slot n))) := .setSlot (fun _ hx => hx) (.inr rfl)
  refine Settles.kept (.after hmoves ?_) hw hr
  cases hcur : (s.slot n).current with
  | none =>
    rw [startAttempt_of_none (by rw [hslot]; exact hcur)]
    refine ⟨.refl n _, ?_, ?_⟩ <;> rw [hslot]
    · exact hquiet.rests hcur (hc.idle hcur).1
    · exact hbinding
  | some op =>
    refine settles_startAttempt (op := op) ?_ ?_ ?_ ?_ ?_ ⟨le_rfl, by decide⟩ ?_ <;> rw [hslot]
    · exact hquiet
    · exact hbinding
    · exact hcur
    · exact hc.step op hcur
    · rfl
    · exact fun _ => hbinding.notAbove

theorem kept_supplyLost {n : Slot} {s : State} (hw : SlotsWf s) (ha : s.alive = true) (hs : (s.slot n).supply = .poweredOn)
    (ht : (s.slot n).idleTimer ≠ none) : Kept s (expireIdle n s) := by
  have hr : s.running = true := hw.running_of_busy fun hidle => absurd (hs.symm.trans hidle.supply) nofun
  have hc := hw.control n
  have hattempt : (s.slot n).attempt = none := by
    by_contra hne
    exact ht (hc.idleTimer.trans (if_neg fun h => hne h.2))
  have hcurrent : (s.slot n).current = none := by
    by_contra hne
    exact absurd (hs.symm.trans (hc.waiting hne hattempt)) nofun
  rw [expireIdle_of_running ha hs ht]
  exact kept_setSlot hw hr (.of_idle ⟨hcurrent, (hc.idle hcurrent).1, hattempt, rfl, rfl, rfl⟩)
    ((hw.binding n).congr rfl rfl) (fun _ hx => hx) (.inr rfl)

end Sys2Proof.Machine
end

section
/-! Power, reset and restore keep the slots sound; with every command, O56 and O57. -/

namespace Sys2Proof.Machine

/-! ### Slots that all rest -/

/-- A state whose slots all rest, with the bindings sound and no serial taken. -/
theorem kept_of_idle {s t : State} (hi : ∀ n : Slot, SlotIdle (t.slot n)) (hb : ∀ n : Slot, BindingWf (t.slot n))
    (hu : t.powered = false ∨ t.restoring = true → ∀ n : Slot, (t.slot n).bindingState = .noCartridge)
    (hc : CheckpointsSound t) (hspent : t.spentNonces.length ≤ s.spentNonces.length)
    (hserial : ∀ (n : Slot) x, holdsSerial (t.slot n) x → holdsSerial (s.slot n) x) : Kept s t where
  slots := .of_idle hi hb hu hc
  spent := hspent
  serials hs m n x hm hn := hs m n x (hserial m x hm) (hserial n x hn)
  nonces _ _ :=
    ⟨fun n _ _ ha => absurd ((hi n).attempt.symm.trans ha) nofun,
      fun m _ _ _ _ ha => absurd ((hi m).attempt.symm.trans ha) nofun⟩

/-- Power-on, a loss of power and their like leave every slot at rest without a binding (R178, R182). -/
theorem kept_cleared (st : RecordStore) (powered restoring : Bool) (s : State) :
    Kept s { volatileReset st s with powered := powered, restoring := restoring } := by
  have hslot : ∀ n, (State.slot { volatileReset st s with powered := powered, restoring := restoring } n) =
      SlotContext.initial (s.slot n).rawSeat := fun n => by
    simp [State.slot, volatileReset]
  refine kept_of_idle (fun n => ?_) (fun n => ?_) (fun _ n => ?_) (fun n k hk => ?_) (Nat.zero_le _) fun n x hx => ?_
  · rw [hslot]; exact .initial _
  · rw [hslot]; exact .starting rfl rfl
  · rw [hslot]; rfl
  · simp [volatileReset, State.reset, RefillMonitor.initial] at hk
  · rw [hslot] at hx
    exact absurd hx (holdsSerial_starting rfl x)

/-- RESET_N's assertion stops every slot and keeps the bindings (R97). -/
theorem kept_asserted {s : State} (hw : SlotsWf s) : Kept s (assertReset s) := by
  unfold assertReset
  split
  · have hslot : ∀ n, (s.mapSlots assertSlot).slot n = assertSlot (s.slot n) := fun n => State.slot_mapSlots n assertSlot s
    refine kept_of_idle (fun n => ?_) (fun n => ?_) (fun hu n => ?_) hw.checkpoints (Nat.zero_le _) fun n x hx => ?_
    · exact hslot n ▸ ⟨rfl, rfl, rfl, rfl, rfl, rfl⟩
    · exact hslot n ▸ (hw.binding n).congr rfl rfl
    · exact (congrArg SlotContext.bindingState (hslot n)).trans (hw.unbound hu n)
    · have hx' : holdsSerial ((s.mapSlots assertSlot).slot n) x := hx
      rw [hslot] at hx'
      exact hx'
  · exact .refl hw

/-! ### One treatment at each slot -/

/-- Slots that are treated in turn are as they were at first when their turn comes (log 13). -/
theorem overSlots_each {P : State → Prop} {f : Slot → State → State} {s : State} (hwork : ∀ n u, SlotWork n u (f n u))
    (h : ∀ n u, P u → u.slot n = s.slot n → P (f n u)) (hs : P s) : P (overSlots f s) := by
  have hfold : ∀ l : List Slot, l.Nodup → ∀ u, P u → (∀ n ∈ l, u.slot n = s.slot n) → P (l.foldl (fun t n => f n t) u) := by
    intro l
    induction l with
    | nil => exact fun _ u hu _ => hu
    | cons m l ih =>
      intro hl u hu hslots
      obtain ⟨hm, hl⟩ := List.nodup_cons.mp hl
      refine ih hl _ (h m u hu (hslots m (by simp))) fun n hn => ?_
      rw [(hwork m u).others n fun hnm => hm (hnm ▸ hn)]
      exact hslots n (by simp [hn])
  exact hfold allSlots (by decide) s hs fun _ _ => rfl

/-- Treatments that each leave their slot sound keep the whole. -/
theorem kept_overSlots {f : Slot → State → State} {s : State} (hw : SlotsWf s) (hr : s.running = true)
    (hwork : ∀ n u, SlotWork n u (f n u))
    (h : ∀ n u, SlotsWf u → u.slot n = s.slot n → Settles n u (f n u)) : Kept s (overSlots f s) := by
  refine (overSlots_each (P := fun u => Kept s u ∧ u.running = true) hwork (fun n u ⟨hu, hrun⟩ hslot => ?_)
    ⟨.refl hw, hr⟩).1
  refine ⟨hu.trans ((h n u hu.slots hslot).kept hu.slots hrun), ?_⟩
  rw [(hwork n u).frame]
  exact hrun

theorem settles_bindAuto {n : Slot} {s : State} (h : SlotIdle (s.slot n)) : Settles n s (bindAuto n s) := by
  have hslot : (s.modSlot n beginBinding).slot n = beginBinding (s.slot n) := State.slot_modSlot_self n _ s
  refine .after (t := s.modSlot n beginBinding) ?_ (settles_askAuto ?_ ?_ .bind)
  · exact .setSlot (fun x hx => absurd hx (holdsSerial_starting rfl x)) (.inr rfl)
  · rw [hslot]
    exact .of_idle (h.rebound _ _)
  · rw [hslot]
    exact bindingWf_begun rfl rfl

/-! ### The end of RESTORING -/

theorem checkpointAt_sound {f : Stored (Option Checkpoint)} {k : Checkpoint} (h : checkpointAt f = some k) :
    k.acknowledged ≤ k.estimate ∧ k.estimate ≤ 4294967295 := by
  unfold checkpointAt at h
  split at h
  · split at h
    · next hpasses =>
      obtain rfl := Option.some.inj h
      exact ⟨hpasses.2.2, hpasses.2.1⟩
    · exact absurd h nofun
  all_goals exact absurd h nofun

theorem slotsAlike_raiseRestoreInvalid (s : State) : SlotsAlike s (raiseRestoreInvalid s) := by
  unfold raiseRestoreInvalid
  split
  · exact slotsAlike_raise _ s
  · exact .refl s

theorem kept_restored {s : State} (hw : SlotsWf s) (hp : s.powered = true) (hr : s.restoring = true) :
    Kept s (endRestore s) := by
  have hidle : ∀ n, SlotIdle (s.slot n) := hw.stopped (by simp [State.running, hr])
  have hunbound : ∀ n, (s.slot n).bindingState = .noCartridge := hw.unbound (.inr hr)
  have hhanded : Kept s (handResults s) := by
    refine kept_of_idle hidle hw.binding (fun _ => hunbound) (fun n k hk => ?_) le_rfl fun _ _ hx => hx
    exact checkpointAt_sound ((restoredCheckpoints_get s.store n).symm.trans hk)
  rw [show endRestore s = _ from if_pos ⟨hp, hr⟩]
  dsimp only
  split
  · have hflag : SlotsAlike (handResults s) { handResults s with restoreEndedInReset := true } :=
      ⟨rfl, rfl, rfl, rfl, rfl, fun _ => rfl⟩
    exact hhanded.trans (hflag.kept hhanded.slots)
  · next ha =>
    have halike := slotsAlike_raiseRestoreInvalid (handResults s)
    have hraised := halike.kept hhanded.slots
    have hrun : (raiseRestoreInvalid (handResults s)).running = true := by
      rw [halike.running]
      exact (running_iff _).mpr ⟨hp, Bool.eq_false_iff.mpr ha, rfl⟩
    refine hhanded.trans (hraised.trans (kept_overSlots hraised.slots hrun slotWork_bindSeated fun n u hu hslot => ?_))
    unfold bindSeated
    split
    · refine settles_bindAuto ?_
      rw [hslot]
      exact (halike.slots n).idle (hidle n)
    · exact ⟨.refl n u, hu.control n, hu.binding n⟩

/-! ### The release of RESET_N -/

section Release
variable {n : Slot} {s : State} (hidle : SlotIdle (s.slot n)) (hb : BindingWf (s.slot n))
include hidle hb

theorem settles_endByEmptySeat (hlive : (s.slot n).bindingState ≠ .noCartridge) : Settles n s (endByEmptySeat n s) := by
  rw [endByEmptySeat_eq hidle hb.isEvaluated hlive]
  refine ⟨(slotMoves_bindingEnds hb).trans (.setSlot (fun x hx => ?_) (.inl ?_)), ?_, ?_⟩
  · exact absurd hx (holdsSerial_starting (mergeStatus_record ..) x)
  · exact (mergeStatus_attempt ..).trans hidle.attempt
  · rw [State.slot_setSlot_self, mergeStatus_frame]
    exact .of_idle ⟨hidle.current, hidle.queue, hidle.attempt, hidle.supply, hidle.timers⟩
  · rw [State.slot_setSlot_self]
    exact BindingWf.merged (.starting rfl rfl) ..

/-- A retained binding, identified and not ended, is proved again (R97). -/
theorem settles_reprove (hi : (s.slot n).record.identity ≠ none)
    (hopen : (s.slot n).bindingState ≠ .failed ∧ (s.slot n).bindingState ≠ .released) : Settles n s (reprove n s) := by
  have hplaced : setBinding n .pendingAuth none
      (s.modSlot n fun c => { c with record := { c.record with unverifiedUnits := 0 } }) = s.setSlot n
        { s.slot n with
            bindingState := .pendingAuth, record := { (s.slot n).record with unverifiedUnits := 0, failure := none } } := by
    unfold setBinding
    rw [modSlot_eq, modSlot_eq, State.slot_setSlot_self, State.setSlot_setSlot]
    rfl
  unfold reprove
  rw [hplaced]
  refine .after ?_ (settles_askAuto ?_ ?_ .verify)
  · exact .setSlot (holdsSerial_of_kept rfl (.inr (.inr (.inr hopen)))) (.inr rfl)
  all_goals rw [State.slot_setSlot_self]
  · exact .of_idle (hidle.rebound _ _)
  · exact RecordSound.identified (hb.record.congr rfl rfl rfl rfl) rfl (.inl rfl) hi

/-- An unidentified binding begins again (R97). -/
theorem settles_rebind (hi : (s.slot n).record.identity = none) :
    Settles n s (askAuto n .bind (setBinding n .pendingId none s)) := by
  refine .after (t := setBinding n .pendingId none s) ?_ (settles_askAuto ?_ ?_ .bind)
  · exact .setSlot (holdsSerial_of_kept rfl (.inr (.inr (.inl hi)))) (.inr rfl)
  all_goals rw [setBinding, State.slot_modSlot_self]
  · exact .of_idle (hidle.rebound _ _)
  · exact RecordSound.unidentified (hb.record.congr rfl rfl rfl rfl) rfl rfl hi

/-- The release leaves each slot sound (R97). -/
theorem settles_releaseSlot : Settles n s (releaseSlot n s) := by
  have hstays : Settles n s s := ⟨.refl n s, .of_idle hidle, hb⟩
  unfold releaseSlot
  split
  · exact hstays
  · next hlive => exact settles_endByEmptySeat hidle hb hlive
  · exact settles_bindAuto hidle
  · exact settles_askAuto (.of_idle hidle) hb .bind
  · next hs => exact settles_reprove hidle hb (hb.identified (.inl hs)) (by simp [hs])
  · next hs => exact settles_reprove hidle hb (hb.evaluated (hb.verified hs).1) (by simp [hs])
  · next hs =>
    split
    · next hi => exact settles_reprove hidle hb (Option.isSome_iff_ne_none.mp hi) (by simp [hs])
    · next hi => exact settles_rebind hidle hb (by simpa using hi)
  all_goals exact hstays

end Release

theorem kept_keyCommitted {s : State} (hw : SlotsWf s) (ha : s.resetAsserted = false) (root : RootKey) :
    Kept s (keyCommitted root s) := by
  have hkey : SlotsAlike s { s with key := .present root } := ⟨rfl, rfl, rfl, rfl, rfl, fun _ => rfl⟩
  refine (overSlots_keeps (P := fun u => Kept s u ∧ u.resetAsserted = false) (fun n u hu => ?_) _
    ⟨hkey.kept hw, ha⟩).1
  obtain ⟨hkept, hreleased⟩ := hu
  refine ⟨hkept.trans ?_, by rw [(slotWork_askUnverified n u).frame]; exact hreleased⟩
  unfold askUnverified askAuto
  split
  · split
    · next hm => exact kept_joinOp hkept.slots hreleased hm .auto
    · exact .refl hkept.slots
  · exact .refl hkept.slots

theorem kept_takeHeldCommit {s : State} (hw : SlotsWf s) (ha : s.resetAsserted = false) : Kept s (takeHeldCommit s) := by
  have hflag : ∀ t : State, SlotsAlike t { t with keyCommitHeld := false } := fun _ => ⟨rfl, rfl, rfl, rfl, rfl, fun _ => rfl⟩
  unfold takeHeldCommit
  split
  · split
    · next root _ =>
      have hkept := kept_keyCommitted hw ha root
      exact hkept.trans ((hflag _).kept hkept.slots)
    · exact (hflag s).kept hw
    · exact (hflag s).kept hw
  · exact .refl hw

/-- What the release takes over beside the key leaves the slots alike (R180, R181). -/
theorem slotsAlike_takeHeld (s : State) : SlotsAlike s (takeHeldRestore (takeHeldFailure s)) := by
  have hfailure : SlotsAlike s (takeHeldFailure s) := by
    unfold takeHeldFailure
    split
    · exact (slotsAlike_store _ s).trans (slotsAlike_raise _ _)
    · exact .refl s
  refine hfailure.trans ?_
  unfold takeHeldRestore
  split
  · exact (slotsAlike_raiseRestoreInvalid _).trans ⟨rfl, rfl, rfl, rfl, rfl, fun _ => rfl⟩
  · exact .refl _

theorem kept_released {s : State} (hw : SlotsWf s) (hp : s.powered = true) (ha : s.resetAsserted = true) :
    Kept s (releaseReset s) := by
  have hidle : ∀ n, SlotIdle (s.slot n) := hw.stopped (by simp [State.running, State.alive, ha])
  have hslot : ∀ n, (seatsRead s).slot n = readSeat (s.slot n) := fun n => State.slot_mapSlots n readSeat s
  have hidle' : ∀ n, SlotIdle ((seatsRead s).slot n) := fun n => by
    rw [hslot]
    exact ⟨(hidle n).current, (hidle n).queue, (hidle n).attempt, (hidle n).supply, (hidle n).timers⟩
  have hread : Kept s (seatsRead s) := by
    refine kept_of_idle hidle' (fun n => ?_) (fun hu n => ?_) hw.checkpoints le_rfl fun n x hx => ?_
    · rw [hslot]; exact (hw.binding n).congr rfl rfl
    · rw [hslot]; exact hw.unbound hu n
    · rw [hslot] at hx; exact hx
  have htreated : ∀ t, t = (if s.restoring then seatsRead s else overSlots releaseSlot (seatsRead s)) →
      Kept s t ∧ t.resetAsserted = false := by
    rintro t rfl
    split
    · exact ⟨hread, rfl⟩
    · next hr =>
      refine ⟨hread.trans (kept_overSlots hread.slots ((running_iff _).mpr ⟨hp, rfl, Bool.eq_false_iff.mpr hr⟩)
        slotWork_releaseSlot fun n u hu hu' => settles_releaseSlot ?_ (hu.binding n)), ?_⟩
      · rw [hu']
        exact hidle' n
      · exact overSlots_keeps (P := fun u => u.resetAsserted = false)
          (fun n u hu => by rw [(slotWork_releaseSlot n u).frame]; exact hu) _ rfl
  rw [releaseReset_eq hp ha]
  obtain ⟨hkept, hreleased⟩ := htreated _ rfl
  have hcommit := hkept.trans (kept_takeHeldCommit hkept.slots hreleased)
  exact hcommit.trans ((slotsAlike_takeHeld _).kept hcommit.slots)

/-! ### Every command -/

theorem SlotStep.kept {s t : State} (h : SlotStep s t) (hw : SlotsWf s) : Kept s t := by
  cases h with
  | alike h => exact h.kept hw
  | joined n kind origin ha hm => exact kept_joinOp hw ha hm origin
  | halted n hr => exact kept_haltedState hw hr
  | configured n cfg hr hidle => exact kept_configured hw hr hidle
  | reconfigured n cfg hr => exact kept_reconfigured hw hr
  | touched n d h => exact kept_touched hw h
  | begun n hr hb => exact kept_begun hw hr hb
  | removed n hr hb => exact kept_removed hw hr hb
  | settled n ha hs ht => exact kept_settled hw ha hs ht
  | supplyLost n ha hs ht => exact kept_supplyLost hw ha hs ht
  | restored hp hr => exact kept_restored hw hp hr
  | released hp ha => exact kept_released hw hp ha
  | asserted => exact kept_asserted hw
  | cleared st powered restoring => exact kept_cleared st powered restoring s

theorem kept_of_walk {s t : State} (h : SlotWalk s t) (hw : SlotsWf s) : Kept s t := by
  induction h with
  | refl => exact .refl hw
  | tail _ hstep ih => exact ih.trans (hstep.kept ih.slots)

/-- A nonce that failed is spent, and the slot that carried it carries none. -/
theorem noncesWf_attemptFailed {n : Slot} {a : Attempt} {s : State} (ha : (s.slot n).attempt = some a) (hs : NoncesWf s) :
    NoncesWf (s.attemptFailed n a) := by
  obtain ⟨hunspent, hdistinct⟩ := (noncesWf_iff s).mp hs
  have hself : ∀ m v, nonceOf ((s.attemptFailed n a).slot m) = some v → m ≠ n := fun m v hv hm => by
    rw [hm, State.attemptFailed_slot] at hv
    exact absurd hv nofun
  have hslot : ∀ m, m ≠ n → (s.attemptFailed n a).slot m = s.slot m := fun m hm => State.slot_setSlot_ne hm _ _
  refine (noncesWf_iff _).mpr ⟨fun m v hv => ?_, fun m k v hm hk => ?_⟩
  · have hm := hself m v hv
    rw [hslot m hm] at hv
    refine List.not_mem_append ?_ (hunspent m v hv)
    rw [Option.mem_toList]
    exact fun hav => hm (hdistinct m n v hv (nonceOf_eq_some.mpr ⟨a, ha, hav⟩))
  · rw [hslot m (hself m v hm)] at hm
    rw [hslot k (hself k v hk)] at hk
    exact hdistinct m k v hm hk

theorem serialsDistinct_attemptFailed (n : Slot) (a : Attempt) {s : State} (hs : SerialsDistinct s) :
    SerialsDistinct (s.attemptFailed n a) := by
  have hkept : ∀ m x, holdsSerial ((s.attemptFailed n a).slot m) x → holdsSerial (s.slot m) x := fun m x hx => by
    by_cases hm : m = n
    · rw [hm, State.attemptFailed_slot] at hx
      exact hm ▸ hx
    · rwa [show (s.attemptFailed n a).slot m = s.slot m from State.slot_setSlot_ne hm _ _] at hx
  exact fun m k x hm hk => hs m k x (hkept m x hm) (hkept k x hk)

/-- What O56 and O57 say of one step. -/
structure StepKeeps (s t : State) : Prop where
  slots : SlotsWf t
  serials : SerialsDistinct s → SerialsDistinct t
  nonces : NoncesWf s → s.spentNonces.length + 8 < 2 ^ 128 → NoncesWf t

theorem Kept.stepKeeps {s t : State} (h : Kept s t) : StepKeeps s t := ⟨h.slots, h.serials, h.nonces⟩

theorem stepKeeps_failed {n : Slot} {op : CurrentOp} {a : Attempt} {s t : State} (hw : SlotsWf s)
    (hcur : (s.slot n).current = some op) (hatt : (s.slot n).attempt = some a) (h : SlotsAlike (failAttempt n a s) t) :
    StepKeeps s t := by
  have hcontrol := hw.control n
  have hr : s.running = true := hw.running_of_busy fun hidle => absurd (hatt.symm.trans hidle.attempt) nofun
  obtain ⟨hp, -, hrest⟩ := (running_iff s).mp hr
  have hsettles := settles_failAttempt hcontrol (hw.binding n) hcur hatt
  have hslots : SlotsWf (failAttempt n a s) :=
    hw.of_work (slotWork_failAttempt n a s) hsettles.control hsettles.binding (fun hn => absurd hr (by simp [hn]))
      (by simp [hp, hrest]) (hsettles.moves.checkpoints hw.checkpoints)
  have hspent : (s.attemptFailed n a).spentNonces.length ≤ s.spentNonces.length + 1 := by
    have hlength : (s.attemptFailed n a).spentNonces.length = a.nonce.toList.length + s.spentNonces.length :=
      List.length_append
    have hone : a.nonce.toList.length ≤ 1 := Option.length_toList_le
    omega
  exact ⟨(h.kept hslots).slots,
    fun hs => h.serials_distinct (hsettles.moves.serials_distinct (serialsDistinct_attemptFailed n a hs)),
    fun hs hroom => h.nonces_wf (hsettles.moves.nonces_wf (noncesWf_attemptFailed hatt hs) (by omega))⟩

theorem stepKeeps_exec {c : Instr} {s t : State} (he : exec c s = .next t) (hw : SlotsWf s) : StepKeeps s t := by
  rcases exec_slots he with h | ⟨n, op, a, ha, hcur, hatt, h⟩ | ⟨n, response, op, a, -, ha, hcur, hatt, hl, h⟩
  · exact (kept_of_walk h hw).stepKeeps
  · exact stepKeeps_failed hw hcur hatt h
  · have hattempt : (s.slot n).attempt ≠ none := by rw [hatt]; nofun
    have hr : s.running = true := hw.running_of_busy fun hidle => hattempt hidle.attempt
    have hmoves : SlotMoves n s (s.setSlot n (attemptOver (s.slot n))) := .setSlot (fun _ hx => hx) (.inl rfl)
    have hjudging : Judging n op (s.setSlot n (attemptOver (s.slot n))) := by
      refine ⟨?_, ?_, ?_, ?_, hw.checkpoints⟩ <;> rw [State.slot_setSlot_self]
      · exact (hw.control n).over hattempt
      · exact (hw.binding n).congr rfl rfl
      · exact hcur
      · exact (hw.control n).step op hcur
    have hkept := (Settles.after hmoves
      (settles_handResponse hjudging a (response.take op.step.responseLength))).kept hw hr
    exact (hkept.trans (h.kept hkept.slots)).stepKeeps

theorem stepKeeps_step {s t : State} (h : step s = .next t) (hw : SlotsWf s) : StepKeeps s t := by
  cases hq : s.pending with
  | nil =>
    rw [step_nil hq] at h
    cases h
    exact (Kept.refl hw).stepKeeps
  | cons c rest =>
    rw [step_cons hq] at h
    obtain ⟨hslots, hserials, hnonces⟩ := stepKeeps_exec h
      ⟨hw.control, hw.binding, hw.stopped, hw.unbound, hw.checkpoints⟩
    exact ⟨hslots, hserials, fun hs => hnonces ⟨hs.unspent, hs.distinct⟩⟩

/-- Settles O56: each piece of work on the slots leaves them sound. -/
theorem slotsKept : Obligations.SlotsKept := fun _ _ hw h => (stepKeeps_step h hw).slots

/-- Settles O57: a slot takes no serial that another holds, and draws no nonce that another carries or that is spent. -/
theorem serialsKeptDistinct : Obligations.SerialsKeptDistinct := fun _ _ hw h =>
  ⟨(stepKeeps_step h hw).serials, (stepKeeps_step h hw).nonces⟩

end Sys2Proof.Machine
end

section
/-! No work on the slots makes a binding VERIFIED, apart from a matching tag (for O60). -/

namespace Sys2Proof.Machine

/-- No binding has become VERIFIED. -/
def NoneProved (s t : State) : Prop := ∀ n : Slot, (t.slot n).bindingState = .verified → (s.slot n).bindingState = .verified

theorem NoneProved.refl (s : State) : NoneProved s s := fun _ h => h

theorem NoneProved.trans {s t u : State} (h : NoneProved s t) (g : NoneProved t u) : NoneProved s u := fun n hn => h n (g n hn)

theorem NoneProved.of_slots {s t : State} (h : t.slots = s.slots) : NoneProved s t := fun n hn => by
  rwa [← State.slot_congr h n]

theorem NoneProved.setSlot {n : Slot} {c : SlotContext} {s : State}
    (h : c.bindingState = .verified → (s.slot n).bindingState = .verified) : NoneProved s (s.setSlot n c) := fun m hm => by
  by_cases hmn : m = n
  · rw [hmn, State.slot_setSlot_self] at hm
    rw [hmn]
    exact h hm
  · rwa [State.slot_setSlot_ne hmn] at hm

theorem NoneProved.modSlot {n : Slot} {f : SlotContext → SlotContext} {s : State}
    (h : (f (s.slot n)).bindingState = .verified → (s.slot n).bindingState = .verified) : NoneProved s (s.modSlot n f) :=
  .setSlot h

theorem NoneProved.overSlots {f : Slot → State → State} (h : ∀ n s, NoneProved s (f n s)) (s : State) :
    NoneProved s (overSlots f s) := overSlots_keeps (fun n t ht => ht.trans (h n t)) s (.refl s)

theorem SlotsAlike.noneProved {s t : State} (h : SlotsAlike s t) : NoneProved s t := fun n hn =>
  (h.slots n).bindingState.symm.trans hn

/-! ### The operations of a slot -/

theorem noneProved_startAttempt (n : Slot) (k : Nat) (s : State) : NoneProved s (startAttempt n k s) := by
  cases hc : (s.slot n).current with
  | none =>
    rw [startAttempt_of_none hc]
    exact .refl s
  | some op =>
    rw [startAttempt_eq hc]
    have hset : NoneProved s (s.setSlot n (startedSlot k op s.freshNonce (s.slot n))) := .setSlot fun h => h
    exact hset.trans (.of_slots rfl)

theorem noneProved_requestBus (n : Slot) (s : State) : NoneProved s (requestBus n s) := by
  unfold requestBus
  split
  · exact noneProved_startAttempt n 1 s
  · exact .refl s
  · exact .modSlot fun h => h

theorem noneProved_finishOp (n : Slot) (r : OpResult) (why : Option FailureReason) (e : Byte) (a : Word16) (s : State) :
    NoneProved s (finishOp n r why e a s) := .modSlot fun h => by rwa [mergeStatus_bindingState] at h

theorem noneProved_setBinding (b : BindingState) (hb : b ≠ .verified) (n : Slot) (why : Option FailureReason) (s : State) :
    NoneProved s (setBinding n b why s) := .modSlot fun h => by
  rw [enterState_frame] at h
  exact absurd h hb

theorem noneProved_finishRelease (n : Slot) (a : Word16) (s : State) : NoneProved s (finishRelease n a s) := by
  have hended : NoneProved s (endBinding n s) := .of_slots (endBinding_slots n s)
  have hclosed : NoneProved (endBinding n s) ((endBinding n s).modSlot n fun c => supplyOff (closeRecord c)) :=
    .modSlot fun h => h
  exact (hended.trans hclosed).trans ((noneProved_setBinding .released nofun n none _).trans (noneProved_finishOp n _ _ _ _ _))

theorem noneProved_beginOp (n : Slot) (e : QueueEntry) (s : State) : NoneProved s (beginOp n e s) := by
  unfold beginOp
  extract_lets op s1 s2
  have h1 : NoneProved s s1 := .modSlot fun h => h
  refine h1.trans ?_
  split
  · split
    · refine NoneProved.trans (.modSlot fun h => ?_) (noneProved_requestBus n _)
      unfold replaceBinding at h
      split at h
      · exact absurd h nofun
      · exact absurd h nofun
      all_goals exact h
    · have h2 : NoneProved s1 s2 := .modSlot fun h => h
      refine h2.trans ?_
      split
      · exact noneProved_requestBus n _
      · exact noneProved_finishOp n _ _ _ _ _
    · exact noneProved_requestBus n _
    · split
      · exact noneProved_requestBus n _
      · exact noneProved_finishRelease n _ _
  · exact noneProved_finishOp n _ _ _ _ _

theorem noneProved_runQueue (k : Nat) (n : Slot) (s : State) : NoneProved s (runQueue k n s) := by
  induction k generalizing s with
  | zero => exact .refl s
  | succ k ih =>
    unfold runQueue
    split
    · exact (NoneProved.modSlot fun h => h).trans ((noneProved_beginOp n _ _).trans (ih _))
    · exact .refl s

theorem noneProved_pump (n : Slot) (s : State) : NoneProved s (pump n s) := noneProved_runQueue _ n s

theorem noneProved_joinOp (n : Slot) (kind : OpKind) (origin : Origin) (s : State) : NoneProved s (joinOp n kind origin s) :=
  (NoneProved.modSlot fun h => h).trans (noneProved_pump n _)

theorem noneProved_askAuto (n : Slot) (kind : OpKind) (s : State) : NoneProved s (askAuto n kind s) := by
  unfold askAuto
  split
  · exact noneProved_joinOp n kind .auto s
  · exact .refl s

theorem noneProved_endOp (n : Slot) (r : OpResult) (why : Option FailureReason) (e : Byte) (a : Word16) (s : State) :
    NoneProved s (endOp n r why e a s) := (noneProved_finishOp n r why e a s).trans (noneProved_pump n _)

theorem noneProved_bindAuto (n : Slot) (s : State) : NoneProved s (bindAuto n s) :=
  (NoneProved.modSlot (f := beginBinding) fun h => absurd h nofun).trans (noneProved_askAuto n .bind _)

theorem noneProved_failBinding (n : Slot) (why : FailureReason) (alert : Alert) (s : State) :
    NoneProved s (failBinding n why alert s) :=
  (noneProved_setBinding .failed nofun n _ s).trans (noneProved_endOp n _ _ _ _ _)

/-! ### The end of an attempt -/

theorem noneProved_judgeIdentity (n : Slot) (msg : List Byte) (s : State) : NoneProved s (judgeIdentity n msg s) := by
  unfold judgeIdentity
  extract_lets i s1
  have h1 : NoneProved s s1 := .modSlot fun h => h
  split
  · exact noneProved_failBinding n _ _ s
  refine h1.trans ?_
  split
  · exact noneProved_failBinding n _ _ _
  split
  · exact noneProved_failBinding n _ _ _
  split
  · refine (noneProved_setBinding .pendingAuth nofun n none s1).trans ?_
    unfold goOnToChallenge
    split
    · exact noneProved_endOp n _ _ _ _ _
    · exact (NoneProved.modSlot fun h => h).trans (noneProved_requestBus n _)
  · exact (noneProved_setBinding .unverified nofun n none s1).trans (noneProved_endOp n _ _ _ _ _)

theorem noneProved_endAdvance (n : Slot) (op : CurrentOp) (taken : Bool) (alerts : Word16) (s : State) :
    NoneProved s (endAdvance n op taken alerts s) := by
  unfold endAdvance
  split
  · split
    · exact noneProved_endOp n _ _ _ _ s
    · exact (noneProved_finishRelease n alerts s).trans (noneProved_pump n _)
  · exact noneProved_endOp n _ _ _ _ s

theorem noneProved_advanceWritten (n : Slot) (e : AdvanceOutcome) (s : State) : NoneProved s (advanceWritten n e s) := by
  have hset : NoneProved s (s.setSlot n { s.slot n with record := e.record }) := .setSlot fun h => h
  unfold advanceWritten
  split
  · exact hset.trans (.of_slots (writeCheckpoint_slots n _))
  · exact hset

theorem noneProved_concludeAdvance (n : Slot) (op : CurrentOp) (e : AdvanceOutcome) (s : State) :
    NoneProved s (concludeAdvance n op e s) := by
  unfold concludeAdvance
  extract_lets t p
  have hwritten : NoneProved s t := noneProved_advanceWritten n e s
  have hrecord : NoneProved t (t.setSlot n { t.slot n with record := p.1 }) := .setSlot fun h => h
  exact hwritten.trans (hrecord.trans (noneProved_endAdvance n op _ _ _))

theorem noneProved_failAttempt (n : Slot) (a : Attempt) (s : State) : NoneProved s (failAttempt n a s) := by
  have hfailed : NoneProved s (s.attemptFailed n a) := by
    have hspent : NoneProved s (spendNonce a s) := .of_slots rfl
    exact hspent.trans (.setSlot fun h => h)
  rw [failAttempt_eq]
  refine hfailed.trans ?_
  split
  · exact noneProved_startAttempt n _ _
  · exact (NoneProved.modSlot fun h => h).trans
      ((noneProved_setBinding .linkLost nofun n none _).trans (noneProved_finishOp n _ _ _ _ _))

/-! ### Removal, reset and restore -/

/-- A binding that ends leaves none behind (R78, R146). -/
theorem noneProved_unbound (n : Slot) (p : Prop) [Decidable p] (s : State) :
    NoneProved s (setBinding n .noCartridge none (if p then s else endBinding n s)) := by
  refine NoneProved.trans ?_ (noneProved_setBinding .noCartridge nofun n none _)
  split
  · exact .refl s
  · exact .of_slots (endBinding_slots n s)

theorem noneProved_removeCartridge (n : Slot) (s : State) : NoneProved s (removeCartridge n s) :=
  (NoneProved.modSlot fun h => by rwa [mergeStatus_bindingState] at h).trans (noneProved_unbound n _ _)

theorem noneProved_endByEmptySeat (n : Slot) (s : State) : NoneProved s (endByEmptySeat n s) :=
  (NoneProved.modSlot fun h => by rwa [mergeStatus_bindingState] at h).trans (noneProved_unbound n _ _)

theorem noneProved_reprove (n : Slot) (s : State) : NoneProved s (reprove n s) :=
  (NoneProved.modSlot fun h => h).trans
    ((noneProved_setBinding .pendingAuth nofun n none _).trans (noneProved_askAuto n .verify _))

theorem noneProved_releaseSlot (n : Slot) (s : State) : NoneProved s (releaseSlot n s) := by
  unfold releaseSlot
  split
  · exact .refl s
  · exact noneProved_endByEmptySeat n s
  · exact noneProved_bindAuto n s
  · exact noneProved_askAuto n .bind s
  · exact noneProved_reprove n s
  · exact noneProved_reprove n s
  · split
    · exact noneProved_reprove n s
    · exact (noneProved_setBinding .pendingId nofun n none s).trans (noneProved_askAuto n .bind _)
  all_goals exact .refl s

theorem noneProved_askUnverified (n : Slot) (s : State) : NoneProved s (askUnverified n s) := by
  unfold askUnverified
  split
  · exact noneProved_askAuto n .verify s
  · exact .refl s

theorem noneProved_keyCommitted (root : RootKey) (s : State) : NoneProved s (keyCommitted root s) := by
  have hkey : NoneProved s { s with key := .present root } := .of_slots rfl
  exact hkey.trans (.overSlots noneProved_askUnverified _)

theorem noneProved_takeHeldCommit (s : State) : NoneProved s (takeHeldCommit s) := by
  unfold takeHeldCommit
  split
  · split
    · next root _ =>
      have hasked := noneProved_keyCommitted root s
      generalize keyCommitted root s = t at hasked ⊢
      exact hasked.trans (.of_slots rfl)
    all_goals exact .of_slots rfl
  · exact .refl s

theorem noneProved_releaseReset {s : State} (hp : s.powered = true) (ha : s.resetAsserted = true) :
    NoneProved s (releaseReset s) := by
  have hread : NoneProved s (seatsRead s) := fun n hn => by
    have hn' : ((s.mapSlots readSeat).slot n).bindingState = .verified := hn
    rwa [State.slot_mapSlots] at hn'
  have htreated : NoneProved (seatsRead s) (if s.restoring then seatsRead s else overSlots releaseSlot (seatsRead s)) := by
    split
    · exact .refl _
    · exact .overSlots noneProved_releaseSlot _
  rw [releaseReset_eq hp ha]
  exact (hread.trans htreated).trans ((noneProved_takeHeldCommit _).trans (slotsAlike_takeHeld _).noneProved)

theorem noneProved_endRestore {s : State} (hp : s.powered = true) (hr : s.restoring = true) : NoneProved s (endRestore s) := by
  have hhanded : NoneProved s (handResults s) := .of_slots rfl
  rw [show endRestore s = _ from if_pos ⟨hp, hr⟩]
  dsimp only
  refine hhanded.trans ?_
  split
  · exact .of_slots rfl
  · refine (slotsAlike_raiseRestoreInvalid _).noneProved.trans (.overSlots (fun n t => ?_) _)
    unfold bindSeated
    split
    · exact noneProved_bindAuto n t
    · exact .refl t

theorem noneProved_assertReset (s : State) : NoneProved s (assertReset s) := by
  unfold assertReset
  split
  · intro n hn
    have hn' : ((s.mapSlots assertSlot).slot n).bindingState = .verified := hn
    rwa [State.slot_mapSlots] at hn'
  · exact .refl s

theorem noneProved_cleared (st : RecordStore) (powered restoring : Bool) (s : State) :
    NoneProved s { volatileReset st s with powered := powered, restoring := restoring } := fun n hn => by
  simp [State.slot, volatileReset, SlotContext.initial] at hn

theorem noneProved_haltedState (n : Slot) (s : State) : NoneProved s (haltedState n s) := by
  unfold haltedState
  split
  · exact .setSlot fun h => by rwa [mergeStatus_bindingState] at h
  · split
    · exact .setSlot fun h => by rwa [mergeStatus_bindingState] at h
    · exact .setSlot fun h => h

theorem SlotStep.noneProved {s t : State} (h : SlotStep s t) : NoneProved s t := by
  cases h with
  | alike h => exact h.noneProved
  | joined n kind origin => exact noneProved_joinOp n kind origin s
  | halted n => exact noneProved_haltedState n s
  | configured n cfg => exact .setSlot fun h => h
  | reconfigured n cfg =>
    refine .setSlot fun h => ?_
    unfold restartIdle at h
    split at h <;> exact h
  | touched n d h =>
    refine .setSlot fun hd => ?_
    rw [h.frame] at hd
    exact hd
  | begun n => exact .setSlot fun h => absurd h nofun
  | removed n => exact noneProved_removeCartridge n s
  | settled n ha hs ht =>
    rw [expireSettle_of_settling ha hs ht]
    have hsettled : NoneProved s (s.setSlot n (settledSlot (s.slot n))) := .setSlot fun h => h
    exact hsettled.trans (noneProved_startAttempt n 1 _)
  | supplyLost n ha hs ht =>
    rw [expireIdle_of_running ha hs ht]
    exact .setSlot fun h => h
  | restored hp hr => exact noneProved_endRestore hp hr
  | released hp ha => exact noneProved_releaseReset hp ha
  | asserted => exact noneProved_assertReset s
  | cleared st powered restoring => exact noneProved_cleared st powered restoring s

theorem noneProved_of_walk {s t : State} (h : SlotWalk s t) : NoneProved s t := by
  induction h with
  | refl => exact .refl s
  | tail _ hstep ih => exact ih.trans hstep.noneProved

end Sys2Proof.Machine
end

section
/-! Only a matching tag makes a binding VERIFIED, and a lane's condition is the first whose test holds (O60). -/

namespace Sys2Proof.Machine

/-! ### The tag of a response -/

/-- `k` bytes of a number do not show what lies above them. -/
theorem beBytes_add (k a n : Nat) : beBytes k (a * 256 ^ k + n) = beBytes k n := by
  induction k generalizing a with
  | zero => rfl
  | succ k ih =>
    have hsplit : a * 256 ^ (k + 1) + n = a * 256 * 256 ^ k + n := by rw [pow_succ, mul_comm (256 ^ k), mul_assoc]
    have hdiv : (a * 256 * 256 ^ k + n) / 256 ^ k = a * 256 + n / 256 ^ k := by
      rw [Nat.add_comm, Nat.add_mul_div_right _ _ (by positivity), Nat.add_comm]
    rw [beBytes, beBytes, hsplit, ih, hdiv, BitVec.ofNat_add]
    refine congrArg (· :: beBytes k n) ?_
    have hzero : BitVec.ofNat 8 (a * 256) = 0#8 := BitVec.eq_of_toNat_eq (by simp)
    rw [hzero, BitVec.zero_add]

/-- Bytes read as a number are written back whole. -/
theorem beBytes_beNat (bs : List Byte) : beBytes bs.length (beNat bs) = bs := by
  induction bs with
  | nil => rfl
  | cons b bs ih =>
    have hdiv : (b.toNat * 256 ^ bs.length + beNat bs) / 256 ^ bs.length = b.toNat := by
      rw [Nat.add_comm, Nat.add_mul_div_right _ _ (by positivity), Nat.div_eq_of_lt (beNat_lt bs), Nat.zero_add]
    rw [List.length_cons, beNat_cons, beBytes, beBytes_add, ih, hdiv, BitVec.ofNat_toNat, BitVec.setWidth_eq]

/-- The used count and the generation of a CHALLENGE response are its second to sixth bytes (R197). -/
theorem reportBytes {msg : List Byte} (h : 6 ≤ msg.length) :
    beBytes 4 (fieldAt msg 1 4) ++ beBytes 1 (fieldAt msg 5 1) = (msg.drop 1).take 5 := by
  have hused : ((msg.drop 1).take 4).length = 4 := by simp; omega
  have hgeneration : ((msg.drop 5).take 1).length = 1 := by simp; omega
  have h1 := beBytes_beNat ((msg.drop 1).take 4)
  have h2 := beBytes_beNat ((msg.drop 5).take 1)
  rw [hused] at h1
  rw [hgeneration] at h2
  rw [fieldAt, fieldAt, h1, h2, List.take_add (i := 4) (j := 1), List.drop_drop]

/-- What a tag that matches shows: the key PRESENT, the attempt's nonce, the bound serial, and the digest of R131. -/
theorem tag_of_tagMatches {key : KeyState} {r : BindingRecord} {a : Attempt} {response : List Byte}
    (h : tagMatches key r a (response.take 23) = true) (hl : 23 ≤ response.length) :
    ∃ (root : RootKey) (i : Identity) (nonce : Nonce), key = .present root ∧ r.identity = some i ∧ a.nonce = some nonce ∧
      (response.drop 6).take 16 =
        keyedDigest (keyedDigest (beBytes 32 root.toNat) (beBytes 8 i.serial.toNat))
          (beBytes 16 nonce.toNat ++ beBytes 8 i.serial.toNat ++ (response.drop 1).take 5) := by
  have htag : ((response.take 23).drop 6).take 16 = (response.drop 6).take 16 := by
    rw [List.drop_take, List.take_take]
    rfl
  have hreport : ((response.take 23).drop 1).take 5 = (response.drop 1).take 5 := by
    rw [List.drop_take, List.take_take]
    rfl
  unfold tagMatches at h
  split at h
  · next root i nonce hi hn =>
    refine ⟨root, i, nonce, rfl, hi, hn, ?_⟩
    rw [htag, beq_iff_eq] at h
    rw [h, expectedTag, cartridgeKey, List.append_assoc _ (beBytes 4 _), reportBytes (by simp; omega), hreport]
  · exact absurd h nofun

/-! ### Only a matching tag -/

/-- A judged response makes a binding VERIFIED only by a tag that matches (R107, R108, R131, R133). -/
theorem noneProved_judged {n : Slot} {op : CurrentOp} {a : Attempt} {msg : List Byte} {s : State}
    (hc : (s.slot n).current = some op) (h : ¬(op.step = .challenge ∧ tagMatches s.key (s.slot n).record a msg = true)) :
    NoneProved s (handResponse n op a msg s) := by
  unfold handResponse
  cases hs : op.step with
  | ident => exact noneProved_judgeIdentity n msg s
  | advance =>
    dsimp only
    rw [judgeAdvance_of_current hc]
    exact noneProved_concludeAdvance n op _ s
  | challenge =>
    have hm : tagMatches s.key (s.slot n).record a msg ≠ true := fun hm => h ⟨hs, hm⟩
    dsimp only
    rw [judgeChallenge, if_neg hm]
    exact noneProved_failBinding n _ _ s

/-- A binding becomes VERIFIED by a response to its CHALLENGE whose tag matches, and by nothing else (R132, R133). -/
theorem verified_by_tag {c : Instr} {n : Slot} {s t : State} (he : exec c s = .next t)
    (hs : (s.slot n).bindingState ≠ .verified) (ht : (t.slot n).bindingState = .verified) :
    ∃ (response : List Byte) (op : CurrentOp) (a : Attempt), c = .cartridgeResponse n response ∧
      (s.slot n).current = some op ∧ op.step = .challenge ∧ (s.slot n).attempt = some a ∧ 23 ≤ response.length ∧
      tagMatches s.key (s.slot n).record a (response.take 23) = true := by
  rcases exec_slots he with h | ⟨m, op, a, -, -, -, h⟩ | ⟨m, response, op, a, hc, -, hcur, hatt, hl, h⟩
  · exact absurd (noneProved_of_walk h n ht) hs
  · exact absurd (((noneProved_failAttempt m a s).trans h.noneProved) n ht) hs
  · have hslot : (s.setSlot m (attemptOver (s.slot m))).slot m = attemptOver (s.slot m) := State.slot_setSlot_self m _ s
    have hover : NoneProved s (s.setSlot m (attemptOver (s.slot m))) := .setSlot fun h => h
    have hjudged := h.noneProved n ht
    by_cases hmatch : op.step = .challenge ∧
        tagMatches s.key (s.slot m).record a (response.take op.step.responseLength) = true
    · obtain ⟨hstep, htag⟩ := hmatch
      rw [hstep] at hl htag
      have hmn : n = m := by
        by_contra hne
        rw [(slotWork_handResponse m op a _ _).others n hne] at hjudged
        exact hs (hover n hjudged)
      subst hmn
      exact ⟨response, op, a, hc, hcur, hstep, hatt, hl, htag⟩
    · refine absurd (hover n (noneProved_judged (op := op) (by rw [hslot]; exact hcur) ?_ n hjudged)) hs
      rw [hslot]
      exact hmatch

/-! ### The first condition whose test holds -/

/-- The first of the conditions from a row of the table on whose test holds (R156). -/
structure FirstFrom (test : LaneCondition → Prop) (row k : LaneCondition) : Prop where
  holds : test k
  after : row.index ≤ k.index
  first : ∀ j : LaneCondition, row.index ≤ j.index → j.index < k.index → ¬test j

/-- A condition's index is its place in the table. -/
theorem conditionOrder_index (k : LaneCondition) : conditionOrder[k.index.val]? = some k := by
  cases k <;> rfl

theorem LaneCondition.index_inj {j k : LaneCondition} (h : j.index = k.index) : j = k :=
  Option.some.inj ((conditionOrder_index j).symm.trans (h ▸ conditionOrder_index k))

section Rows
variable {test : LaneCondition → Prop} {row next k : LaneCondition}

/-- A row whose test fails leaves the choice to the next. -/
theorem FirstFrom.later (hrow : ¬test row) (hnext : next.index.val = row.index.val + 1) (h : FirstFrom test next k) :
    FirstFrom test row k where
  holds := h.holds
  after := by
    have hafter : next.index.val ≤ k.index.val := h.after
    exact Fin.le_def.mpr (by omega)
  first j hj hlt := by
    by_cases hjr : j.index = row.index
    · rw [LaneCondition.index_inj hjr]
      exact hrow
    · refine h.first j (Fin.le_def.mpr ?_) hlt
      have hle : row.index.val ≤ j.index.val := hj
      have hne : j.index.val ≠ row.index.val := fun he => hjr (Fin.ext he)
      omega

theorem FirstFrom.here (h : test row) : FirstFrom test row row := ⟨h, le_rfl, fun _ hj hlt => absurd hlt (not_lt.mpr hj)⟩

/-- A row of the table, then the rows below it. -/
theorem FirstFrom.ite {p : Prop} [Decidable p] (hp : test row ↔ p) (hnext : next.index.val = row.index.val + 1)
    (h : FirstFrom test next k) : FirstFrom test row (if p then row else k) := by
  split
  · next hholds => exact .here (hp.mpr hholds)
  · next hfails => exact .later (mt hp.mp hfails) hnext h

end Rows

theorem lowHolds_iff (c : SlotContext) : lowHolds c.config c.record = true ↔
    ∃ (i : Identity) (u : Nat), c.record.identity = some i ∧ estimateOf c.record = some u ∧
      lowAt c.config i.capacity u = true := by
  unfold lowHolds BindingRecord.level BindingRecord.capacity lowAt
  rw [uEst_eq]
  cases c.record.identity <;> cases estimateOf c.record <;> simp

section Mapped
variable {s : State} {l : Lane} {n : Slot} (hn : (s.laneEntry l).slot = some n)
include hn

/-- The test of a row between UNMAPPED and GENUINE, at a lane mapped to a slot. -/
theorem conditionTest_overtemp : ConditionTest s l .overtemp ↔ overLimit s.monitor (s.laneEntry l).thermal = true := by
  simp only [ConditionTest, hn, overLimit]
  cases s.monitor.samples[(s.laneEntry l).thermal] <;> simp

/-- The slot condition is the first of the rows from NO_CARTRIDGE on whose test holds (R119, R156). -/
theorem slotCondition_first : FirstFrom (ConditionTest s l) .noCartridge (slotCondition s.policy.allowance (s.slot n)) := by
  have hunverified : ∀ k : LaneCondition, (if unproved (s.slot n) then
      (if s.policy.allowance ≤ (s.slot n).record.unverifiedUnits then LaneCondition.unverifiedOver else .unverified) else k) =
      if unproved (s.slot n) = true ∧ s.policy.allowance ≤ (s.slot n).record.unverifiedUnits then .unverifiedOver
      else if unproved (s.slot n) then .unverified else k := fun k => by
    by_cases hu : unproved (s.slot n) = true <;> simp [hu]
  unfold slotCondition
  rw [hunverified]
  refine .ite (next := .linkLost) ?_ rfl (.ite (next := .failed) ?_ rfl (.ite (next := .unverifiedOver) ?_ rfl
    (.ite (next := .unverified) ?_ rfl (.ite (next := .refillConfirmed) ?_ rfl (.ite (next := .refillSuspect) ?_ rfl
      (.ite (next := .empty) ?_ rfl (.ite (next := .low) ?_ rfl (.ite (next := .genuine) ?_ rfl (.here ?_)))))))))
  · simp [ConditionTest, hn]
  · simp [ConditionTest, hn]
  · simp [ConditionTest, hn]
  · simp [ConditionTest, hn, unproved_iff, Unproved]
  · simp [ConditionTest, hn, unproved_iff, Unproved]
  · simp [ConditionTest, hn]
  · simp [ConditionTest, hn]
  · simp [ConditionTest, hn, emptyHolds_eq]
  · simp [ConditionTest, hn, lowHolds_iff]
  · simp [ConditionTest]

theorem laneCondition_mapped : s.laneCondition l =
    if overLimit s.monitor (s.laneEntry l).thermal then .overtemp else slotCondition s.policy.allowance (s.slot n) := by
  rw [State.laneCondition, hn]

end Mapped

/-- A lane's condition is the first of the twelve whose test holds (R156). -/
theorem laneCondition_first (s : State) (l : Lane) : FirstFrom (ConditionTest s l) .unmapped (s.laneCondition l) := by
  cases hn : (s.laneEntry l).slot with
  | none =>
    rw [State.laneCondition, hn]
    exact .here (by simp [ConditionTest, hn])
  | some n =>
    rw [laneCondition_mapped hn]
    exact .later (next := .overtemp) (by simp [ConditionTest, hn]) rfl
      (.ite (next := .noCartridge) (conditionTest_overtemp hn) rfl (slotCondition_first hn))

/-- The conditions before one in the table are those of lesser index. -/
theorem mem_before_iff {before after : List LaneCondition} {k : LaneCondition} (h : conditionOrder = before ++ k :: after)
    (j : LaneCondition) : j ∈ before ↔ j.index < k.index := by
  have hordered : conditionOrder.Pairwise fun a b => a.index < b.index := by decide
  have hj : j ∈ conditionOrder := List.mem_of_getElem? (conditionOrder_index j)
  rw [h] at hordered hj
  obtain ⟨-, hrest, hbefore⟩ := List.pairwise_append.mp hordered
  refine ⟨fun hj => hbefore j hj k (by simp), fun hlt => ?_⟩
  rcases List.mem_append.mp hj with hj | hj
  · exact hj
  · rcases List.mem_cons.mp hj with rfl | hj
    · exact absurd hlt (lt_irrefl _)
    · exact absurd ((List.pairwise_cons.mp hrest).1 j hj) (not_lt.mpr hlt.le)

theorem laneCondition_iff {before after : List LaneCondition} {k : LaneCondition} (h : conditionOrder = before ++ k :: after)
    (s : State) (l : Lane) :
    s.laneCondition l = k ↔ ConditionTest s l k ∧ ∀ j ∈ before, ¬ConditionTest s l j := by
  have hfirst := laneCondition_first s l
  constructor
  · rintro rfl
    exact ⟨hfirst.holds, fun j hj => hfirst.first j (Fin.zero_le _) ((mem_before_iff h j).mp hj)⟩
  · rintro ⟨hk, hbefore⟩
    rcases lt_trichotomy (s.laneCondition l).index k.index with hlt | heq | hgt
    · exact absurd hfirst.holds (hbefore _ ((mem_before_iff h _).mpr hlt))
    · exact LaneCondition.index_inj heq
    · exact absurd hk (hfirst.first k (Fin.zero_le _) hgt)

/-- The rows below UNVERIFIED are for VERIFIED bindings (R156, R157). -/
theorem verified_of_condition {s : State} {l : Lane} (h : LaneCondition.unverified.index < (s.laneCondition l).index) :
    ∃ n : Slot, (s.laneEntry l).slot = some n ∧ (s.slot n).bindingState = .verified := by
  have hfirst := laneCondition_first s l
  have hfails : ∀ j : LaneCondition, j.index ≤ LaneCondition.unverified.index → ¬ConditionTest s l j := fun j hj =>
    hfirst.first j (Fin.zero_le _) (lt_of_le_of_lt hj h)
  cases hn : (s.laneEntry l).slot with
  | none => exact absurd (by simp [ConditionTest, hn]) (hfails .unmapped (by decide))
  | some n =>
    have hbound : ¬((s.slot n).bindingState = .noCartridge ∨ (s.slot n).bindingState = .released) := by
      simpa [ConditionTest, hn] using hfails .noCartridge (by decide)
    have hlost : ¬((s.slot n).bindingState = .linkLost ∧ (s.slot n).record.verifiedOnce = true) := by
      simpa [ConditionTest, hn] using hfails .linkLost (by decide)
    have hfailed : (s.slot n).bindingState ≠ .failed := by simpa [ConditionTest, hn] using hfails .failed (by decide)
    have hunproved : ¬Unproved (s.slot n) := by simpa [ConditionTest, hn] using hfails .unverified (by decide)
    refine ⟨n, rfl, ?_⟩
    unfold Unproved at hunproved
    cases hb : (s.slot n).bindingState with
    | verified => rfl
    | noCartridge | released | failed | pendingId | pendingAuth | unverified => simp [hb] at hbound hfailed hunproved
    | linkLost => simp_all

/-- Settles O60: a binding is VERIFIED by a matching tag alone, and a lane's condition is the table's first whose test holds. -/
theorem onlyAMatchingTagVerifies : Obligations.OnlyAMatchingTagVerifies := by
  refine ⟨fun c n s t he hs ht => ?_, fun l s => ⟨fun before after k h => laneCondition_iff h s l, fun n hn ho => ?_,
    fun hmem => verified_of_condition ?_⟩⟩
  · obtain ⟨response, op, a, hc, hcur, hstep, hatt, hl, htag⟩ := verified_by_tag he hs ht
    obtain ⟨root, i, nonce, hkey, hi, hnonce, hdigest⟩ := tag_of_tagMatches htag hl
    exact ⟨response, op, a, nonce, root, i, hc, hcur, hstep, hatt, hnonce, hkey, hi, hl, hdigest⟩
  · rw [laneCondition_mapped hn, if_neg (mt (conditionTest_overtemp hn).mpr ho)]
  · revert hmem
    generalize s.laneCondition l = k
    revert k
    decide

end Sys2Proof.Machine
end

section
/-! How a merge acts on the pending record of a slot (O29). -/

namespace Sys2Proof.Machine

/-- The pending record that a merge leaves, written out over the one it finds (R118). -/
def mergedRecord (allowance : Nat) (p : Option Primary) (e : Byte) (a : Word16) (c : SlotContext) : StatusRecord :=
  { primary := p.or (c.status.bind (·.primary)),
    overwritten := (c.status.map (·.overwritten)).getD false || (p.isSome && (c.status.bind (·.primary)).isSome),
    events := eventsOf c ||| e, alerts := alertsOf c ||| a, snapshot := snapshotOf allowance c }

theorem mergeStatus_of_carries {p : Option Primary} {e : Byte} {a : Word16} (h : Carries p e a) (allowance : Nat)
    (c : SlotContext) : mergeStatus allowance p e a c = { c with status := some (mergedRecord allowance p e a c) } := by
  rw [mergeStatus, if_neg h]
  cases hs : c.status <;> simp [mergedRecord, eventsOf, alertsOf, hs]

/-- Settles O29: the merge written out, clause by clause. -/
theorem statusMerge : Obligations.StatusMerge := by
  intro allowance p e a c h
  have hcarries : Carries p e a := fun ⟨hp, he, ha⟩ => h.elim (· hp) (·.elim (· he) (· ha))
  refine ⟨mergedRecord allowance p e a c, mergeStatus_of_carries hcarries allowance c, rfl, rfl, fun hp => ?_, fun hp => ?_,
    ?_, rfl⟩
  · obtain ⟨q, rfl⟩ := Option.ne_none_iff_exists'.mp hp
    rfl
  · rw [hp]
    rfl
  · simp [mergedRecord, Option.isSome_iff_ne_none]

end Sys2Proof.Machine
end

section
/-! What the agreement of key state and Record Store is read from, and the work that leaves it alone: the Record Store, the slots
and their operations (for O55). -/

namespace Sys2Proof.Machine

/-! ### The writes of the key record -/

/-- A write that takes the place of a queued one leaves as many writes of the key record in the queue (R175). -/
theorem countP_key_replaced (w : Write) (q : List Write) :
    (q.map fun x => if x.pos = w.pos then w else x).countP (fun x => decide (x.pos = .key)) =
      q.countP fun x => decide (x.pos = .key) := by
  rw [List.countP_map]
  refine List.countP_congr fun x _ => ?_
  simp only [Function.comp_apply]
  split
  · next hx => rw [hx]
  · rfl

/-- A program that begins takes its write from the queue (R176). -/
theorem keyWrites_beginProgram (st : RecordStore) : keyWrites (beginProgram st) = keyWrites st := by
  rcases beginProgram_cases st with ⟨w, rest, hp, hq, h⟩ | ⟨-, h⟩ <;> rw [h]
  simp only [keyWrites, hp, hq, List.countP_cons, decide_eq_true_eq, Nat.add_zero]

theorem beginProgram_keyForm (st : RecordStore) : (beginProgram st).keyForm = st.keyForm := by
  rcases beginProgram_cases st with ⟨w, rest, -, -, h⟩ | ⟨-, h⟩ <;> rw [h]

/-- A write of another position leaves the writes of the key record as many as they were (R175). -/
theorem keyWrites_enqueued {w : Write} (hw : w.pos ≠ .key) {st : RecordStore} {q : List Write}
    (h : enqueueWrite w st.commitQueue = some q) :
    keyWrites (beginProgram { st with commitQueue := q }) = keyWrites st := by
  rw [keyWrites_beginProgram]
  refine congrArg (· + _) ?_
  rcases enqueueWrite_cases w st.commitQueue with ⟨-, he⟩ | ⟨-, -, he⟩ | ⟨-, -, he⟩
  · rw [← Option.some.inj (he.symm.trans h)]
    exact countP_key_replaced w _
  · rw [← Option.some.inj (he.symm.trans h)]
    simp [hw]
  · exact absurd (he.symm.trans h) nofun

/-! ### What the agreement is read from -/

/-- What key state and Record Store agree about, and when the key is unsettled. -/
structure KeySide where
  powered : Bool
  restoring : Bool
  resetAsserted : Bool
  held : Bool
  key : KeyState
  form : Stored RootKey
  writes : Nat

def State.keySide (s : State) : KeySide :=
  { powered := s.powered, restoring := s.restoring, resetAsserted := s.resetAsserted, held := s.keyCommitHeld, key := s.key,
    form := s.store.keyForm, writes := keyWrites s.store }

section
variable {s t : State} (h : t.keySide = s.keySide)
include h

theorem key_of_keySide : t.key = s.key := congrArg KeySide.key h

theorem keyPresent_of_keySide : t.keyPresent = s.keyPresent := by rw [State.keyPresent, key_of_keySide h]; rfl

theorem KeyWf.of_keySide (hs : KeyWf s) : KeyWf t := by
  have hpowered : t.powered = s.powered := congrArg KeySide.powered h
  have hrestoring : t.restoring = s.restoring := congrArg KeySide.restoring h
  have hreset : t.resetAsserted = s.resetAsserted := congrArg KeySide.resetAsserted h
  have hheld : t.keyCommitHeld = s.keyCommitHeld := congrArg KeySide.held h
  have hform : t.store.keyForm = s.store.keyForm := congrArg KeySide.form h
  have hwrites : keyWrites t.store = keyWrites s.store := congrArg KeySide.writes h
  constructor <;> rw [key_of_keySide h]
  · rw [hform, hwrites, hheld]
    exact hs.present
  · rw [hwrites, hheld, hreset, hform]
    exact hs.provisioning
  · rw [hwrites, hheld]
    exact hs.absent
  · rw [hpowered, hrestoring]
    exact hs.unsettled

end

@[simp] theorem keySide_setSlot (n : Slot) (c : SlotContext) (s : State) : (s.setSlot n c).keySide = s.keySide := rfl

@[simp] theorem keySide_modSlot (n : Slot) (f : SlotContext → SlotContext) (s : State) : (s.modSlot n f).keySide = s.keySide := rfl

@[simp] theorem keySide_raise (c : Condition) (s : State) : (s.raise c).keySide = s.keySide := by
  rw [State.raise_frame]
  rfl

@[simp] theorem keySide_waitTest (s : State) : (waitTest s).keySide = s.keySide := by
  rw [waitTest_frame]
  rfl

theorem keySide_overSlots {f : Slot → State → State} (h : ∀ n s, (f n s).keySide = s.keySide) (s : State) :
    (overSlots f s).keySide = s.keySide :=
  overSlots_keeps (P := fun t => t.keySide = s.keySide) (fun n t ht => (h n t).trans ht) s rfl

/-! ### The Record Store and the working copies -/

/-- A commit of another record does not touch the key's side (R175). -/
theorem keySide_commit {w : Write} (hw : w.pos ≠ .key) (s : State) : (commit w s).keySide = s.keySide := by
  unfold commit
  rcases requestWrite_cases w s with ⟨q, hq, h⟩ | ⟨-, h⟩ <;> rw [h]
  · simp only [State.keySide, keyWrites_enqueued hw hq, beginProgram_keyForm]
  · exact keySide_raise _ s

@[simp] theorem keySide_addRetired (serial : Serial) (g f : Nat) (r : RetiredReason) (s : State) :
    (addRetired serial g f r s).keySide = s.keySide := keySide_commit (fun h => by cases h) _

@[simp] theorem keySide_removeRetired (e : RetiredEntry) (s : State) : (removeRetired e s).keySide = s.keySide :=
  keySide_commit (fun h => by cases h) _

@[simp] theorem keySide_writeCheckpoint (n : Slot) (s : State) : (writeCheckpoint n s).keySide = s.keySide := by
  unfold writeCheckpoint
  split
  · exact keySide_commit (fun h => by cases h) _
  · rfl

@[simp] theorem keySide_endBinding (n : Slot) (s : State) : (endBinding n s).keySide = s.keySide := by
  unfold endBinding judgeRetirement
  dsimp only
  split
  · split <;> simp
  · rfl

/-! ### The operations of a slot -/

@[simp] theorem keySide_startAttempt (n : Slot) (k : Nat) (s : State) : (startAttempt n k s).keySide = s.keySide := by
  cases hc : (s.slot n).current with
  | none => rw [startAttempt_of_none hc]
  | some op =>
    rw [startAttempt_eq hc]
    rfl

@[simp] theorem keySide_requestBus (n : Slot) (s : State) : (requestBus n s).keySide = s.keySide := by
  unfold requestBus
  split <;> simp

@[simp] theorem keySide_finishOp (n : Slot) (r : OpResult) (why : Option FailureReason) (e : Byte) (a : Word16) (s : State) :
    (finishOp n r why e a s).keySide = s.keySide := rfl

@[simp] theorem keySide_setBinding (n : Slot) (b : BindingState) (why : Option FailureReason) (s : State) :
    (setBinding n b why s).keySide = s.keySide := rfl

@[simp] theorem keySide_finishRelease (n : Slot) (a : Word16) (s : State) : (finishRelease n a s).keySide = s.keySide := by
  simp [finishRelease]

@[simp] theorem keySide_beginOp (n : Slot) (e : QueueEntry) (s : State) : (beginOp n e s).keySide = s.keySide := by
  unfold beginOp
  dsimp only
  split
  · split
    · simp
    · split <;> simp
    · simp
    · split <;> simp
  · simp

@[simp] theorem keySide_runQueue (k : Nat) (n : Slot) (s : State) : (runQueue k n s).keySide = s.keySide := by
  induction k generalizing s with
  | zero => rfl
  | succ k ih =>
    unfold runQueue
    split
    · simp [ih]
    · rfl

@[simp] theorem keySide_pump (n : Slot) (s : State) : (pump n s).keySide = s.keySide := keySide_runQueue _ n s

@[simp] theorem keySide_joinOp (n : Slot) (kind : OpKind) (origin : Origin) (s : State) :
    (joinOp n kind origin s).keySide = s.keySide := keySide_pump n _

@[simp] theorem keySide_askAuto (n : Slot) (kind : OpKind) (s : State) : (askAuto n kind s).keySide = s.keySide := by
  unfold askAuto
  split <;> simp

@[simp] theorem keySide_endOp (n : Slot) (r : OpResult) (why : Option FailureReason) (e : Byte) (a : Word16) (s : State) :
    (endOp n r why e a s).keySide = s.keySide := keySide_pump n _

@[simp] theorem keySide_bindAuto (n : Slot) (s : State) : (bindAuto n s).keySide = s.keySide := keySide_askAuto n .bind _

@[simp] theorem keySide_failBinding (n : Slot) (why : FailureReason) (alert : Alert) (s : State) :
    (failBinding n why alert s).keySide = s.keySide := keySide_endOp n _ _ _ _ _

/-! ### The end of an attempt -/

@[simp] theorem keySide_goOnToChallenge (n : Slot) (s : State) : (goOnToChallenge n s).keySide = s.keySide := by
  unfold goOnToChallenge
  split <;> simp

@[simp] theorem keySide_judgeIdentity (n : Slot) (msg : List Byte) (s : State) :
    (judgeIdentity n msg s).keySide = s.keySide := by
  unfold judgeIdentity
  dsimp only
  split
  · simp
  split
  · simp
  split
  · simp
  split <;> simp

@[simp] theorem keySide_evaluateBind (n : Slot) (used g : Nat) (s : State) : (evaluateBind n used g s).1.keySide = s.keySide := by
  unfold evaluateBind
  split
  · rfl
  · dsimp only
    split <;> simp

@[simp] theorem keySide_becomeVerified (n : Slot) (e : SlotEvent) (judged : Bool) (a : Word16) (s : State) :
    (becomeVerified n e judged a s).keySide = s.keySide := keySide_endOp n _ _ _ _ _

@[simp] theorem keySide_judgeChallenge (n : Slot) (a : Attempt) (msg : List Byte) (s : State) :
    (judgeChallenge n a msg s).keySide = s.keySide := by
  unfold judgeChallenge
  dsimp only
  split
  · split <;> simp
  · simp

@[simp] theorem keySide_judgeAdvance (n : Slot) (msg : List Byte) (s : State) :
    (judgeAdvance n msg s).keySide = s.keySide := by
  unfold judgeAdvance
  extract_lets c
  split
  · rfl
  · extract_lets e s1 s2 p s3
    have hwritten : s3.keySide = s.keySide := by
      unfold s3 s2
      split <;> simp [s1]
    rw [← hwritten]
    split
    · split <;> simp
    · simp

@[simp] theorem keySide_failAttempt (n : Slot) (a : Attempt) (s : State) : (failAttempt n a s).keySide = s.keySide := by
  have hfailed : (s.attemptFailed n a).keySide = s.keySide := rfl
  rw [failAttempt_eq, ← hfailed]
  split
  · simp
  · simp [linkOutcome]

@[simp] theorem keySide_judgeResponse (n : Slot) (a : Attempt) (op : CurrentOp) (msg : List Byte) (s : State) :
    (judgeResponse n a op msg s).keySide = s.keySide := by
  unfold judgeResponse handResponse
  split
  · split <;> simp
  · simp

/-! ### Seats, credits and all slots at once -/

/-- The end of a binding at a seat found empty (R78, R97). -/
theorem keySide_unbound (n : Slot) (p : Prop) [Decidable p] (s : State) :
    (setBinding n .noCartridge none (if p then s else endBinding n s)).keySide = s.keySide := by
  split <;> simp

@[simp] theorem keySide_removeCartridge (n : Slot) (s : State) : (removeCartridge n s).keySide = s.keySide :=
  keySide_unbound n _ _

@[simp] theorem keySide_endByEmptySeat (n : Slot) (s : State) : (endByEmptySeat n s).keySide = s.keySide :=
  keySide_unbound n _ _

@[simp] theorem keySide_reprove (n : Slot) (s : State) : (reprove n s).keySide = s.keySide := keySide_askAuto n .verify _

@[simp] theorem keySide_releaseSlot (n : Slot) (s : State) : (releaseSlot n s).keySide = s.keySide := by
  unfold releaseSlot
  split
  case h_7 => split <;> simp
  all_goals simp

@[simp] theorem keySide_askUnverified (n : Slot) (s : State) : (askUnverified n s).keySide = s.keySide := by
  unfold askUnverified
  split <;> simp

@[simp] theorem keySide_bindSeated (n : Slot) (s : State) : (bindSeated n s).keySide = s.keySide := by
  unfold bindSeated
  split <;> simp

theorem keySide_askIfDue (due : SlotContext → Bool) (kind : OpKind) (n : Slot) (s : State) :
    (askIfDue due kind n s).keySide = s.keySide := by
  unfold askIfDue
  split <;> simp

@[simp] theorem keySide_handleReport (r : DropReport) (s : State) : (handleReport r s).keySide = s.keySide := by
  unfold handleReport
  split
  · rfl
  · split
    case h_1 | h_2 => rfl
    all_goals exact (keySide_askIfDue _ _ _ _).trans (keySide_askIfDue _ _ _ _)

end Sys2Proof.Machine
end

section
/-! The commands that leave the agreement of key state and Record Store alone: every one but PROVISION KEY, the end of a program,
the end of RESTORING, and power and reset (for O55). -/

namespace Sys2Proof.Machine

/-! ### Requests -/

theorem keySide_writeThresholds (t : Option (Vector Nat 7)) (s : State) : (writeThresholds t s).keySide = s.keySide := by
  cases t <;> rfl

@[simp] theorem keySide_checkLimit (i : ThermalInput) (s : State) : (checkLimit i s).keySide = s.keySide := by
  unfold checkLimit
  split <;> simp

theorem keySide_writeLimits (pairs : List (ThermalInput × Nat)) (s : State) :
    (pairs.foldl writeLimit s).keySide = s.keySide := by
  induction pairs generalizing s with
  | nil => rfl
  | cons p pairs ih => exact (ih (writeLimit s p)).trans (keySide_checkLimit p.1 _)

theorem keySide_handleStartOperation (args : List Byte) (s : State) : (handleStartOperation args s).state.keySide = s.keySide := by
  unfold handleStartOperation
  split
  · rfl
  · split
    · rfl
    · split
      · exact (keySide_waitTest _).trans (keySide_joinOp _ _ _ s)
      · rfl

@[simp] theorem keySide_haltedState (n : Slot) (s : State) : (haltedState n s).keySide = s.keySide := by
  unfold haltedState
  split
  · rfl
  · split <;> rfl

theorem keySide_handleHaltSlot (args : List Byte) (s : State) : (handleHaltSlot args s).state.keySide = s.keySide := by
  unfold handleHaltSlot
  split
  · rfl
  · simp [haltSlot_state]

theorem keySide_handleWriteSlotConfig (args : List Byte) (s : State) :
    (handleWriteSlotConfig args s).state.keySide = s.keySide := by
  unfold handleWriteSlotConfig
  split
  · rfl
  · dsimp only [okWith]
    split <;> rfl

theorem keySide_handleWriteLane (args : List Byte) (s : State) : (handleWriteLane args s).state.keySide = s.keySide := by
  unfold handleWriteLane
  split
  · rfl
  · split
    · rfl
    · exact keySide_waitTest _

theorem keySide_handleWritePolicy (args : List Byte) (s : State) : (handleWritePolicy args s).state.keySide = s.keySide := by
  unfold handleWritePolicy
  split
  · rfl
  · split
    · rfl
    · exact keySide_waitTest _

theorem keySide_handleWriteLimits (args : List Byte) (s : State) : (handleWriteLimits args s).state.keySide = s.keySide := by
  unfold handleWriteLimits
  split
  · rfl
  · next w _ =>
    split
    · exact keySide_writeThresholds _ s
    · exact (keySide_waitTest _).trans ((keySide_writeLimits _ _).trans (keySide_writeThresholds w.thresholds s))

theorem keySide_handleForgetRetired (args : List Byte) (s : State) : (handleForgetRetired args s).state.keySide = s.keySide := by
  unfold handleForgetRetired
  split
  · rfl
  · split
    · rfl
    · split
      · rfl
      · next e _ => exact keySide_removeRetired e s

theorem keySide_handleSampleNext (args : List Byte) (s : State) : (handleSampleNext args s).state.keySide = s.keySide := by
  unfold handleSampleNext
  split
  · split
    · dsimp only
      split <;> rfl
    · rfl
  · rfl

theorem keySide_handleResumeStream (args : List Byte) (s : State) : (handleResumeStream args s).state.keySide = s.keySide := by
  unfold handleResumeStream
  split
  · split
    · exact keySide_waitTest _
    · rfl
  · rfl

/-- No request but PROVISION KEY touches the key's side. -/
theorem keySide_of_requestOf {c : Instr} {row : FrameRow} {handle : List Byte → State → Answer}
    (h : requestOf c = some (row, handle)) (hc : c ≠ .provisionKey) (args : List Byte) (s : State) :
    (handle args s).state.keySide = s.keySide := by
  cases c <;> cases h
  case unknownRequest => rfl
  case readSummary => rw [handleReadSummary_state]
  case readSlot => rw [handleReadSlot_state]
  case collectStatus => unfold handleCollectStatus; split <;> rfl
  case startOperation => exact keySide_handleStartOperation args s
  case haltSlot => exact keySide_handleHaltSlot args s
  case writeSlotConfig => exact keySide_handleWriteSlotConfig args s
  case readSlotConfig => rw [handleReadSlotConfig_state]
  case writeLane => exact keySide_handleWriteLane args s
  case readLane => rw [handleReadLane_state]
  case readLaneCounters =>
    unfold handleReadLaneCounters
    split
    · rfl
    · next l clear _ => cases clear <;> rfl
  case writePolicy => exact keySide_handleWritePolicy args s
  case readPolicy => rw [handleReadPolicy_state]
  case lockPolicy => unfold handleLockPolicy; split <;> rfl
  case writeSequence =>
    unfold handleWriteSequence
    split
    · rfl
    · split <;> rfl
  case setSampleMode => unfold handleSetSampleMode; split <;> rfl
  case sampleNext => exact keySide_handleSampleNext args s
  case sampleInput =>
    unfold handleSampleInput
    split
    · rfl
    · split <;> rfl
  case readSamples =>
    unfold handleReadSamples
    split
    · rfl
    · next clear _ => cases clear <;> rfl
  case writeLimits => exact keySide_handleWriteLimits args s
  case readRetired => rw [handleReadRetired_state]
  case forgetRetired => exact keySide_handleForgetRetired args s
  case provisionKey => exact absurd rfl hc
  case resumeStream => exact keySide_handleResumeStream args s
  case clearConditions => unfold handleClearConditions; split <;> rfl
  case writeFaultMask => unfold handleWriteFaultMask; split <;> rfl

@[simp] theorem keySide_discarded (c : Condition) (s : State) : (s.discarded c).keySide = s.keySide := rfl

theorem keySide_takeRequest {c : Instr} {row : FrameRow} {handle : List Byte → State → Answer}
    (h : requestOf c = some (row, handle)) (hc : c ≠ .provisionKey) (s : State) :
    (takeRequest row handle s).keySide = s.keySide := by
  rcases takeRequest_cases row handle s with he | ⟨k, -, he⟩ | ⟨seq, he⟩ | ⟨seq, bs, -, -, he⟩ <;> rw [he]
  · simp
  · rfl
  · exact keySide_of_requestOf h hc _ (s.consumed seq)

/-! ### Frames -/

theorem keySide_filterFire (bs : List Byte) (s : State) : (filterFire bs s).keySide = s.keySide := by
  have hcounted : ∀ marked, (fireCounted bs marked s).keySide = s.keySide := fun marked => keySide_handleReport _ _
  unfold filterFire
  split
  · exact hcounted false
  · exact hcounted true
  · exact hcounted true
  · rfl

@[simp] theorem keySide_closeSwath (unterminated : Bool) (closing : Byte) (s : State) :
    (closeSwath unterminated closing s).keySide = s.keySide := by
  obtain ⟨q, w, h⟩ := closeSwath_frame unterminated closing s
  rw [h]
  rfl

theorem keySide_startSwath (bs : List Byte) (s : State) : (startSwath bs s).keySide = s.keySide := by
  rcases startSwath_cases bs s with ⟨-, h⟩ | ⟨-, h⟩ <;> rw [h]
  · rfl
  · obtain ⟨w, hw⟩ := holdStream_frame s
    rw [hw]
    rfl

theorem keySide_handleFire (bs : List Byte) {s : State} (hr : s.running = true) : (handleFire bs s).keySide = s.keySide := by
  rw [handleFire_of_running hr]
  split
  · exact keySide_filterFire bs _
  · rfl

theorem keySide_handleSpit (bs : List Byte) {s : State} (hr : s.running = true) : (handleSpit bs s).keySide = s.keySide := by
  unfold handleSpit
  rw [sequenceCheck_of_released (released_of_running hr)]
  exact keySide_handleReport _ _

theorem keySide_handleSwathStart (bs : List Byte) {s : State} (hr : s.running = true) :
    (handleSwathStart bs s).keySide = s.keySide := by
  rw [handleSwathStart_of_running hr, keySide_startSwath]
  unfold State.beforeStart
  split
  · exact keySide_closeSwath _ _ _
  · rfl

theorem keySide_handleSwathEnd (bs : List Byte) {s : State} (hr : s.running = true) :
    (handleSwathEnd bs s).keySide = s.keySide := by
  rw [handleSwathEnd_of_running hr]
  split
  · exact keySide_closeSwath _ _ (s.tracked _)
  · rfl

/-- A frame that is taken, by a row whose handler leaves the key's side alone (R3 to R6). -/
theorem keySide_takeFrame {row : FrameRow} {handle : List Byte → State → State} {s : State}
    (h : ∀ bs, s.running = true → (handle bs s).keySide = s.keySide) : (takeFrame row handle s).keySide = s.keySide :=
  takeFrame_gives (P := fun t => t.keySide = s.keySide) rfl (fun c => keySide_discarded c s) fun bs ht _ _ => h bs ht.running

/-- A command that takes the power, RESET_N or RESTORING. -/
def resetCommand : Instr → Bool
  | .powerOn _ | .lossOfPower | .pinResetAsserted | .pinResetReleased | .endOfRestoring => true
  | _ => false

theorem keySide_of_portOf {c : Instr} {f : State → State} (h : portOf c = some f) (hc : resetCommand c = false) (s : State) :
    (f s).keySide = s.keySide := by
  cases c <;> cases h
  case powerOn | lossOfPower | pinResetAsserted => cases hc
  case frameArrivalBegins kind =>
    rcases beginArrival_cases kind s with h | h | ⟨-, -, h⟩ <;> rw [h]
    · exact keySide_raise _ s
    · rfl
  case frameArrivalEnds rest =>
    rw [endArrival_eq]
    split <;> rfl
  case unknownKindFrame => exact keySide_takeFrame fun _ _ => keySide_raise _ (freePlace s)
  case fire => exact keySide_takeFrame fun bs hr => keySide_handleFire bs hr
  case spit => exact keySide_takeFrame fun bs hr => keySide_handleSpit bs hr
  case swathStart => exact keySide_takeFrame fun bs hr => keySide_handleSwathStart bs hr
  case swathEnd => exact keySide_takeFrame fun bs hr => keySide_handleSwathEnd bs hr
  case streamReset => exact keySide_takeFrame fun bs _ => rfl
  case heldSwathStartForwarded =>
    rcases forwardHeld_cases s with h | ⟨f, rest, -, -, -, -, -, h⟩ <;> rw [h]
    rfl
  case headTransferBegins ready => obtain ⟨_, _, he⟩ := beginTransfer_frame ready s; rw [he]; rfl
  case headTransferCompletes => obtain ⟨_, he⟩ := completeTransfer_frame s; rw [he]; rfl
  case returnTransmissionBegins => obtain ⟨_, _, he⟩ := beginTransmission_frame s; rw [he]; rfl
  case returnTransmissionCompletes => obtain ⟨_, he⟩ := completeTransmission_frame s; rw [he]; rfl

/-! ### Events -/

theorem keySide_seatEvent (n : Slot) (level : Seat) (s : State) : (seatEvent n level s).keySide = s.keySide := by
  unfold seatEvent
  split
  · rfl
  · cases level with
    | seated =>
      refine (keySide_waitTest _).trans ?_
      unfold insertionEvent
      split <;> simp
    | empty =>
      refine (keySide_waitTest _).trans ?_
      unfold removalEvent
      split <;> simp

theorem keySide_expireDebounce (n : Slot) (s : State) : (expireDebounce n s).keySide = s.keySide := by
  unfold expireDebounce
  dsimp only
  split
  · split
    · rfl
    · exact keySide_seatEvent n _ _
  · rfl

theorem keySide_completeConversion (code : Code) (s : State) : (completeConversion code s).keySide = s.keySide := by
  unfold completeConversion
  split
  · rfl
  · split
    · exact (keySide_waitTest _).trans (keySide_checkLimit _ _)
    · rfl

theorem keySide_receiveResponse (n : Slot) (response : List Byte) (s : State) :
    (receiveResponse n response s).keySide = s.keySide := by
  unfold receiveResponse
  split
  · split
    · exact (keySide_waitTest _).trans (keySide_judgeResponse n _ _ _ s)
    · rfl
  · rfl

theorem keySide_expireAttempt (n : Slot) (received : Nat) (s : State) : (expireAttempt n received s).keySide = s.keySide := by
  unfold expireAttempt
  split
  · split
    · exact (keySide_waitTest _).trans (keySide_failAttempt n _ s)
    · rfl
  · rfl

theorem keySide_of_eventOf {c : Instr} {f : State → State} (h : eventOf c = some f) (hc : resetCommand c = false)
    (hp : ∀ passes, c ≠ .programVerify passes) (s : State) : (f s).keySide = s.keySide := by
  cases c <;> cases h
  case endOfRestoring | pinResetReleased => cases hc
  case seatChange n level => unfold changeSeat; split <;> rfl
  case debounceExpiry n => exact keySide_expireDebounce n s
  case settleTimerExpiry n => unfold expireSettle; dsimp only; split <;> simp
  case idleTimerExpiry n => unfold expireIdle; dsimp only; split <;> rfl
  case cartridgeResponse n response => exact keySide_receiveResponse n response s
  case attemptTimeout n received => exact keySide_expireAttempt n received s
  case conversionComplete code => exact keySide_completeConversion code s
  case programVerify passes => exact absurd rfl (hp passes)

/-- A command that leaves the agreement of key state and Record Store alone. -/
theorem keySide_exec {c : Instr} {s t : State} (h : exec c s = .next t) (hkey : c ≠ .provisionKey) (hreset : resetCommand c = false)
    (hprogram : ∀ passes, c ≠ .programVerify passes) : t.keySide = s.keySide := by
  rcases command_cases c with ⟨row, handle, hc⟩ | ⟨f, hc⟩ | ⟨f, hc⟩
  · cases (exec_of_requestOf hc s).symm.trans h
    exact keySide_takeRequest hc hkey s
  · cases (exec_of_eventOf hc s).symm.trans h
    exact keySide_of_eventOf hc hreset hprogram s
  · cases (exec_of_portOf hc s).symm.trans h
    exact keySide_of_portOf hc hreset s

end Sys2Proof.Machine
end

section
/-! What the commands that touch the key state leave of its agreement with the Record Store, and of a root key that is PRESENT
(for O55). -/

namespace Sys2Proof.Machine

/-- Key state and Record Store agree after a step, and a PRESENT root key stays while the power does (R122, R173). -/
structure KeyStep (s t : State) : Prop where
  agrees : KeyWf t
  kept : ∀ k, s.powered = true → s.key = .present k → t.powered = true → t.key = .present k

/-- What leads to the same key's side is the same step of it. -/
theorem KeyStep.congr {s t u : State} (h : t.keySide = u.keySide) (hu : KeyStep s u) : KeyStep s t :=
  ⟨hu.agrees.of_keySide h, fun k hp hk ht => (key_of_keySide h).trans (hu.kept k hp hk
    ((congrArg KeySide.powered h).symm.trans ht))⟩

theorem KeyStep.of_keySide {s t : State} (hs : KeyWf s) (h : t.keySide = s.keySide) : KeyStep s t :=
  .congr h ⟨hs, fun _ _ hk _ => hk⟩

/-- A step that finds no key PRESENT has none to keep. -/
theorem KeyStep.of_not_present {s t : State} (h : KeyWf t) (hs : ∀ k, s.key ≠ .present k) : KeyStep s t :=
  ⟨h, fun k _ hk _ => absurd hk (hs k)⟩

theorem keySide_eq_of_fields {s t : State} (hpowered : t.powered = s.powered) (hrestoring : t.restoring = s.restoring)
    (hreset : t.resetAsserted = s.resetAsserted) (hheld : t.keyCommitHeld = s.keyCommitHeld) (hkey : t.key = s.key)
    (hform : t.store.keyForm = s.store.keyForm) (hwrites : keyWrites t.store = keyWrites s.store) : t.keySide = s.keySide := by
  simp only [State.keySide, *]

/-! ### PROVISION KEY -/

/-- A write of the key record where none is under way is then the one (R175). -/
theorem keyWrites_enqueued_key {w : Write} (hw : w.pos = .key) {st : RecordStore} {q : List Write} (h0 : keyWrites st = 0)
    (h : enqueueWrite w st.commitQueue = some q) : keyWrites (beginProgram { st with commitQueue := q }) = 1 := by
  have hnone : ∀ x ∈ st.commitQueue, ¬decide (x.pos = RecordPos.key) = true :=
    List.countP_eq_zero.mp (Nat.add_eq_zero_iff.mp h0).1
  rcases enqueueWrite_cases w st.commitQueue with ⟨⟨x, hx, hpos⟩, -⟩ | ⟨-, -, he⟩ | ⟨-, -, he⟩
  · exact absurd (decide_eq_true (hpos.trans hw)) (hnone x hx)
  · rw [keyWrites_beginProgram, ← Option.some.inj (he.symm.trans h), ← Nat.zero_add 1, ← h0]
    simp only [keyWrites, List.countP_append, List.countP_singleton, hw, decide_true, if_true]
    omega
  · exact absurd (he.symm.trans h) nofun

/-- PROVISION KEY makes an ABSENT key PROVISIONING with the one write of its record, or leaves it (R123). -/
theorem keyStep_handleProvisionKey (args : List Byte) {s : State} (hr : s.running = true) (hs : KeyWf s) :
    KeyStep s (handleProvisionKey args s).state := by
  unfold handleProvisionKey
  split
  · exact .of_keySide hs rfl
  · next root _ =>
    split
    · exact .of_keySide hs rfl
    · exact .of_keySide hs rfl
    · next hkey =>
      obtain ⟨hwrites, hheld⟩ := hs.absent hkey
      dsimp only
      rcases requestWrite_cases (.key root) s with ⟨q, hq, h⟩ | ⟨-, h⟩ <;> rw [h]
      · refine .of_not_present ⟨nofun, fun _ => .inl ⟨keyWrites_enqueued_key rfl hwrites hq, hheld⟩, nofun, fun hu => ?_⟩
          fun k hk => by simp [hkey] at hk
        obtain ⟨hpowered, -, hrestoring⟩ := (running_iff s).mp hr
        rcases hu with hu | hu
        · exact absurd (hu.symm.trans hpowered) nofun
        · exact absurd (hrestoring.symm.trans hu) nofun
      · exact .of_keySide hs (keySide_raise _ s)

theorem keyStep_provisionKey {row : FrameRow} {s : State} (hs : KeyWf s) :
    KeyStep s (takeRequest row handleProvisionKey s) := by
  rcases takeRequest_cases row handleProvisionKey s with he | ⟨k, -, he⟩ | ⟨seq, he⟩ | ⟨seq, bs, hr, -, he⟩ <;> rw [he]
  · exact .of_keySide hs rfl
  · exact .of_keySide hs rfl
  · exact .of_keySide hs rfl
  · have hconsumed : KeyWf (s.consumed seq) := KeyWf.of_keySide (s := s) rfl hs
    obtain ⟨hagrees, hkept⟩ := keyStep_handleProvisionKey (requestArgs bs) (s := s.consumed seq) hr hconsumed
    exact .congr (u := (handleProvisionKey (requestArgs bs) (s.consumed seq)).state) rfl ⟨hagrees, hkept⟩

/-! ### The end of a program -/

@[simp] theorem keySide_nextProgram (s : State) : (nextProgram s).keySide = s.keySide := by
  simp only [nextProgram, State.keySide, keyWrites_beginProgram, beginProgram_keyForm]

/-- The writes of the key record that stand once a program has ended. -/
theorem keyWrites_ended {p : Program} {st st' : RecordStore} (hp : st.program = some p) (hq : st'.commitQueue = st.commitQueue)
    (hn : st'.program = none) : keyWrites st = keyWrites st' + if p.write.pos = .key then 1 else 0 := by
  simp only [keyWrites, hp, hq, hn, Nat.add_zero]

theorem keyWrites_key_ended {p : Program} {st st' : RecordStore} {root : RootKey} (hp : st.program = some p)
    (hw : p.write = .key root) (hone : keyWrites st = 1) (hq : st'.commitQueue = st.commitQueue) (hn : st'.program = none) :
    keyWrites st' = 0 := by
  have hwrites := keyWrites_ended hp hq hn
  rw [hone, if_pos (by rw [hw]; rfl)] at hwrites
  omega

/-- While a write of the key record is under way the key is PROVISIONING, by that write alone (R122, R123). -/
theorem KeyWf.provisioning_of_program {s : State} (hs : KeyWf s) {p : Program} (hp : s.store.program = some p)
    (hw : p.write.pos = .key) : s.key = .provisioning ∧ keyWrites s.store = 1 ∧ s.keyCommitHeld = false := by
  have hpos : 1 ≤ keyWrites s.store := by
    rw [keyWrites_ended (st' := { s.store with program := none }) hp rfl rfl, if_pos hw]
    exact Nat.le_add_left ..
  cases hkey : s.key with
  | absent => rw [(hs.absent hkey).1] at hpos; exact absurd hpos (by decide)
  | present k => rw [(hs.present k hkey).2.1] at hpos; exact absurd hpos (by decide)
  | provisioning =>
    rcases hs.provisioning hkey with h | ⟨h0, -⟩
    · exact ⟨rfl, h⟩
    · rw [h0] at hpos; exact absurd hpos (by decide)

@[simp] theorem keySide_keyCommitted (root : RootKey) (s : State) :
    (keyCommitted root s).keySide = { s with key := .present root }.keySide := keySide_overSlots keySide_askUnverified _

/-- A committed key makes the key state PRESENT, or waits for the release of RESET_N (R124, R181). -/
theorem keyStep_commitProgram {p : Program} {s : State} (hp : s.store.program = some p) (hs : KeyWf s) :
    KeyStep s (commitProgram p s) := by
  refine .congr (keySide_nextProgram _) ?_
  have hother : p.write.pos ≠ .key → ∀ st : RecordStore, st.keyForm = s.store.keyForm →
      st.commitQueue = s.store.commitQueue → st.program = none → KeyStep s { s with store := st } := fun hpos st hform hq hn => by
    refine .of_keySide hs (keySide_eq_of_fields rfl rfl rfl rfl rfl hform ?_)
    rw [keyWrites_ended hp hq hn, if_neg hpos]
    rfl
  unfold reportCommit
  cases hw : p.write with
  | checkpoint k c => exact hother (by simp [hw, Write.pos]) _ rfl rfl rfl
  | retired r c => exact hother (by simp [hw, Write.pos]) _ rfl rfl rfl
  | key root =>
    obtain ⟨hkey, hone, hheld⟩ := hs.provisioning_of_program hp (by rw [hw]; rfl)
    have hended : keyWrites (storeValid (.key root) { s.store with program := none }) = 0 :=
      keyWrites_key_ended hp hw hone rfl rfl
    have hnot : ∀ k, s.key ≠ .present k := fun k => by simp [hkey]
    have hsettled : ¬(s.powered = false ∨ s.restoring = true) := fun hu => by simp [hs.unsettled hu] at hkey
    dsimp only
    split
    · next ha =>
      exact .of_not_present ⟨fun k hk => absurd hk (hnot k), fun _ => .inr ⟨hended, rfl, ha, root, rfl⟩,
        fun hk => by simp [hkey] at hk, fun hu => absurd hu hsettled⟩ hnot
    · refine .congr ((keySide_waitTest _).trans (keySide_keyCommitted root _)) (.of_not_present ?_ hnot)
      exact ⟨fun k hk => by cases hk; exact ⟨rfl, hended, hheld⟩, nofun, nofun, fun hu => absurd hu hsettled⟩

/-- An abandoned key makes the key state ABSENT (R177). -/
theorem keyStep_abandonProgram {p : Program} {s : State} (hp : s.store.program = some p) (hs : KeyWf s) :
    KeyStep s (abandonProgram p s) := by
  refine .congr (keySide_nextProgram _) ?_
  have hother : p.write.pos ≠ .key → ∀ st : RecordStore, st.keyForm = s.store.keyForm →
      st.commitQueue = s.store.commitQueue → st.program = none →
      KeyStep s (State.raise { s with store := st } .storeWriteFail) := fun hpos st hform hq hn => by
    refine .of_keySide hs ((keySide_raise _ _).trans (keySide_eq_of_fields rfl rfl rfl rfl rfl hform ?_))
    rw [keyWrites_ended hp hq hn, if_neg hpos]
    rfl
  unfold reportAbandoned
  cases hw : p.write with
  | checkpoint k c => exact hother (by simp [hw, Write.pos]) _ rfl rfl rfl
  | retired r c => exact hother (by simp [hw, Write.pos]) _ rfl rfl rfl
  | key root =>
    obtain ⟨hkey, hone, hheld⟩ := hs.provisioning_of_program hp (by rw [hw]; rfl)
    have hended : keyWrites (storeInvalid .key { s.store with
        program := none, heldFailure := s.store.heldFailure || s.resetAsserted }) = 0 := keyWrites_key_ended hp hw hone rfl rfl
    dsimp only
    rw [State.raise_frame]
    exact .of_not_present ⟨nofun, nofun, fun _ => ⟨hended, hheld⟩, fun _ => rfl⟩
      fun k => by simp [hkey]

theorem keyStep_endProgram (passes : Bool) {s : State} (hs : KeyWf s) : KeyStep s (endProgram passes s) := by
  unfold endProgram
  split
  · exact .of_keySide hs rfl
  · next p hp =>
    split
    · exact keyStep_commitProgram hp hs
    · split
      · refine .of_keySide hs (keySide_eq_of_fields rfl rfl rfl rfl rfl rfl ?_)
        simp only [keyWrites, hp]
      · exact keyStep_abandonProgram hp hs

/-! ### RESTORING, RESET_N and the power -/

@[simp] theorem keySide_raiseRestoreInvalid (s : State) : (raiseRestoreInvalid s).keySide = s.keySide := by
  unfold raiseRestoreInvalid
  split <;> simp

/-- The restore hands out the key that the store holds (R178, R180). -/
theorem keyStep_endRestore {s : State} (hs : KeyWf s) : KeyStep s (endRestore s) := by
  by_cases h : s.powered = true ∧ s.restoring = true
  · have hkey : s.key = .absent := hs.unsettled (.inr h.2)
    obtain ⟨hwrites, hheld⟩ := hs.absent hkey
    have hresults : KeyStep s (handResults s) := by
      refine .of_not_present ⟨fun k hk => ?_, fun hk => absurd hk (restoredKey_ne_provisioning _), fun _ => ⟨hwrites, hheld⟩,
        fun hu => hu.elim (fun hu => absurd (hu.symm.trans h.1) nofun) nofun⟩ fun k => by simp [hkey]
      exact ⟨((restoredKey_present s.store k).mp hk).1, hwrites, hheld⟩
    rw [show endRestore s = _ from if_pos h]
    dsimp only
    split
    · exact .congr (u := handResults s) rfl hresults
    · exact .congr ((keySide_overSlots keySide_bindSeated _).trans (keySide_raiseRestoreInvalid _)) hresults
  · rw [show endRestore s = s from if_neg h]
    exact .of_keySide hs rfl

/-- A commit is held while the key is PROVISIONING with its record VALID and no write of it under way (R181). -/
theorem KeyWf.provisioning_of_held {s : State} (hs : KeyWf s) (h : s.keyCommitHeld = true) :
    s.key = .provisioning ∧ keyWrites s.store = 0 := by
  cases hkey : s.key with
  | absent => exact absurd h (by simp [(hs.absent hkey).2])
  | present k => exact absurd h (by simp [(hs.present k hkey).2.2])
  | provisioning =>
    rcases hs.provisioning hkey with ⟨-, hf⟩ | ⟨h0, -⟩
    · exact absurd h (by simp [hf])
    · exact ⟨rfl, h0⟩

theorem keySide_takeHeldCommit {t : State} {root : RootKey} (h : t.keyCommitHeld = true) (hform : t.store.keyForm = .valid root) :
    (takeHeldCommit t).keySide = { t with key := .present root, keyCommitHeld := false }.keySide := by
  have hcommitted := keySide_keyCommitted root t
  unfold takeHeldCommit
  rw [if_pos h, hform]
  simp only [State.keySide, KeySide.mk.injEq] at hcommitted ⊢
  obtain ⟨hpowered, hrestoring, hreset, -, hkey, hform, hwrites⟩ := hcommitted
  exact ⟨hpowered, hrestoring, hreset, trivial, hkey, hform, hwrites⟩

theorem takeHeldCommit_of_free {t : State} (h : t.keyCommitHeld = false) : takeHeldCommit t = t :=
  if_neg (Bool.eq_false_iff.mp h)

theorem keySide_takeHeld (t : State) : (takeHeldRestore (takeHeldFailure t)).keySide = t.keySide := by
  have hfailure : (takeHeldFailure t).keySide = t.keySide := by
    unfold takeHeldFailure
    split
    · exact keySide_raise _ _
    · rfl
  refine Eq.trans ?_ hfailure
  unfold takeHeldRestore
  split
  · exact keySide_raiseRestoreInvalid _
  · rfl

/-- The slots as the release of RESET_N has treated them (R97). -/
theorem keySide_releaseSlots (s : State) :
    (if s.restoring then seatsRead s else overSlots releaseSlot (seatsRead s)).keySide =
      { s with resetAsserted := false }.keySide := by
  split
  · rfl
  · exact keySide_overSlots keySide_releaseSlot (seatsRead s)

/-- With RESET_N released, a held commit has made the key state PRESENT (R124, R181). -/
theorem keySide_releaseReset {s : State} (hs : KeyWf s) (hp : s.powered = true) (ha : s.resetAsserted = true) :
    (s.keyCommitHeld = false ∧ (releaseReset s).keySide = { s with resetAsserted := false }.keySide) ∨
    ∃ root, s.store.keyForm = .valid root ∧ s.keyCommitHeld = true ∧
      (releaseReset s).keySide = { s with resetAsserted := false, key := .present root, keyCommitHeld := false }.keySide := by
  have hslots := keySide_releaseSlots s
  rw [releaseReset_eq hp ha, keySide_takeHeld]
  generalize (if s.restoring then seatsRead s else overSlots releaseSlot (seatsRead s)) = t at hslots
  have hheld : t.keyCommitHeld = s.keyCommitHeld := congrArg KeySide.held hslots
  have hform : t.store.keyForm = s.store.keyForm := congrArg KeySide.form hslots
  rcases Bool.eq_false_or_eq_true s.keyCommitHeld with h | h
  · obtain ⟨root, hroot⟩ := hs.held h
    refine .inr ⟨root, hroot, h, (keySide_takeHeldCommit (hheld.trans h) (hform.trans hroot)).trans ?_⟩
    simp only [State.keySide, KeySide.mk.injEq] at hslots ⊢
    obtain ⟨hpowered, hrestoring, hreset, -, -, hform, hwrites⟩ := hslots
    exact ⟨hpowered, hrestoring, hreset, trivial, trivial, hform, hwrites⟩
  · exact .inl ⟨h, by rw [takeHeldCommit_of_free (hheld.trans h), hslots]⟩

theorem keyStep_releaseReset {s : State} (hs : KeyWf s) : KeyStep s (releaseReset s) := by
  by_cases h : s.powered = true ∧ s.resetAsserted = true
  · rcases keySide_releaseReset hs h.1 h.2 with ⟨hfree, hside⟩ | ⟨root, hroot, hheld, hside⟩
    · refine .congr hside ⟨⟨hs.present, fun hk => ?_, hs.absent, hs.unsettled⟩, fun _ _ hk _ => hk⟩
      exact (hs.provisioning hk).imp_right fun ⟨_, hheld, _⟩ => absurd (hheld.symm.trans hfree) nofun
    · obtain ⟨hkey, hwrites⟩ := hs.provisioning_of_held hheld
      have hsettled : ¬(s.powered = false ∨ s.restoring = true) := fun hu => by simp [hs.unsettled hu] at hkey
      exact .congr hside (.of_not_present ⟨fun k hk => by cases hk; exact ⟨hroot, hwrites, rfl⟩, nofun, nofun,
        fun hu => absurd hu hsettled⟩ fun k => by simp [hkey])
  · rw [show releaseReset s = s from if_neg h]
    exact .of_keySide hs rfl

theorem keyStep_assertReset {s : State} (hs : KeyWf s) : KeyStep s (assertReset s) := by
  unfold assertReset
  split
  · refine ⟨⟨hs.present, fun hk => ?_, hs.absent, hs.unsettled⟩, fun _ _ hk _ => hk⟩
    exact (hs.provisioning hk).imp_right fun ⟨h0, hheld, _, hform⟩ => ⟨h0, hheld, rfl, hform⟩
  · exact .of_keySide hs rfl

/-- With every volatile field at its power-on value the key state is ABSENT, with no write of it under way. -/
theorem keyWf_of_volatileReset {st : RecordStore} {s t : State} (hkey : t.key = .absent) (hheld : t.keyCommitHeld = false)
    (hstore : t.store = (volatileReset st s).store) : KeyWf t :=
  ⟨fun k hk => by simp [hkey] at hk, fun hk => by simp [hkey] at hk, fun _ => ⟨by rw [hstore]; rfl, hheld⟩, fun _ => hkey⟩

/-- Every step keeps the agreement, and a PRESENT root key while the power lasts (R122, R173). -/
theorem keyStep_exec {c : Instr} {s t : State} (h : exec c s = .next t) (hs : KeyWf s) : KeyStep s t := by
  by_cases hquiet : c ≠ .provisionKey ∧ resetCommand c = false ∧ ∀ passes, c ≠ .programVerify passes
  · exact .of_keySide hs (keySide_exec h hquiet.1 hquiet.2.1 hquiet.2.2)
  · cases c
    case provisionKey => cases h; exact keyStep_provisionKey hs
    case programVerify passes => cases h; exact keyStep_endProgram passes hs
    case endOfRestoring => cases h; exact keyStep_endRestore hs
    case pinResetReleased => cases h; exact keyStep_releaseReset hs
    case pinResetAsserted => cases h; exact keyStep_assertReset hs
    case powerOn decayed =>
      cases h
      unfold applyPower
      split
      · exact .of_keySide hs rfl
      · next hp => exact ⟨keyWf_of_volatileReset rfl rfl rfl, fun k hpow => absurd hpow hp⟩
    case lossOfPower =>
      cases h
      unfold losePower
      split
      · exact ⟨keyWf_of_volatileReset (st := cutProgram s.store) (s := s) rfl rfl rfl, nofun⟩
      · exact .of_keySide hs rfl
    all_goals exact absurd ⟨nofun, rfl, nofun⟩ hquiet

end Sys2Proof.Machine
end

section
/-! Without a PRESENT key the operations of a slot let no binding rest on a proof (for O55). -/

namespace Sys2Proof.Machine

/-! ### A slot and a state without a PRESENT key -/

/-- A binding that rests on no proof: not PENDING_AUTH, not VERIFIED, and not identified where it is LINK_LOST. -/
structure Unproven (c : SlotContext) : Prop where
  pending : c.bindingState ≠ .pendingAuth
  verified : c.bindingState ≠ .verified
  lost : c.bindingState = .linkLost → c.record.identity = none

/-- No operation is current but a BIND that asks for the identity. -/
def AsksIdentity (c : SlotContext) : Prop := ∀ op, c.current = some op → op.kind = .bind ∧ op.step = .ident

theorem Unproven.congr {c d : SlotContext} (h : Unproven c) (hb : d.bindingState = c.bindingState)
    (hi : d.record.identity = c.record.identity) : Unproven d :=
  ⟨hb ▸ h.pending, hb ▸ h.verified, fun hd => hi.trans (h.lost (hb.symm.trans hd))⟩

/-- A binding state that rests on no proof, whatever the record. -/
abbrev SettledState (b : BindingState) : Prop := b ≠ .pendingAuth ∧ b ≠ .verified ∧ b ≠ .linkLost

theorem Unproven.of_state {c : SlotContext} {b : BindingState} (h : SettledState b) (hc : c.bindingState = b := by rfl) :
    Unproven c :=
  have hstate : SettledState c.bindingState := hc ▸ h
  ⟨hstate.1, hstate.2.1, fun hlost => absurd hlost hstate.2.2⟩

theorem Unproven.merged {c : SlotContext} (h : Unproven c) (allowance : Nat) (p : Option Primary) (e : Byte) (a : Word16) :
    Unproven (mergeStatus allowance p e a c) := h.congr (mergeStatus_bindingState ..) (by rw [mergeStatus_record])

theorem Unproven.entered {b : BindingState} (h : SettledState b) (allowance : Nat) (why : Option FailureReason)
    (c : SlotContext) : Unproven (enterState allowance b why c) := .of_state h (by rw [enterState_frame])

theorem AsksIdentity.congr {c d : SlotContext} (h : AsksIdentity c) (hc : d.current = c.current) : AsksIdentity d :=
  fun op hop => h op (hc.symm.trans hop)

theorem AsksIdentity.of_none {c : SlotContext} (hc : c.current = none) : AsksIdentity c :=
  fun _ hop => absurd (hc.symm.trans hop) nofun

theorem AsksIdentity.of_some {c : SlotContext} {op : CurrentOp} (hc : c.current = some op) (hk : op.kind = .bind)
    (hs : op.step = .ident) : AsksIdentity c := fun _ hop => Option.some.inj (hc.symm.trans hop) ▸ ⟨hk, hs⟩

/-- The key is not PRESENT, no binding rests on a proof, and no operation needs the key. -/
structure Keyless (s : State) : Prop where
  key : s.keyPresent = false
  states : ∀ n, Unproven (s.slot n)
  operations : ∀ n, AsksIdentity (s.slot n)

/-- The same, slot `n`'s operation aside. -/
structure KeylessBeside (n : Slot) (s : State) : Prop where
  key : s.keyPresent = false
  states : ∀ m, Unproven (s.slot m)
  operations : ∀ m, m ≠ n → AsksIdentity (s.slot m)

theorem proofWf_iff (s : State) : ProofWf s ↔ (s.keyPresent = false → Keyless s) :=
  ⟨fun h hk => ⟨hk, fun n => ⟨(h.states hk n).1, (h.states hk n).2.1, (h.states hk n).2.2⟩, h.operations hk⟩,
    fun h => ⟨fun hk n => ⟨((h hk).states n).pending, ((h hk).states n).verified, ((h hk).states n).lost⟩,
      fun hk => (h hk).operations⟩⟩

variable {n : Slot} {c : SlotContext} {s t : State}

theorem KeylessBeside.setSlot (h : KeylessBeside n s) (hu : Unproven c) : KeylessBeside n (s.setSlot n c) where
  key := h.key
  states m := by
    by_cases hm : m = n
    · rwa [hm, State.slot_setSlot_self]
    · rw [State.slot_setSlot_ne hm]
      exact h.states m
  operations m hm := by
    rw [State.slot_setSlot_ne hm]
    exact h.operations m hm

theorem KeylessBeside.asks (h : KeylessBeside n s) (ha : AsksIdentity (s.slot n)) : Keyless s where
  key := h.key
  states := h.states
  operations m := if hm : m = n then hm ▸ ha else h.operations m hm

theorem Keyless.beside (h : Keyless s) (n : Slot) : KeylessBeside n s := ⟨h.key, h.states, fun m _ => h.operations m⟩

/-- A slot written, whatever operation it had. -/
theorem KeylessBeside.written (h : KeylessBeside n s) (hu : Unproven c) (ha : AsksIdentity c) : Keyless (s.setSlot n c) :=
  (h.setSlot hu).asks (by rwa [State.slot_setSlot_self])

theorem Keyless.setSlot (h : Keyless s) (hu : Unproven c) (ha : AsksIdentity c) : Keyless (s.setSlot n c) :=
  (h.beside n).written hu ha

theorem KeylessBeside.modSlot {f : SlotContext → SlotContext} (h : KeylessBeside n s)
    (hb : (f (s.slot n)).bindingState = (s.slot n).bindingState)
    (hi : (f (s.slot n)).record.identity = (s.slot n).record.identity) : KeylessBeside n (s.modSlot n f) :=
  h.setSlot ((h.states n).congr hb hi)

theorem Keyless.modSlot {f : SlotContext → SlotContext} (h : Keyless s)
    (hb : (f (s.slot n)).bindingState = (s.slot n).bindingState)
    (hi : (f (s.slot n)).record.identity = (s.slot n).record.identity) (hc : (f (s.slot n)).current = (s.slot n).current) :
    Keyless (s.modSlot n f) := h.setSlot ((h.states n).congr hb hi) ((h.operations n).congr hc)

/-- A slot written with a merge into its pending status (R118). -/
theorem Keyless.merged {d : SlotContext} (h : Keyless s) (hb : d.bindingState = (s.slot n).bindingState)
    (hi : d.record.identity = (s.slot n).record.identity) (ha : AsksIdentity d) {allowance : Nat} {p : Option Primary} {e : Byte}
    {a : Word16} : Keyless (s.setSlot n (mergeStatus allowance p e a d)) :=
  h.setSlot (((h.states n).congr hb hi).merged ..) (ha.congr (mergeStatus_current ..))

theorem Keyless.of_slots (h : Keyless s) (hk : t.keyPresent = false) (hs : t.slots = s.slots) : Keyless t :=
  ⟨hk, fun n => State.slot_congr hs n ▸ h.states n, fun n => State.slot_congr hs n ▸ h.operations n⟩

theorem Keyless.of_alike (h : Keyless s) (hk : t.keyPresent = false) (hs : SlotsAlike s t) : Keyless t :=
  ⟨hk, fun n => (h.states n).congr (hs.slots n).bindingState (congrArg (·.record.identity) (hs.slots n) :),
    fun n => (h.operations n).congr (congrArg (·.current) (hs.slots n) :)⟩

theorem Keyless.overSlots {f : Slot → State → State} (h : Keyless s) (hf : ∀ n t, Keyless t → Keyless (f n t)) :
    Keyless (overSlots f s) := overSlots_keeps hf s h

/-! ### The operations of a slot -/

theorem Keyless.startAttempt (h : Keyless s) (k : Nat) : Keyless (startAttempt n k s) := by
  cases hc : (s.slot n).current with
  | none => rwa [startAttempt_of_none hc]
  | some op =>
    obtain ⟨hkind, hstep⟩ := h.operations n op hc
    have hset : Keyless (s.setSlot n (startedSlot k op s.freshNonce (s.slot n))) :=
      h.setSlot ((h.states n).congr rfl rfl) (.of_some rfl hkind hstep)
    rw [startAttempt_eq hc]
    exact hset.of_slots h.key rfl

theorem Keyless.requestBus (h : Keyless s) : Keyless (requestBus n s) := by
  unfold Machine.requestBus
  split
  · exact h.startAttempt 1
  · exact h
  · exact h.modSlot rfl rfl rfl

theorem KeylessBeside.finishOp (h : KeylessBeside n s) (r : OpResult) (why : Option FailureReason) (e : Byte) (a : Word16) :
    Keyless (finishOp n r why e a s) :=
  h.written ((h.states n).congr (mergeStatus_bindingState ..) (congrArg (·.identity) (mergeStatus_record ..) :))
    (.of_none (mergeStatus_current ..))

theorem KeylessBeside.setBinding (h : KeylessBeside n s) {b : BindingState} (hb : SettledState b) (why : Option FailureReason) :
    KeylessBeside n (setBinding n b why s) := h.setSlot (.entered hb ..)

theorem Keyless.setBinding (h : Keyless s) {b : BindingState} (hb : SettledState b) (why : Option FailureReason) :
    Keyless (setBinding n b why s) :=
  h.setSlot (.entered hb ..) ((h.operations n).congr (by rw [enterState_frame]))

theorem KeylessBeside.endBinding (h : KeylessBeside n s) : KeylessBeside n (endBinding n s) := by
  have hs := State.slot_congr (endBinding_slots n s)
  exact ⟨(keyPresent_of_keySide (keySide_endBinding n s)).trans h.key, fun m => hs m ▸ h.states m,
    fun m hm => hs m ▸ h.operations m hm⟩

theorem KeylessBeside.finishRelease (h : KeylessBeside n s) (a : Word16) : Keyless (finishRelease n a s) := by
  have hclosed : KeylessBeside n ((Machine.endBinding n s).modSlot n fun c => supplyOff (closeRecord c)) :=
    h.endBinding.modSlot rfl rfl
  exact (hclosed.setBinding (b := .released) (by decide) none).finishOp ..

/-- The entry's operation is put on trial at the slot, and only a BIND stays current (R103, R105). -/
theorem Keyless.beginOp (h : Keyless s) (e : QueueEntry) : Keyless (beginOp n e s) := by
  unfold Machine.beginOp
  extract_lets op s1 s2
  have h1 : KeylessBeside n s1 := (h.beside n).modSlot rfl rfl
  split
  · next hcond =>
    split
    · next hkind =>
      have hop : ∀ d : SlotContext, d.current = some op → AsksIdentity d := fun d hd =>
        .of_some hd hkind (congrArg firstStep hkind)
      have hs1 : (s1.slot n).current = some op := by rw [State.slot_modSlot_self]
      have hbinding : Unproven (replaceBinding (s1.slot n)) := by
        unfold replaceBinding
        split
        case h_1 | h_2 => exact .of_state (b := .pendingId) (by decide)
        all_goals exact h1.states n
      have hcurrent : (replaceBinding (s1.slot n)).current = (s1.slot n).current := by
        unfold replaceBinding
        split <;> rfl
      exact (h1.written hbinding (hop _ (hcurrent.trans hs1))).requestBus
    · have h2 : KeylessBeside n s2 := h1.modSlot rfl rfl
      have hkey : s2.keyPresent = false := h2.key
      rw [hkey, if_neg Bool.false_ne_true]
      exact h2.finishOp ..
    · next hkind =>
      rw [hkind] at hcond
      exact absurd (of_decide_eq_true hcond) (h1.states n).verified
    · rw [if_neg (h1.states n).verified]
      exact h1.finishRelease _
  · exact h1.finishOp ..

theorem Keyless.runQueue (h : Keyless s) (k : Nat) : Keyless (runQueue k n s) := by
  induction k generalizing s with
  | zero => exact h
  | succ k ih =>
    unfold Machine.runQueue
    split
    · next e rest _ _ =>
      have htaken : Keyless (s.modSlot n fun c => { c with queue := rest }) := h.modSlot rfl rfl rfl
      exact ih (htaken.beginOp e)
    · exact h

theorem Keyless.pump (h : Keyless s) : Keyless (pump n s) := h.runQueue _

theorem Keyless.joinOp (h : Keyless s) (kind : OpKind) (origin : Origin) : Keyless (joinOp n kind origin s) := by
  have hjoined : Keyless (s.modSlot n fun c => { c with queue := joinQueue kind origin c.queue }) := h.modSlot rfl rfl rfl
  exact hjoined.pump

theorem Keyless.askAuto (h : Keyless s) (kind : OpKind) : Keyless (askAuto n kind s) := by
  unfold Machine.askAuto
  split
  · exact h.joinOp kind .auto
  · exact h

theorem Keyless.bindAuto (h : Keyless s) : Keyless (bindAuto n s) := by
  have hbegun : Keyless (s.modSlot n beginBinding) :=
    h.setSlot (.of_state (b := .pendingId) (by decide)) (AsksIdentity.congr (h.operations n) rfl)
  exact hbegun.askAuto .bind

/-! ### The end of an attempt -/

/-- An operation that ends with its binding in such a state leaves room for the next entry (R104). -/
theorem Keyless.ended (h : Keyless s) {b : BindingState} (hb : SettledState b) (r : BindingRecord) (allowance : Nat)
    (p : Option Primary) (e : Byte) (a : Word16) :
    Keyless (Machine.pump n (s.setSlot n (mergeStatus allowance p e a (endedSlot b r (s.slot n))))) :=
  (h.setSlot (Unproven.merged (.of_state hb) ..) (.of_none (mergeStatus_current ..))).pump

/-- Without a key the identity judgment leaves the binding FAILED or UNVERIFIED (R106). -/
theorem Keyless.judgeIdentity (h : Keyless s) {op : CurrentOp} (hc : (s.slot n).current = some op) (msg : List Byte) :
    Keyless (judgeIdentity n msg s) := by
  generalize hi : parseIdentity msg = i
  by_cases hbad : identityFormat msg ≠ 1 ∨ i.capacity = 0 ∨ i.inkType = 0
  · rw [judgeIdentity_bad hc hi hbad]
    exact h.ended (by decide) ..
  by_cases hink : (s.slot n).config.inkType ≠ 0 ∧ (s.slot n).config.inkType ≠ i.inkType
  · rw [judgeIdentity_wrongInk hc hi hbad hink]
    exact h.ended (by decide) ..
  cases hheld : serialHeldElsewhere n i.serial s with
  | true =>
    rw [judgeIdentity_duplicate hc hi hbad hink hheld]
    exact h.ended (by decide) ..
  | false =>
    rw [judgeIdentity_keyless hc hi hbad hink hheld h.key]
    exact h.ended (by decide) ..

/-- Without a key only an IDENT response can come, and it is judged (R83). -/
theorem Keyless.handResponse (h : Keyless s) {op : CurrentOp} (hc : (s.slot n).current = some op) (a : Attempt)
    (msg : List Byte) : Keyless (handResponse n op a msg s) := by
  rw [Machine.handResponse, (h.operations n op hc).2]
  exact h.judgeIdentity hc msg

/-- A failed attempt is retried, or loses the link of a binding without an identity (R84, R86). -/
theorem Keyless.failAttempt (h : Keyless s) {op : CurrentOp} (hc : (s.slot n).current = some op) (a : Attempt)
    (hnone : (s.slot n).record.identity = none) : Keyless (failAttempt n a s) := by
  have hspent : Keyless (spendNonce a s) := h.of_slots h.key rfl
  have hfailed : Keyless (s.attemptFailed n a) := hspent.setSlot ((h.states n).congr rfl rfl) ((h.operations n).congr rfl)
  rw [failAttempt_eq]
  split
  · exact hfailed.startAttempt _
  · rw [linkOutcome_eq (by rw [State.attemptFailed_slot]; exact hc), State.attemptFailed_slot]
    have hlost : Unproven { failedSlot (s.slot n) with
        queue := [], current := none, bindingState := .linkLost,
        record := { (failedSlot (s.slot n)).record with failure := none } } := ⟨nofun, nofun, fun _ => hnone⟩
    exact hfailed.setSlot (hlost.merged ..) (.of_none (mergeStatus_current ..))

end Sys2Proof.Machine
end

section
/-! Every step keeps key state and Record Store in agreement, and without a PRESENT key no binding rests on a proof (O55). -/

namespace Sys2Proof.Machine

section
variable {n : Slot} {s t : State}

/-- Slots alike, and the same key's side. -/
theorem Keyless.alike (h : Keyless s) (hk : t.keySide = s.keySide) (hs : SlotsAlike s t) : Keyless t :=
  h.of_alike ((keyPresent_of_keySide hk).trans h.key) hs

theorem Keyless.waitTest (h : Keyless s) : Keyless (waitTest s) := h.alike (keySide_waitTest s) (slotsAlike_waitTest s)

/-- A record credited or judged is as proven as before (R42, R50, R51). -/
theorem Keyless.touched (h : Keyless s) {d : SlotContext} (hd : Touched (s.slot n) d) : Keyless (s.setSlot n d) :=
  h.setSlot ((h.states n).congr (congrArg (·.bindingState) hd.frame :) hd.identity)
    ((h.operations n).congr (congrArg (·.current) hd.frame :))

/-! ### Requests -/

theorem Keyless.haltedState (h : Keyless s) : Keyless (haltedState n s) := by
  unfold Machine.haltedState
  split
  · next hc => exact h.merged (by rfl) (by rfl) (.of_none (by exact hc))
  · next op hc =>
    obtain ⟨hkind, hstep⟩ := h.operations n op hc
    split
    · exact h.merged (by rfl) (by rfl) (.of_none rfl)
    · exact h.setSlot ((h.states n).congr rfl rfl) (.of_some rfl hkind hstep)

theorem Keyless.handleStartOperation (h : Keyless s) (args : List Byte) : Keyless (handleStartOperation args s).state := by
  unfold Machine.handleStartOperation
  split
  · exact h
  · split
    · exact h
    · split
      · exact (h.joinOp _ _).waitTest
      · exact h

theorem Keyless.handleHaltSlot (h : Keyless s) (args : List Byte) : Keyless (handleHaltSlot args s).state := by
  unfold Machine.handleHaltSlot
  split
  · exact h
  · rw [haltSlot_state]
    exact h.haltedState.waitTest

theorem restartIdle_frame (c : SlotContext) : restartIdle c = { c with idleTimer := (restartIdle c).idleTimer } := by
  unfold restartIdle
  split <;> rfl

theorem Keyless.handleWriteSlotConfig (h : Keyless s) (args : List Byte) : Keyless (handleWriteSlotConfig args s).state := by
  unfold Machine.handleWriteSlotConfig
  split
  · exact h
  · next n v _ =>
    dsimp only [okWith]
    have hconfig : Keyless (s.modSlot n fun c => { c with config := writeSlotConfig v (s.slot n).config }) :=
      h.modSlot rfl rfl rfl
    refine Keyless.touched ?_ (touched_judged _ _ _)
    split
    · exact hconfig.modSlot (by rw [restartIdle_frame]) (by rw [restartIdle_frame]) (by rw [restartIdle_frame])
    · exact hconfig

theorem Keyless.handleRequest {c : Instr} {row : FrameRow} {handle : List Byte → State → Answer}
    (hc : requestOf c = some (row, handle)) (h : Keyless s) (args : List Byte)
    (hk : (handle args s).state.keyPresent = false) : Keyless (handle args s).state := by
  cases c <;> cases hc
  case unknownRequest => exact h
  case readSummary => rwa [handleReadSummary_state]
  case readSlot => rwa [handleReadSlot_state]
  case collectStatus => exact h.of_alike hk (slotsAlike_handleCollectStatus args s)
  case startOperation => exact h.handleStartOperation args
  case haltSlot => exact h.handleHaltSlot args
  case writeSlotConfig => exact h.handleWriteSlotConfig args
  case readSlotConfig => rwa [handleReadSlotConfig_state]
  case writeLane => exact h.of_alike hk (slotsAlike_handleWriteLane args s)
  case readLane => rwa [handleReadLane_state]
  case readLaneCounters => exact h.of_alike hk (slotsAlike_handleReadLaneCounters args s)
  case writePolicy => exact h.of_alike hk (slotsAlike_handleWritePolicy args s)
  case readPolicy => rwa [handleReadPolicy_state]
  case lockPolicy => exact h.of_alike hk (slotsAlike_handleLockPolicy args s)
  case writeSequence => exact h.of_alike hk (slotsAlike_handleWriteSequence args s)
  case setSampleMode => exact h.of_alike hk (slotsAlike_handleSetSampleMode args s)
  case sampleNext => exact h.of_alike hk (slotsAlike_handleSampleNext args s)
  case sampleInput => exact h.of_alike hk (slotsAlike_handleSampleInput args s)
  case readSamples => exact h.of_alike hk (slotsAlike_handleReadSamples args s)
  case writeLimits => exact h.of_alike hk (slotsAlike_handleWriteLimits args s)
  case readRetired => rwa [handleReadRetired_state]
  case forgetRetired => exact h.of_alike hk (slotsAlike_handleForgetRetired args s)
  case provisionKey => exact h.of_alike hk (slotsAlike_handleProvisionKey args s)
  case resumeStream => exact h.of_alike hk (slotsAlike_handleResumeStream args s)
  case clearConditions => exact h.of_alike hk (slotsAlike_handleClearConditions args s)
  case writeFaultMask => exact h.of_alike hk (slotsAlike_handleWriteFaultMask args s)

theorem Keyless.takeRequest {c : Instr} {row : FrameRow} {handle : List Byte → State → Answer}
    (hc : requestOf c = some (row, handle)) (h : Keyless s) (hk : (takeRequest row handle s).keyPresent = false) :
    Keyless (takeRequest row handle s) := by
  rcases takeRequest_cases row handle s with he | ⟨k, -, he⟩ | ⟨seq, he⟩ | ⟨seq, bs, -, -, he⟩ <;> rw [he] at hk ⊢
  · exact h
  · exact h.alike rfl (slotsAlike_discarded k s)
  · exact h.alike rfl ((slotsAlike_consumed seq s).trans ⟨rfl, rfl, rfl, rfl, rfl, fun _ => rfl⟩)
  · have hconsumed : Keyless (s.consumed seq) := h.alike rfl (slotsAlike_consumed seq s)
    exact (hconsumed.handleRequest hc _ hk).alike rfl (slotsAlike_queueReply _ _)

/-! ### Frames -/

theorem Keyless.askIfDue (h : Keyless s) (due : SlotContext → Bool) (kind : OpKind) : Keyless (askIfDue due kind n s) := by
  unfold Machine.askIfDue
  split
  · exact h.askAuto kind
  · exact h

theorem Keyless.handleReport (h : Keyless s) (r : DropReport) : Keyless (handleReport r s) := by
  cases hr : r.slot with
  | none =>
    rw [handleReport_none hr]
    exact h.alike rfl ⟨rfl, rfl, rfl, rfl, rfl, fun _ => rfl⟩
  | some n =>
    by_cases hc : Charged (s.slot n)
    · rw [handleReport_credits hr hc]
      exact ((h.touched (touched_creditSlot _ _ _ _ hc)).askIfDue writeBackDue .writeBack).askIfDue verifyDue .verify
    · rw [handleReport_uncharged hr hc]
      exact h.alike rfl (.modSlot rfl)

theorem Keyless.countFrame (h : Keyless s) (l : Lane) (n1 n2 n3 : Nat) (marked : Bool) :
    Keyless (countFrame l n1 n2 n3 marked s) := by
  have hcounters : Keyless (s.modCounters l (countDrops n1 n2 n3 marked)) := h.of_slots h.key rfl
  exact hcounters.handleReport _

theorem Keyless.filterFire (h : Keyless s) (bs : List Byte) : Keyless (filterFire bs s) := by
  have hcounted : ∀ marked, Keyless (fireCounted bs marked s) := fun marked =>
    (h.countFrame (frameLane bs) _ _ _ marked).alike rfl (slotsAlike_forward bs _)
  unfold Machine.filterFire
  split
  · exact hcounted false
  · exact hcounted true
  · exact hcounted true
  · exact h.alike rfl ⟨rfl, rfl, rfl, rfl, rfl, fun _ => rfl⟩

theorem Keyless.tracked (h : Keyless s) (seq : Byte) : Keyless (s.tracked seq) := h.alike rfl (slotsAlike_tracked seq s)

theorem Keyless.handleFire (h : Keyless s) (hr : s.running = true) (bs : List Byte) : Keyless (handleFire bs s) := by
  rw [handleFire_of_running hr]
  split
  · exact (h.tracked _).filterFire bs
  · exact h.alike rfl (slotsAlike_outOfSwath _ s)

theorem Keyless.handleSpit (h : Keyless s) (hr : s.running = true) (bs : List Byte) : Keyless (handleSpit bs s) := by
  unfold Machine.handleSpit
  rw [sequenceCheck_of_released (released_of_running hr)]
  exact ((h.tracked (frameSequence bs)).countFrame ..).alike rfl (slotsAlike_forward bs _)

theorem Keyless.takeFrame {row : FrameRow} {handle : List Byte → State → State} (h : Keyless s)
    (hh : ∀ bs, s.running = true → Keyless (handle bs s)) : Keyless (takeFrame row handle s) :=
  takeFrame_gives h (fun c => h.alike rfl (slotsAlike_discarded c s)) fun bs ht _ _ => hh bs ht.running

/-! ### Reset and power -/

theorem keyless_cleared (st : RecordStore) (powered restoring : Bool) (s : State) :
    Keyless { volatileReset st s with powered := powered, restoring := restoring } := by
  have hslot : ∀ n, State.slot { volatileReset st s with powered := powered, restoring := restoring } n =
      SlotContext.initial (s.slot n).rawSeat := fun n => by simp [State.slot, volatileReset]
  exact ⟨rfl, fun n => hslot n ▸ .of_state (b := .noCartridge) (by decide), fun n => hslot n ▸ .of_none rfl⟩

/-- The same work at every slot. -/
theorem Keyless.mapSlots (h : Keyless s) {f : SlotContext → SlotContext} (hk : t.keyPresent = false)
    (ht : t.slots = (s.mapSlots f).slots) (hf : ∀ c, Unproven c → AsksIdentity c → Unproven (f c) ∧ AsksIdentity (f c)) :
    Keyless t := by
  have hslot : ∀ n, t.slot n = f (s.slot n) := fun n => (State.slot_congr ht n).trans (State.slot_mapSlots n f s)
  exact ⟨hk, fun n => hslot n ▸ (hf _ (h.states n) (h.operations n)).1, fun n => hslot n ▸ (hf _ (h.states n) (h.operations n)).2⟩

theorem Keyless.assertReset (h : Keyless s) : Keyless (assertReset s) := by
  unfold Machine.assertReset
  split
  · exact h.mapSlots (f := assertSlot) h.key rfl fun c hu _ => ⟨hu.congr rfl rfl, .of_none rfl⟩
  · exact h

theorem Keyless.of_portOf {c : Instr} {f : State → State} (hc : portOf c = some f) (h : Keyless s) : Keyless (f s) := by
  cases c <;> cases hc
  case powerOn decayed =>
    unfold applyPower
    split
    · exact h
    · exact keyless_cleared _ true true s
  case lossOfPower =>
    unfold losePower
    split
    · exact keyless_cleared _ false false s
    · exact h
  case pinResetAsserted => exact h.assertReset
  case frameArrivalBegins kind =>
    exact h.alike (keySide_of_portOf (c := .frameArrivalBegins kind) rfl rfl s) (slotsAlike_beginArrival kind s)
  case frameArrivalEnds rest =>
    exact h.alike (keySide_of_portOf (c := .frameArrivalEnds rest) rfl rfl s) (slotsAlike_endArrival rest s)
  case unknownKindFrame =>
    have hfree : Keyless (freePlace s) := h.alike rfl ⟨rfl, rfl, rfl, rfl, rfl, fun _ => rfl⟩
    exact h.takeFrame fun _ _ => hfree.alike (keySide_raise _ _) (slotsAlike_raise _ _)
  case fire => exact h.takeFrame fun bs hr => h.handleFire hr bs
  case spit => exact h.takeFrame fun bs hr => h.handleSpit hr bs
  case swathStart =>
    exact h.takeFrame fun bs hr => h.alike (keySide_handleSwathStart bs hr) (slotsAlike_handleSwathStart bs hr)
  case swathEnd => exact h.takeFrame fun bs hr => h.alike (keySide_handleSwathEnd bs hr) (slotsAlike_handleSwathEnd bs hr)
  case streamReset => exact h.takeFrame fun bs _ => h.alike rfl (slotsAlike_handleStreamReset bs s)
  case heldSwathStartForwarded =>
    exact h.alike (keySide_of_portOf (c := .heldSwathStartForwarded) rfl rfl s) (slotsAlike_forwardHeld s)
  case headTransferBegins ready =>
    exact h.alike (keySide_of_portOf (c := .headTransferBegins ready) rfl rfl s) (slotsAlike_links ready s).1
  case headTransferCompletes =>
    exact h.alike (keySide_of_portOf (c := .headTransferCompletes) rfl rfl s) (slotsAlike_links true s).2.1
  case returnTransmissionBegins =>
    exact h.alike (keySide_of_portOf (c := .returnTransmissionBegins) rfl rfl s) (slotsAlike_links true s).2.2.1
  case returnTransmissionCompletes =>
    exact h.alike (keySide_of_portOf (c := .returnTransmissionCompletes) rfl rfl s) (slotsAlike_links true s).2.2.2

/-! ### Events -/

/-- A binding that ends leaves none behind (R78, R146). -/
theorem KeylessBeside.unbound (h : KeylessBeside n s) (p : Prop) [Decidable p] :
    KeylessBeside n (Machine.setBinding n .noCartridge none (if p then s else Machine.endBinding n s)) := by
  refine KeylessBeside.setBinding ?_ (by decide) none
  split
  · exact h
  · exact h.endBinding

theorem slot_unbound (n : Slot) (p : Prop) [Decidable p] (s : State) :
    ((setBinding n .noCartridge none (if p then s else endBinding n s)).slot n).current = (s.slot n).current := by
  unfold setBinding
  rw [State.slot_modSlot_self, enterState_frame]
  split
  · rfl
  · rw [State.slot_congr (endBinding_slots n s)]

theorem Keyless.unbound (h : Keyless s) (p : Prop) [Decidable p] :
    Keyless (Machine.setBinding n .noCartridge none (if p then s else Machine.endBinding n s)) :=
  ((h.beside n).unbound p).asks ((h.operations n).congr (slot_unbound n p s))

theorem Keyless.removeCartridge (h : Keyless s) : Keyless (removeCartridge n s) := by
  have hremoved : Keyless (s.modSlot n fun c => mergeStatus s.policy.allowance none 0 Alert.removed.bits
      { supplyOff c with attempt := none, current := none, queue := [] }) :=
    h.merged (by rfl) (by rfl) (.of_none rfl)
  exact hremoved.unbound _

theorem Keyless.endByEmptySeat (h : Keyless s) : Keyless (endByEmptySeat n s) := by
  have hmerged : Keyless (s.modSlot n (mergeStatus s.policy.allowance none 0 Alert.removed.bits)) :=
    h.merged (by rfl) (by rfl) (h.operations n)
  exact hmerged.unbound _

theorem Keyless.seatEvent (h : Keyless s) (level : Seat) : Keyless (seatEvent n level s) := by
  unfold Machine.seatEvent
  split
  · exact h
  · cases level with
    | seated =>
      refine Keyless.waitTest ?_
      unfold insertionEvent
      split
      · exact h.bindAuto
      · exact h
    | empty =>
      refine Keyless.waitTest ?_
      unfold removalEvent
      split
      · exact h
      · exact h.removeCartridge

theorem Keyless.expireDebounce (h : Keyless s) : Keyless (expireDebounce n s) := by
  have hseat : Keyless (s.modSlot n fun c => { c with debounce := none, seat := c.rawSeat }) := h.modSlot rfl rfl rfl
  unfold Machine.expireDebounce
  dsimp only
  split
  · split
    · exact hseat
    · exact hseat.seatEvent _
  · exact h

theorem Keyless.expireSettle (h : Keyless s) : Keyless (expireSettle n s) := by
  have hsettled : Keyless (s.modSlot n fun c =>
      { c with supply := .poweredOn, settleTimer := none, idleTimer := idleStart c.config }) := h.modSlot rfl rfl rfl
  unfold Machine.expireSettle
  dsimp only
  split
  · exact hsettled.startAttempt 1
  · exact h

theorem Keyless.expireIdle (h : Keyless s) : Keyless (expireIdle n s) := by
  unfold Machine.expireIdle
  dsimp only
  split
  · exact h.modSlot (f := supplyOff) rfl rfl rfl
  · exact h

/-- A failed attempt without a key is one for an identity not yet known (R86, R106). -/
theorem Keyless.attemptFails (h : Keyless s) (hw : SlotsWf s) {op : CurrentOp} (hc : (s.slot n).current = some op)
    (a : Attempt) : Keyless (Machine.failAttempt n a s) :=
  h.failAttempt hc a (stepAllowed_ident ((hw.control n).step op hc) (hw.binding n) (h.operations n op hc).2).2

theorem Keyless.receiveResponse (h : Keyless s) (hw : SlotsWf s) (response : List Byte) :
    Keyless (receiveResponse n response s) := by
  unfold Machine.receiveResponse
  split
  · next a op _ hcur =>
    split
    · refine Keyless.waitTest ?_
      unfold judgeResponse
      split
      · have hover : Keyless (s.modSlot n endAttempt) := h.modSlot rfl rfl rfl
        exact hover.handResponse (by rw [State.slot_modSlot_self]; exact hcur) a _
      · exact h.attemptFails hw hcur a
    · exact h
  · exact h

theorem Keyless.expireAttempt (h : Keyless s) (hw : SlotsWf s) (received : Nat) : Keyless (expireAttempt n received s) := by
  unfold Machine.expireAttempt
  split
  · next a op _ hcur =>
    split
    · exact (h.attemptFails hw hcur a).waitTest
    · exact h
  · exact h

/-- The restore may hand out no key, and then the seated slots ask for identities alone (R96, R180). -/
theorem Keyless.endRestore (h : Keyless s) (hk : (endRestore s).keyPresent = false) : Keyless (endRestore s) := by
  by_cases hr : s.powered = true ∧ s.restoring = true
  · revert hk
    rw [show Machine.endRestore s = _ from if_pos hr]
    dsimp only
    split
    · exact fun hk => h.of_slots hk rfl
    · intro hk
      rw [keyPresent_of_keySide ((keySide_overSlots keySide_bindSeated _).trans (keySide_raiseRestoreInvalid _))] at hk
      have hresults : Keyless (handResults s) := h.of_slots hk rfl
      refine (hresults.alike (keySide_raiseRestoreInvalid _) (slotsAlike_raiseRestoreInvalid _)).overSlots fun n u hu => ?_
      unfold bindSeated
      split
      · exact hu.bindAuto
      · exact hu
  · rwa [show Machine.endRestore s = s from if_neg hr]

/-- The release proves no retained binding again where none rests on a proof (R97). -/
theorem Keyless.releaseSlot (h : Keyless s) : Keyless (releaseSlot n s) := by
  unfold Machine.releaseSlot
  split
  · exact h
  · exact h.endByEmptySeat
  · exact h.bindAuto
  · exact h.askAuto .bind
  · next hb => exact absurd hb (h.states n).pending
  · next hb => exact absurd hb (h.states n).verified
  · next hb =>
    rw [(h.states n).lost hb, if_neg (by decide)]
    exact (h.setBinding (b := .pendingId) (by decide) none).askAuto .bind
  all_goals exact h

/-- A release that leaves the key not PRESENT took no held commit (R124, R181). -/
theorem Keyless.releaseReset (h : Keyless s) (hs : KeyWf s) (hk : (releaseReset s).keyPresent = false) :
    Keyless (releaseReset s) := by
  by_cases hr : s.powered = true ∧ s.resetAsserted = true
  · have hread : Keyless (seatsRead s) := h.mapSlots (f := readSeat) h.key rfl fun c hu ha => ⟨hu.congr rfl rfl, ha.congr rfl⟩
    have htreated : Keyless (if s.restoring then seatsRead s else Machine.overSlots Machine.releaseSlot (seatsRead s)) := by
      split
      · exact hread
      · exact hread.overSlots fun n t ht => Keyless.releaseSlot ht
    have hfree : s.keyCommitHeld = false := by
      rcases keySide_releaseReset hs hr.1 hr.2 with ⟨hfree, -⟩ | ⟨root, -, -, hside⟩
      · exact hfree
      · rw [keyPresent_of_keySide hside] at hk
        exact absurd hk nofun
    have hheld := (congrArg KeySide.held (keySide_releaseSlots s)).trans hfree
    rw [releaseReset_eq hr.1 hr.2, takeHeldCommit_of_free hheld]
    exact htreated.alike (keySide_takeHeld _) (slotsAlike_takeHeld _)
  · rwa [show Machine.releaseReset s = s from if_neg hr]

/-- A key committed at once is PRESENT; any other committed write is no word to the slots (R124, R176). -/
theorem Keyless.commitProgram (h : Keyless s) (p : Program) (hk : (commitProgram p s).keyPresent = false) :
    Keyless (commitProgram p s) := by
  rw [Machine.commitProgram, keyPresent_of_keySide (keySide_nextProgram _)] at hk
  refine Keyless.alike ?_ (keySide_nextProgram _) (slotsAlike_store _ _)
  revert hk
  unfold reportCommit
  split
  · split
    · exact fun _ => h.of_slots h.key rfl
    · intro hk
      rw [keyPresent_of_keySide ((keySide_waitTest _).trans (keySide_keyCommitted _ _))] at hk
      exact absurd hk nofun
  · exact fun _ => h.of_slots h.key rfl
  · exact fun _ => h.of_slots h.key rfl

theorem Keyless.endProgram (h : Keyless s) (passes : Bool) (hk : (endProgram passes s).keyPresent = false) :
    Keyless (endProgram passes s) := by
  revert hk
  unfold Machine.endProgram
  split
  · exact fun _ => h
  · next p _ =>
    split
    · exact h.commitProgram p
    · split
      · exact fun _ => h.of_slots h.key rfl
      · intro hk
        obtain ⟨k, st, w, heq⟩ := abandonProgram_frame p s
        rw [heq] at hk ⊢
        exact h.of_slots hk rfl

theorem Keyless.of_eventOf {c : Instr} {f : State → State} (hc : eventOf c = some f) (h : Keyless s) (hs : KeyWf s)
    (hw : SlotsWf s) (hk : (f s).keyPresent = false) : Keyless (f s) := by
  cases c <;> cases hc
  case endOfRestoring => exact h.endRestore hk
  case pinResetReleased => exact h.releaseReset hs hk
  case seatChange n level => exact h.of_alike hk (slotsAlike_changeSeat n level s)
  case debounceExpiry n => exact h.expireDebounce
  case settleTimerExpiry n => exact h.expireSettle
  case idleTimerExpiry n => exact h.expireIdle
  case cartridgeResponse n response => exact h.receiveResponse hw response
  case attemptTimeout n received => exact h.expireAttempt hw received
  case conversionComplete code => exact h.of_alike hk (slotsAlike_completeConversion code s)
  case programVerify passes => exact h.endProgram passes hk

/-! ### Every step -/

/-- A step that leaves the key not PRESENT leaves no binding resting on a proof, where none did (R106, R131). -/
theorem keyless_exec {c : Instr} (he : exec c s = .next t) (h : Keyless s) (hs : KeyWf s) (hw : SlotsWf s)
    (hk : t.keyPresent = false) : Keyless t := by
  rcases command_cases c with ⟨row, handle, hc⟩ | ⟨f, hc⟩ | ⟨f, hc⟩
  · cases (exec_of_requestOf hc s).symm.trans he
    exact h.takeRequest hc hk
  · cases (exec_of_eventOf hc s).symm.trans he
    exact h.of_eventOf hc hs hw hk
  · cases (exec_of_portOf hc s).symm.trans he
    exact h.of_portOf hc

/-- Without power there is no binding and no operation (R95, R182). -/
theorem keyless_of_unpowered (hw : SlotsWf s) (hp : s.powered = false) (hk : s.keyPresent = false) : Keyless s where
  key := hk
  states n := .of_state (b := .noCartridge) (by decide) (hw.unbound (.inl hp) n)
  operations n := .of_none (hw.stopped (by simp [State.running, State.alive, hp]) n).current

theorem keyPresent_iff (s : State) : s.keyPresent = true ↔ ∃ k, s.key = .present k := by
  unfold State.keyPresent
  cases s.key <;> simp

/-- A key that was PRESENT is gone only with the power. -/
theorem KeyStep.unpowered (h : KeyStep s t) (hs : KeyWf s) (hk : s.keyPresent = true) (hgone : t.keyPresent = false) :
    t.powered = false := by
  obtain ⟨k, hk⟩ := (keyPresent_iff s).mp hk
  have hp : s.powered = true := by
    by_contra hp
    exact absurd (hk.symm.trans (hs.unsettled (.inl (by simpa using hp)))) nofun
  by_contra ht
  have hstill := (keyPresent_iff t).mpr ⟨k, h.kept k hp hk (by simpa using ht)⟩
  exact absurd (hstill.symm.trans hgone) nofun

theorem proofWf_exec {c : Instr} (he : exec c s = .next t) (hs : KeyWf s) (hw : SlotsWf s) (h : ProofWf s) : ProofWf t := by
  refine (proofWf_iff t).mpr fun hk => ?_
  cases hkey : s.keyPresent with
  | false => exact keyless_exec he ((proofWf_iff s).mp h hkey) hs hw hk
  | true => exact keyless_of_unpowered (stepKeeps_exec he hw).slots ((keyStep_exec he hs).unpowered hs hkey hk) hk

end

/-- Settles O55: the commands that touch the key state or the writes of its record keep their agreement, and without a PRESENT key
no work on the slots lets a binding rest on a proof. -/
theorem keyKept : Obligations.KeyKept := by
  intro s t hs h
  cases hq : s.pending with
  | nil =>
    cases (step_nil hq).symm.trans h
    exact ⟨hs, fun _ _ hk _ => hk, fun _ hproof => hproof⟩
  | cons c rest =>
    have he := (step_cons hq).symm.trans h
    have hs' : KeyWf { s with pending := rest } := ⟨hs.present, hs.provisioning, hs.absent, hs.unsettled⟩
    obtain ⟨hagrees, hkept⟩ := keyStep_exec he hs'
    exact ⟨hagrees, hkept, fun hw hproof => proofWf_exec he hs'
      ⟨hw.control, hw.binding, hw.stopped, hw.unbound, hw.checkpoints⟩ ⟨hproof.states, hproof.operations⟩⟩

end Sys2Proof.Machine
end

section
/-! How the store takes a write (R175, R176). -/

namespace Sys2Proof.Machine

/-- A program begins: the oldest queued write, where there is one (R176). -/
theorem beginProgram_of_none {st : RecordStore} (h : st.program = none) :
    beginProgram st = { st with
      program := st.commitQueue.head?.map fun w => { write := w, attempt := 1 }, commitQueue := st.commitQueue.tail } := by
  rcases beginProgram_cases st with ⟨w, rest, -, hq, he⟩ | ⟨hbusy | hq, he⟩ <;> rw [he]
  · rw [hq]
    rfl
  · exact absurd h hbusy
  · obtain ⟨_, _, _, q, p, _, _⟩ := st
    obtain rfl : q = [] := hq
    obtain rfl : p = none := h
    rfl

theorem beginProgram_of_busy {st : RecordStore} (h : st.program ≠ none) : beginProgram st = st := by
  rcases beginProgram_cases st with ⟨w, rest, hp, -⟩ | ⟨-, he⟩
  · exact absurd hp h
  · exact he

section Requested
variable {w : Write} {s : State}

/-- A write to a queued position takes the queued write's place (R175). -/
theorem requestWrite_replaces (hs : StoreWf s.store) (h : ∃ x ∈ s.store.commitQueue, x.pos = w.pos) :
    requestWrite w s = (true, { s with
      store := { s.store with commitQueue := s.store.commitQueue.map fun x => if x.pos = w.pos then w else x } }) := by
  obtain ⟨x, hx, hpos⟩ := h
  have hbusy : s.store.program ≠ none := fun hp => List.ne_nil_of_mem hx (hs.busy hp)
  have hq : enqueueWrite w s.store.commitQueue =
      some (s.store.commitQueue.map fun x => if x.pos = w.pos then w else x) := by
    rcases enqueueWrite_cases w s.store.commitQueue with ⟨-, h⟩ | ⟨hfree, -⟩ | ⟨hfree, -⟩
    · exact h
    · exact absurd hpos (hfree x hx)
    · exact absurd hpos (hfree x hx)
  rw [requestWrite, hq]
  dsimp only
  rw [beginProgram_of_busy (by exact hbusy)]

/-- A write to another position joins below the capacity (R175). -/
theorem enqueueWrite_joins {q : List Write} (hfree : ∀ x ∈ q, x.pos ≠ w.pos) (hl : q.length < 16) :
    enqueueWrite w q = some (q ++ [w]) := by
  rcases enqueueWrite_cases w q with ⟨⟨x, hx, hpos⟩, -⟩ | ⟨-, -, h⟩ | ⟨-, hfull, -⟩
  · exact absurd hpos (hfree x hx)
  · exact h
  · exact absurd hl (Nat.not_lt.mpr hfull)

theorem requestWrite_begins (hs : StoreWf s.store) (hp : s.store.program = none) :
    requestWrite w s = (true, { s with store := { s.store with program := some { write := w, attempt := 1 } } }) := by
  have hq : s.store.commitQueue = [] := hs.busy hp
  rw [requestWrite, enqueueWrite_joins (by simp [hq]) (by simp [hq])]
  dsimp only
  rw [beginProgram_of_none (by exact hp), hq]
  rfl

theorem requestWrite_joins (hfree : ∀ x ∈ s.store.commitQueue, x.pos ≠ w.pos) (hp : s.store.program ≠ none)
    (hl : s.store.commitQueue.length < 16) :
    requestWrite w s = (true, { s with store := { s.store with commitQueue := s.store.commitQueue ++ [w] } }) := by
  rw [requestWrite, enqueueWrite_joins hfree hl]
  dsimp only
  rw [beginProgram_of_busy (by exact hp)]

/-- With 16 writes queued a write is dropped with STORE_OVERFLOW (R175). -/
theorem requestWrite_overflows (ha : s.resetAsserted = false) (hfree : ∀ x ∈ s.store.commitQueue, x.pos ≠ w.pos)
    (hl : s.store.commitQueue.length = 16) :
    requestWrite w s = (false, { s with
      agent := { s.agent with sticky := s.agent.sticky ||| Condition.mask .storeOverflow } }) := by
  have hq : enqueueWrite w s.store.commitQueue = none := by
    rcases enqueueWrite_cases w s.store.commitQueue with ⟨⟨x, hx, hpos⟩, -⟩ | ⟨-, hlt, -⟩ | ⟨-, -, h⟩
    · exact absurd hpos (hfree x hx)
    · exact absurd hlt (by rw [hl]; exact lt_irrefl _)
    · exact h
  rw [requestWrite, hq]
  exact congrArg (Prod.mk false) (raise_of_released ha .storeOverflow)

end Requested

end Sys2Proof.Machine
end

section
/-! The UNVERIFIED slots asked for a VERIFY by the commit of the key (R124). -/

namespace Sys2Proof.Machine

/-! ### The slots in turn -/

section Turns
variable {P : State → Prop} {f : Slot → State → State} {s : State}

/-- What the treatment of all slots makes of one is what its own treatment made, of the slot as it was at first (log 13). -/
theorem overSlots_slot (hwork : ∀ n u, SlotWork n u (f n u)) (hP : ∀ n u, P u → P (f n u)) (hs : P s) (n : Slot) :
    ∃ u, P u ∧ u.slot n = s.slot n ∧ (overSlots f s).slot n = (f n u).slot n := by
  have hrest : ∀ l : List Slot, n ∉ l → ∀ u, (l.foldl (fun t m => f m t) u).slot n = u.slot n := by
    intro l
    induction l with
    | nil => exact fun _ _ => rfl
    | cons m l ih =>
      intro hn u
      obtain ⟨hm, hl⟩ := List.ne_and_not_mem_of_not_mem_cons hn
      exact (ih hl _).trans ((hwork m u).others n hm)
  have hfold : ∀ l : List Slot, l.Nodup → n ∈ l → ∀ u, P u → u.slot n = s.slot n →
      ∃ v, P v ∧ v.slot n = s.slot n ∧ (l.foldl (fun t m => f m t) u).slot n = (f n v).slot n := by
    intro l
    induction l with
    | nil => exact fun _ hn => absurd hn List.not_mem_nil
    | cons m l ih =>
      intro hl hn u hu hslot
      obtain ⟨hm, hl⟩ := List.nodup_cons.mp hl
      by_cases hnm : n = m
      · subst hnm
        exact ⟨u, hu, hslot, hrest l hm _⟩
      · exact ih hl ((List.mem_cons.mp hn).resolve_left hnm) _ (hP m u hu) (((hwork m u).others n hnm).trans hslot)
  exact hfold allSlots (by decide) (mem_allSlots n) s hs rfl

/-- Two treatments that agree on each slot as it was at first treat all slots alike (log 13). -/
theorem overSlots_congr {g : Slot → State → State} (hwork : ∀ n u, SlotWork n u (f n u)) (hP : ∀ n u, P u → P (f n u))
    (h : ∀ n u, P u → u.slot n = s.slot n → f n u = g n u) (hs : P s) : overSlots f s = overSlots g s := by
  have hfold : ∀ l : List Slot, l.Nodup → ∀ u, P u → (∀ n ∈ l, u.slot n = s.slot n) →
      l.foldl (fun t n => f n t) u = l.foldl (fun t n => g n t) u := by
    intro l
    induction l with
    | nil => exact fun _ _ _ _ => rfl
    | cons m l ih =>
      intro hl u hu hslots
      obtain ⟨hm, hl⟩ := List.nodup_cons.mp hl
      rw [List.foldl_cons, List.foldl_cons, ← h m u hu (hslots m (by simp))]
      refine ih hl _ (hP m u hu) fun n hn => ?_
      rw [(hwork m u).others n fun hnm => hm (hnm ▸ hn)]
      exact hslots n (by simp [hn])
  exact hfold allSlots (by decide) s hs fun _ _ => rfl

end Turns

/-! ### One slot asked -/

/-- A VERIFY that may join stands behind no RELEASE, and no BIND begins at an UNVERIFIED binding: nothing ends the binding. -/
theorem quietWork_askUnverified (n : Slot) (s : State) : QuietWork n s (askUnverified n s) := by
  unfold askUnverified askAuto
  split
  · next hb =>
    split
    · next hm =>
      obtain ⟨-, hrelease, -⟩ := (mayJoin_iff _ _).mp hm
      have hjoin : QuietWork n s (s.modSlot n fun c => { c with queue := joinQueue .verify .auto c.queue }) :=
        quietWork_setSlot (.of_record rfl rfl rfl)
      refine hjoin.trans (quietWork_pump fun e he => ?_)
      rw [State.slot_modSlot_self] at he ⊢
      refine LeavesBinding.congr (c := s.slot n) (fun hcond => ⟨fun hk => ?_, fun hk => ?_⟩) rfl rfl
      · rw [hk] at hcond
        simp [stateCondition, hb] at hcond
      · have hqueued : isQueued .release (autoJoined .verify (s.slot n).queue) = true :=
          List.any_eq_true.mpr ⟨e, joinQueue_auto .verify _ ▸ he, decide_eq_true hk⟩
        rw [isQueued_autoJoined (by decide), hrelease (.inl rfl)] at hqueued
        exact absurd hqueued Bool.false_ne_true
    · exact .refl n s
  · exact .refl n s

/-- Apart from slots and nonces the slots' asking leaves a state as it was (R124). -/
def AskedFrom (s u : State) : Prop :=
  u = { s with slots := u.slots, nonceCount := u.nonceCount, spentNonces := u.spentNonces }

theorem AskedFrom.refl (s : State) : AskedFrom s s := rfl

theorem AskedFrom.ask {s u : State} (h : AskedFrom s u) (n : Slot) : AskedFrom s (askUnverified n u) := by
  have hframe := (slotWork_askUnverified n u).frame
  obtain ⟨hrefill, hstore, hagent, -⟩ := quietWork_askUnverified n u
  rw [hrefill, hstore, hagent] at hframe
  unfold AskedFrom at h ⊢
  generalize askUnverified n u = t at hframe ⊢
  exact hframe.trans (by rw [h])

theorem AskedFrom.keyPresent {s u : State} (h : AskedFrom s u) (hk : s.keyPresent = true) : u.keyPresent = true := by
  rw [h]
  exact hk

theorem keyCommitted_asked (root : RootKey) (s : State) : AskedFrom { s with key := .present root } (keyCommitted root s) :=
  overSlots_keeps (fun n _ hu => hu.ask n) _ (.refl _)

/-- A slot that does not wait for a proof is left alone. -/
theorem askUnverified_of_ne {n : Slot} {s : State} (h : (s.slot n).bindingState ≠ .unverified) : askUnverified n s = s :=
  if_neg h

/-- With the key PRESENT a sound UNVERIFIED slot takes the VERIFY behind its operation, or begins it (R99 to R103). -/
theorem askUnverified_eq_verifyAsked {n : Slot} {s : State} (hkey : s.keyPresent = true) (hc : ControlWf (s.slot n))
    (hb : BindingWf (s.slot n)) : askUnverified n s = s.verifyAsked n := by
  unfold askUnverified State.verifyAsked askAuto
  dsimp only
  by_cases hu : (s.slot n).bindingState = .unverified
  · rw [if_pos hu]
    have hi : (s.slot n).record.identity ≠ none := hb.identified (.inr hu)
    have hmeets : MeetsCondition .verify (s.slot n) := by simp [MeetsCondition, hu, hi]
    have hmay : mayJoin .verify (s.slot n) = true ↔
        isQueued .release (s.slot n).queue = false ∧ isCurrent .release (s.slot n) = false := by
      simp [mayJoin_iff, MayJoin, hmeets]
    by_cases hfree : isQueued .release (s.slot n).queue = false ∧ isCurrent .release (s.slot n) = false
    · rw [if_pos (hmay.mpr hfree), if_pos ⟨hu, hi, hfree⟩]
      split
      · next hcur =>
        rw [joinOp_of_idle hcur (hc.idle hcur).1]
        exact beginOp_begins (e := { kind := .verify, origin := .auto }) ((stateCondition_iff _ _).mpr hmeets) (fun _ => hkey)
          nofun
      · next hcur => rw [joinOp_of_current (by simp [hcur]), joinQueue_auto]
    · rw [if_neg (mt hmay.mp hfree), if_neg fun h => hfree h.2.2]
  · rw [if_neg hu, if_neg fun h => hu h.1]

/-! ### The Record Store beside the slots -/

/-- The state with another Record Store. -/
def State.withStore (st : RecordStore) (s : State) : State := { s with store := st }

theorem raise_withStore (c : Condition) (st : RecordStore) (s : State) :
    (s.withStore st).raise c = (s.raise c).withStore st := by
  unfold State.raise State.withStore
  dsimp only
  split <;> rfl

theorem withStore_verifyAsked (st : RecordStore) (n : Slot) (s : State) :
    (s.withStore st).verifyAsked n = (s.verifyAsked n).withStore st := by
  have hbegins : (s.withStore st).begins n .verify .auto = (s.begins n .verify .auto).withStore st := by
    have hslot : (s.withStore st).slot n = s.slot n := rfl
    unfold State.begins
    rw [hslot]
    dsimp only
    split <;> rfl
  have hslot : (s.withStore st).slot n = s.slot n := rfl
  unfold State.verifyAsked
  rw [hslot, hbegins]
  dsimp only
  split
  · split <;> rfl
  · rfl

theorem withStore_overSlots_verifyAsked (st : RecordStore) (s : State) :
    overSlots State.verifyAsked (s.withStore st) = (overSlots State.verifyAsked s).withStore st :=
  List.foldl_hom (State.withStore st) fun u n => withStore_verifyAsked st n u

end Sys2Proof.Machine
end

section
/-! What the end of a program does (O51). -/

namespace Sys2Proof.Machine

section Ended
variable {p : Program} {next : RecordStore → RecordStore} {s : State} (hp : s.store.program = some p)
  (hnext : ∀ st, next st = { st with
    program := s.store.commitQueue.head?.map (fun w => { write := w, attempt := 1 }),
    commitQueue := s.store.commitQueue.tail })

include hnext in
/-- With the program over, the next one begins from the queue as it stands (R176). -/
theorem beginProgram_next {st st' : RecordStore} (hq : st.commitQueue = s.store.commitQueue) (hst : st = { st' with program := none }) :
    beginProgram st = next st' := by
  rw [beginProgram_of_none (by rw [hst]), hnext, hq, hst]

include hp in
theorem exec_verifyPasses : exec (.programVerify true) s = .next (commitProgram p s) := by
  have hend : endProgram true s = commitProgram p s := by
    unfold endProgram
    rw [hp]
    rfl
  exact congrArg Host.Outcome.next hend

include hp in
theorem exec_verifyFails : exec (.programVerify false) s =
    .next (if p.attempt = 1 then { s with store := { s.store with program := some { p with attempt := 2 } } }
      else abandonProgram p s) := by
  have hend : endProgram false s = if p.attempt = 1 then
      { s with store := { s.store with program := some { p with attempt := 2 } } } else abandonProgram p s := by
    unfold endProgram
    rw [hp]
    rfl
  exact congrArg Host.Outcome.next hend

include hnext in
/-- After a passing verify (R173, R176). -/
theorem beginProgram_storeValid (w : Write) :
    beginProgram (storeValid w { s.store with program := none }) = next (storeValid w s.store) := by
  cases w <;> exact beginProgram_next hnext rfl rfl

include hnext in
/-- After the second failing verify (R173, R177). -/
theorem beginProgram_storeInvalid (pos : RecordPos) (heldFailure : Bool) :
    beginProgram (storeInvalid pos { s.store with program := none, heldFailure := heldFailure }) =
      next (storeInvalid pos { s.store with heldFailure := heldFailure }) := by
  cases pos <;> exact beginProgram_next hnext rfl rfl

include hnext in
theorem commitProgram_checkpoint {k : Slot} {content : Option Checkpoint} (hw : p.write = .checkpoint k content) :
    commitProgram p s = { s with
      store := next { s.store with checkpointForms := s.store.checkpointForms.set k (.valid content) } } := by
  unfold commitProgram nextProgram reportCommit
  rw [hw]
  dsimp only
  rw [beginProgram_storeValid hnext]
  rfl

include hnext in
theorem commitProgram_retired {r : RetiredPosition} {content : Option RetiredContent} (hw : p.write = .retired r content) :
    commitProgram p s = { s with
      store := next { s.store with retiredForms := s.store.retiredForms.set r (.valid content) } } := by
  unfold commitProgram nextProgram reportCommit
  rw [hw]
  dsimp only
  rw [beginProgram_storeValid hnext]
  rfl

include hnext in
/-- While RESET_N is asserted the commit of a key is held (R181; log 27). -/
theorem commitProgram_keyHeld {k : RootKey} (hw : p.write = .key k) (ha : s.resetAsserted = true) :
    commitProgram p s = { s with keyCommitHeld := true, store := next { s.store with keyForm := .valid k } } := by
  unfold commitProgram nextProgram reportCommit
  rw [hw]
  dsimp only
  rw [if_pos ha, beginProgram_storeValid hnext]
  rfl

/-- The state in which the commit of a key asks the slots. -/
def keyProgrammed (k : RootKey) (s : State) : State :=
  { s with store := storeValid (.key k) { s.store with program := none } }

theorem commitProgram_key {k : RootKey} (hw : p.write = .key k) (ha : s.resetAsserted = false)
    (hstream : s.port.stream ≠ .resumePending) :
    commitProgram p s = nextProgram (keyCommitted k (keyProgrammed k s)) := by
  have hport : (keyCommitted k (keyProgrammed k s)).port = s.port := by rw [keyCommitted_asked k (keyProgrammed k s)]; rfl
  have hwait : waitTest (keyCommitted k (keyProgrammed k s)) = keyCommitted k (keyProgrammed k s) :=
    waitTest_of_ne (by rw [hport]; exact hstream)
  rw [commitProgram, hw]
  unfold reportCommit
  dsimp only
  rw [if_neg (by simp [ha])]
  exact congrArg nextProgram hwait

include hnext in
theorem beginProgram_keyProgrammed (k : RootKey) :
    beginProgram (keyProgrammed k s).store = next { s.store with keyForm := .valid k } :=
  beginProgram_storeValid hnext (.key k)

/-- A slot after the commit of a key: not UNVERIFIED it stays, UNVERIFIED and at rest it waits for its supply (R124). -/
theorem slot_keyCommitted (k : RootKey) (s : State) (n : Slot) :
    ((s.slot n).bindingState ≠ .unverified → (keyCommitted k s).slot n = s.slot n) ∧
    ((s.slot n).bindingState = .unverified → (s.slot n).record.identity ≠ none → (s.slot n).current = none →
      (s.slot n).queue = [] → (s.slot n).supply = .off →
      (keyCommitted k s).slot n = waitsFor .verify .auto
        { s.slot n with record := { (s.slot n).record with sinceVerify := 0 } }) := by
  obtain ⟨u, hu, hslot, hn⟩ := overSlots_slot (P := AskedFrom { s with key := .present k }) slotWork_askUnverified
    (fun n _ hu => hu.ask n) (.refl _) n
  replace hslot : u.slot n = s.slot n := hslot
  have hn : (keyCommitted k s).slot n = (askUnverified n u).slot n := hn
  rw [hn, ← hslot]
  refine ⟨fun hb => by rw [askUnverified_of_ne hb], fun hb hi hcur hq hoff => ?_⟩
  rw [askUnverified, if_pos hb, askAuto_waits hcur hq hoff (by simp [MeetsCondition, hb, hi]) (.inr rfl)
    fun _ => hu.keyPresent rfl, State.slot_setSlot_self]
  rfl

include hnext in
/-- With sound slots each UNVERIFIED slot is asked in the order of the slots (R124; log 13). -/
theorem nextProgram_keyCommitted {k : RootKey} (hs : SlotsWf s) :
    nextProgram (keyCommitted k (keyProgrammed k s)) = overSlots State.verifyAsked
      { s with key := .present k, store := next { s.store with keyForm := .valid k } } := by
  have hasked : keyCommitted k (keyProgrammed k s) =
      overSlots State.verifyAsked { keyProgrammed k s with key := .present k } :=
    overSlots_congr (P := AskedFrom { keyProgrammed k s with key := .present k }) slotWork_askUnverified
      (fun n _ hu => hu.ask n) (fun n u hu hslot => askUnverified_eq_verifyAsked (hu.keyPresent rfl)
        (hslot ▸ hs.control n) (hslot ▸ hs.binding n)) (.refl _)
  have hstore : (keyCommitted k (keyProgrammed k s)).store = (keyProgrammed k s).store := by
    rw [keyCommitted_asked k (keyProgrammed k s)]
  rw [nextProgram, hstore, beginProgram_keyProgrammed hnext, hasked]
  exact (withStore_overSlots_verifyAsked _ _).symm

include hnext in
/-- The second verify that fails leaves the position INVALID (R177). -/
theorem abandonProgram_eq : abandonProgram p s =
    { State.raise s .storeWriteFail with
        store := next (storeInvalid p.write.pos { s.store with heldFailure := s.store.heldFailure || s.resetAsserted }),
        key := if p.write.pos = .key then .absent else s.key } := by
  have hstore := beginProgram_storeInvalid hnext p.write.pos (s.store.heldFailure || s.resetAsserted)
  have hraise := raise_withStore .storeWriteFail (storeInvalid p.write.pos
    { s.store with program := none, heldFailure := s.store.heldFailure || s.resetAsserted }) s
  rw [State.withStore] at hraise
  unfold abandonProgram nextProgram
  dsimp only
  rw [hraise, ← hstore, State.raise_frame _ s]
  cases p.write <;> rfl

end Ended

/-- Settles O51: the store takes a write by its queue, and a program's end is followed by the next and by what the record's owner
does. -/
theorem commitQueueAndPrograms : Obligations.CommitQueueAndPrograms := by
  refine ⟨fun w s hs ha => ⟨requestWrite_replaces hs, fun _ => requestWrite_begins hs, requestWrite_joins,
    requestWrite_overflows ha⟩, fun p next s hp hnext => ⟨fun k content hw => ?_, fun r content hw => ?_, fun k hw ha => ?_,
    fun k hw ha hstream => ?_, fun k hw ha hstream hs => ?_, fun h1 => ?_, fun h1 ha => ?_, fun h1 ha => ?_⟩⟩
  · rw [exec_verifyPasses hp, commitProgram_checkpoint hnext hw]
  · rw [exec_verifyPasses hp, commitProgram_retired hnext hw]
  · rw [exec_verifyPasses hp, commitProgram_keyHeld hnext hw ha]
  · have hframe := keyCommitted_asked k (keyProgrammed k s)
    have hslots := slot_keyCommitted k (keyProgrammed k s)
    refine ⟨_, by rw [exec_verifyPasses hp, commitProgram_key hw ha hstream], ?_⟩
    generalize keyCommitted k (keyProgrammed k s) = u at hframe hslots
    refine ⟨by rw [hframe]; rfl, ?_, by rw [hframe]; rfl, by rw [hframe]; rfl, by rw [hframe]; rfl, by rw [hframe]; rfl, hslots⟩
    rw [hframe]
    exact beginProgram_keyProgrammed hnext k
  · rw [exec_verifyPasses hp, commitProgram_key hw ha hstream, nextProgram_keyCommitted hnext hs]
  · rw [exec_verifyFails hp, if_pos h1]
  · have hheld : (s.store.heldFailure || s.resetAsserted) = s.store.heldFailure := by rw [ha, Bool.or_false]
    rw [exec_verifyFails hp, if_neg h1, abandonProgram_eq hnext, hheld, raise_of_released ha]
    rfl
  · have hraise : s.raise .storeWriteFail = s := if_pos ha
    have hheld : (s.store.heldFailure || s.resetAsserted) = true := by rw [ha, Bool.or_true]
    rw [exec_verifyFails hp, if_neg h1, abandonProgram_eq hnext, hraise, hheld]

end Sys2Proof.Machine
end
